-- ==== Sys2Proof/Word.lean ====
section
/-! DEFINITION. The word type and the index types of the ZC-1632 (spec/00_scope.md, "Terms and abbreviations" and
"Fixed numbers"). Bit vectors stand only for what the document treats as bits or as wrapping counts (R1, R2). -/

namespace Sys2Proof

/-- A byte of a link frame, of a reply or of Link N (R175, R185). -/
abbrev Byte := BitVec 8

/-- A 16-bit wrapping count: the timestamp, a note serial or a scan round number (R2, R6, R86, R197). -/
abbrev Stamp := BitVec 16

/-- A part P0 to P3. -/
abbrev PartId := Fin 4

/-- A voice V0 to V15. -/
abbrev VoiceId := Fin 16

/-- An oscillator 0 to 31; voice v has 2v (OSC-A) and 2v + 1 (OSC-B). -/
abbrev OscId := Fin 32

/-- An anchor 0 to 7 of an oscillator. -/
abbrev AnchorId := Fin 8

/-- A part-parameter index 0 to 39 (R50). -/
abbrev ParamId := Fin 40

/-- A global parameter G0 to G15 (R51). -/
abbrev GlobalId := Fin 16

/-- A note number 0 to 127. -/
abbrev Key := Fin 128

/-- A potentiometer K0 to K127. -/
abbrev ControlId := Fin 128

/-- A panel switch S0 to S63. -/
abbrev SwitchId := Fin 64

/-- A sample-and-hold address 0 to 215, which is also a slot of the refresh round (R171). -/
abbrev ChannelId := Fin 216

end Sys2Proof
end

