-- ==== Sys2Proof/Config.lean ====
section
/-! DEFINITION. The free values: constants without a body, so that no proof can rest on one of their values. -/

namespace Sys2Proof

/-- FREE VALUE (assumption log 4). The number of measuring-clock ticks between the last event of a running period
count and the moment the count is abandoned (R134: the counter stops "at the value it holds"). The commands carry no
time, so the model knows nothing about this number. The argument is `State.freeIndex`. -/
opaque Config.ticksSinceEdge : Nat → Nat

/-- FREE VALUE (assumption log 5). What the LOG unit returns for a count below 32, for which R130 states no result. -/
opaque Config.logBelow32 : Nat → Nat

/-- FREE VALUE (assumption log 11). The pass count and the fail count that TUNE_ABORT returns when no run exists, for
which R147 and R183 state no value. -/
opaque Config.passWithoutRun : Byte

/-- See `Config.passWithoutRun`. -/
opaque Config.failWithoutRun : Byte

end Sys2Proof
end

