-- ==== Sys2Proof/Syntax.lean ====
section
/-! DEFINITION. The commands of the ZC-1632: one constructor for each row of spec/opcode_table.json, in its order.
A request row carries the link its frame came on and the payload bytes of the frame (R175, R183), so that a payload
of a wrong length is a command like any other. -/

namespace Sys2Proof

/-- One of the two request links (spec/00_scope.md, "Terms and abbreviations"). -/
inductive Link where
  | a
  | b
deriving DecidableEq, Repr

/-- The commands. Requests R182, then the other frames and events of the links, then the timers and inputs. -/
inductive Instr where
  | keyOn (link : Link) (payload : List Byte)
  | keyOff (link : Link) (payload : List Byte)
  | hold (link : Link) (payload : List Byte)
  | bend (link : Link) (payload : List Byte)
  | allOff (link : Link) (payload : List Byte)
  | paramSet (link : Link) (payload : List Byte)
  | paramGet (link : Link) (payload : List Byte)
  | stageWrite (link : Link) (payload : List Byte)
  | stageClear (link : Link) (payload : List Byte)
  | apply (link : Link) (payload : List Byte)
  | morphCancel (link : Link) (payload : List Byte)
  | curveSet (link : Link) (payload : List Byte)
  | mapKnob (link : Link) (payload : List Byte)
  | mapSwitch (link : Link) (payload : List Byte)
  | panelRead (link : Link) (payload : List Byte)
  | tuneStart (link : Link) (payload : List Byte)
  | tuneAbort (link : Link) (payload : List Byte)
  | calRead (link : Link) (payload : List Byte)
  | calWrite (link : Link) (payload : List Byte)
  | voiceEnable (link : Link) (payload : List Byte)
  | voiceDisable (link : Link) (payload : List Byte)
  | voiceRead (link : Link) (payload : List Byte)
  | noticeRead (link : Link) (payload : List Byte)
  | noticeAck (link : Link) (payload : List Byte)
  | noticeConfig (link : Link) (payload : List Byte)
  | status (link : Link) (payload : List Byte)
  | resetVoices (link : Link) (payload : List Byte)
  | resetPanel (link : Link) (payload : List Byte)
  | resetDevice (link : Link) (payload : List Byte)
  /-- A request frame, all its bytes, that R177 refuses at its frame length or at its code. -/
  | unknownRequest (link : Link) (frame : List Byte)
  /-- A FETCH frame and the number of whole bytes shifted in it, its code byte counted (R178). -/
  | fetch (link : Link) (frameBytes : Nat)
  /-- A request frame that ends while its link is busy, and its number of bytes (R179). -/
  | requestBusyDiscard (link : Link) (frameBytes : Nat)
  /-- A frame that ends while a reset runs, and its number of bytes (R196). -/
  | frameDuringReset (link : Link) (frameBytes : Nat)
  /-- A frame that holds no whole byte (R175). -/
  | emptyFrame (link : Link)
  | replyReady (link : Link)
  | powerOnReset
  | rstbRelease
  | resetEnd
  /-- A byte received on NRX; `good` says whether its stop bit was high (R186). -/
  | linkNByte (good : Bool) (value : Byte)
  | parseByte
  | lineErrorTimerExpiry
  | dampExpiry (voice : VoiceId)
  | releaseWindowExpiry (voice : VoiceId)
  /-- Expiry of the timeout of the deferred entry at this place of the list, 0 the oldest (R22). -/
  | deferTimeout (place : Fin 8)
  | retriggerPulseEnd (voice : VoiceId)
  | morphStep (part : PartId)
  | scanPeriodExpiry
  /-- The settle at a mux address ends; bit c of `columns` is set when the switch of column c is CLOSED (R86, R95). -/
  | scanAddressSettled (columns : BitVec 8)
  /-- The ADC conversion in hand completes with this 12-bit value (R86, R90). -/
  | controlConversion (raw : BitVec 12)
  | stillTimeoutExpiry (control : ControlId)
  | settleExpiry
  /-- A rising edge of FIN, `ticks` measuring-clock ticks after the edge timer was last started (R120, R124). -/
  | finEdge (ticks : Nat)
  | edgeTimerExpiry
  | periodCounterSaturation
  | retuneTimerExpiry
  | glideStep (voice : VoiceId)
  | outputSlot
  | timestampTick
deriving DecidableEq, Repr

end Sys2Proof
end

