-- ==== Sys2Proof/Machine/State.lean ====
section
/-! DEFINITION. The state of the ZC-1632 as plain data, block by block in the order of the block overview of
spec/00_scope.md, and the state right after a power-on reset.

A field that the document marks "present only when …" stands here under the constructor or the `Option` that says
when; an absent field has no value. A timer holds the time it was last started with, and is present while it runs
(assumption log 2). Values that can be computed from others are not stored: the gate and damp lines (R174), the
attention lines (R194), `put` and `fill` of a notice queue (R190), a control's position (R88). -/

namespace Sys2Proof.Machine

/-! ### Voice allocator: the voice table (R4), the deferred list (R21), the performance records (R32) -/

/-- The key and the velocity of a note (R4). -/
structure Note where
  key : Key
  velocity : Nat
deriving DecidableEq, Repr

/-- Where a note came from (R7, R16). -/
inductive Source where
  | linkA
  | linkB
  | line
deriving DecidableEq, Repr

/-- The kind of a successor (R16). -/
inductive SuccessorKind where
  | note
  | set
deriving DecidableEq, Repr

/-- The note bound to a DAMPING voice (R16). -/
structure Successor where
  part : PartId
  key : Key
  velocity : Nat
  source : Source
  kind : SuccessorKind
deriving DecidableEq, Repr

/-- Why a voice is OFFLINE (R4, R26). -/
inductive OfflineReason where
  | disabled
  | fault
deriving DecidableEq, Repr

/-- The state of a voice with the fields that R4 gives it in that state only. -/
inductive VoicePhase where
  | idle
  /-- `pulse`: the retrigger pulse, in µs, present while one runs (R9). -/
  | gated (note : Note) (sustained : Bool) (pulse : Option Nat)
  /-- `start`: the release start; `window`: the release-window timer, in ms (R20). -/
  | released (note : Note) (start : Stamp) (window : Nat)
  /-- `timer`: the damp timer, in ms (R15). -/
  | damping (note : Note) (successor : Option Successor) (disablePending : Bool) (timer : Nat)
  /-- `override`: the DAC code of the pitch override (R135). -/
  | tuning (override : Nat)
  | offline (reason : OfflineReason)
deriving DecidableEq, Repr

/-- A record of the voice table (R4). -/
structure Voice where
  phase : VoicePhase
  part : PartId
  serial : Stamp
  releaseStamp : Stamp
  claim : Bool
  clamped : Bool
deriving DecidableEq, Repr

/-- An entry of the deferred list (R21); `timeout` is its running deferral timeout, in ms (R22). -/
structure Deferred where
  part : PartId
  key : Key
  velocity : Nat
  arrival : Stamp
  timeout : Nat
deriving DecidableEq, Repr

/-- An entry of a held-key list (spec/02_mono_unison_and_sustain.md, 2.2). -/
structure HeldKey where
  key : Key
  velocity : Nat
  source : Source
  sustained : Bool
deriving DecidableEq, Repr

/-- The five note counters of a part (R30). -/
structure Counters where
  notesIn : Nat
  sounded : Nat
  dropped : Nat
  refused : Nat
  cancelled : Nat
deriving DecidableEq, Repr

/-- The performance record of a part (R32), with its note counters (R30) and the order in which its pending
successors were bound, oldest first (R63). -/
structure Perf where
  held : List HeldKey
  selected : Option Key
  monoSet : List VoiceId
  wanted : Option Nat
  hold : Bool
  bend : Nat
  counters : Counters
  bound : List VoiceId
deriving DecidableEq, Repr

/-! ### Patch engine: the parameter image (R48), the apply slots (R72), the curve template (R75) -/

/-- The curve of a morph (R69). -/
inductive Curve where
  | linear
  | template
deriving DecidableEq, Repr

/-- An entry of an apply slot (R72). -/
structure MorphEntry where
  index : ParamId
  start : Nat
  target : Nat
  prior : Nat
  switched : Bool
deriving DecidableEq, Repr

/-- An apply slot in MORPHING (R72); an IDLE slot is `none`. Its 2 ms step timer runs exactly while it exists. -/
structure Morph where
  origin : Link
  entries : List MorphEntry
  total : Nat
  elapsed : Nat
  curve : Curve
  taken : Nat
deriving DecidableEq, Repr

/-- The three levels of the curve template (R75). -/
structure CurveTemplate where
  l1 : Nat
  l2 : Nat
  l3 : Nat
deriving DecidableEq, Repr

/-! ### Panel scanner: control records (R88), switch records (R95), the scan round (R86, R87) -/

/-- The fields of a control record that are present only when it is seeded (R88). The position is filtered >> 4. -/
structure Seeded where
  filtered : Nat
  reported : Nat
deriving DecidableEq, Repr

/-- The motion of a control; MOVING holds the still timer, in ms (R88, R92). -/
inductive Motion where
  | still
  | moving (timer : Nat)
deriving DecidableEq, Repr

/-- The direction of a control's last move event (R88, R93). -/
inductive Direction where
  | none
  | up
  | down
deriving DecidableEq, Repr

/-- A control record (R88). NOISY is set exactly when `noisy` holds the quiet count. -/
structure Control where
  seed : Option Seeded
  motion : Motion
  direction : Direction
  reversals : List Stamp
  noisy : Option Nat
deriving DecidableEq, Repr

/-- The debounce count of a switch: the candidate level and its run (R95). -/
structure Candidate where
  closed : Bool
  run : Nat
deriving DecidableEq, Repr

/-- A seeded switch record: the debounced state and the count in hand (R95). -/
structure SwitchSeed where
  closed : Bool
  candidate : Option Candidate
deriving DecidableEq, Repr

/-- The place a running scan round has reached at a mux address (R86). -/
inductive ScanPhase where
  | settling
  | converting (input : Fin 16)
deriving DecidableEq, Repr

/-- A running scan round (R86). -/
structure ScanRound where
  address : Fin 8
  phase : ScanPhase
deriving DecidableEq, Repr

/-- The panel scanner's own state (R86, R87): the round number, the skipped-round counter, the period timer in ms,
the running round, and the address on MSEL0–MSEL2. -/
structure Scanner where
  roundNumber : Stamp
  skipped : Nat
  period : Option Nat
  round : Option ScanRound
  msel : Fin 8
deriving DecidableEq, Repr

/-! ### Control map: knob bindings (R102) and switch bindings (R113) -/

/-- The mode of a knob binding (R102). -/
inductive KnobMode where
  | jump
  | catch
  | scale
deriving DecidableEq, Repr

/-- A pickup state (spec/06_control_map_and_pickup.md, 6.3). -/
inductive Pickup where
  | live
  | catchUp
  | catchDown
  | scale
deriving DecidableEq, Repr

/-- A knob binding that has a target (R102); a binding without a target is `none`. -/
structure KnobBinding where
  part : PartId
  index : ParamId
  mode : KnobMode
  pickup : Pickup
deriving DecidableEq, Repr

/-- The kind of a HOLD switch binding (R113). -/
inductive HoldKind where
  | momentary
  | latched
deriving DecidableEq, Repr

/-- A switch binding: its action and the arguments of that action (R113). -/
inductive SwitchAction where
  | none
  | report
  | stepParam (part : PartId) (index : ParamId)
  | hold (mask : BitVec 4) (kind : HoldKind)
  | allOff (mask : BitVec 4)
deriving DecidableEq, Repr

/-! ### Tune engine: measurement (R122), the run (R136), calibration records (R152), candidate (R153) -/

/-- The phase of a measurement outside IDLE, with the fields that R122 gives it in that phase only. -/
inductive MeasurePhase where
  | settle
  | probeWait
  | probe
  | count (c1 : Nat) (n : Nat) (periods : Nat)
deriving DecidableEq, Repr

/-- The measurement record outside IDLE (R122). `timer` is the settle timer in SETTLE and the edge timer in the other
phases, in ms. -/
structure Measurement where
  voice : VoiceId
  osc : OscId
  anchor : AnchorId
  attempt : Nat
  phase : MeasurePhase
  timer : Nat
deriving DecidableEq, Repr

/-- An anchor entry of a candidate, once written (R132). -/
inductive AnchorResult where
  | passed (pitch : Nat)
  | dead
  | unstable
  | outOfRange
deriving DecidableEq, Repr

/-- The candidate of the oscillator under measurement (R132, R153). -/
structure CalCandidate where
  osc : OscId
  entries : Vector (Option AnchorResult) 8
deriving DecidableEq, Repr

/-- A calibration result (R152). -/
inductive CalResult where
  | none
  | pass
  | dead
  | unstable
  | shortRun
  | noSignal
  | aborted
deriving DecidableEq, Repr

/-- An active record: NOMINAL, or CALIBRATED with its first kept anchor and the P values of its kept anchors in
anchor order, so that its last kept anchor is `first` + the number of values − 1 (R152). -/
inductive CalMap where
  | nominal
  | calibrated (first : Nat) (pitches : List Nat)
deriving DecidableEq, Repr

/-- A calibration record (R152). -/
structure CalRecord where
  map : CalMap
  lastResult : CalResult
  unstableCount : Nat
  tuneCount : Nat
deriving DecidableEq, Repr

/-- The mode of a tune run (R136). -/
inductive RunMode where
  | background
  | foreground
deriving DecidableEq, Repr

/-- The part of the run record that is present only in MEASURING (R136). `second` is no while OSC-A is the current
oscillator and yes for OSC-B. -/
structure Current where
  voice : VoiceId
  second : Bool
  anchor : AnchorId
  aResult : Option CalResult
deriving DecidableEq, Repr

/-- A tune run (R136): WAITING when `current` is absent, MEASURING when it is present. `marks` holds the from-fault
mark of each voice that entered TUNING for the run. -/
structure Run where
  mode : RunMode
  requester : Option Link
  queue : List VoiceId
  current : Option Current
  marks : List (VoiceId × Bool)
  passCount : Nat
  failCount : Nat
deriving DecidableEq, Repr

/-! ### Output engine: glide records (R158), the refresh round and its channels (R171) -/

/-- A glide record (R158); its 1 ms timer runs exactly while the target is present. -/
structure Glide where
  position : Nat
  target : Option Nat
deriving DecidableEq, Repr

/-- The output engine's round and outputs (R171): the next slot (absent while the round is stopped, R173), the codes
held by the 216 sample-and-hold channels, the code last sent to the DAC and the address last put on SHA0–SHA7. -/
structure Output where
  slot : Option ChannelId
  channels : Vector Nat 216
  dac : Nat
  sha : ChannelId
deriving DecidableEq, Repr

/-! ### Link unit: replies (R178, R180), staging (R66), notice queues (R190), Link N (R186–R189), reset (R196) -/

/-- A reply status (R180). NO_REPLY and PENDING are shifted out by FETCH and are never held. -/
inductive Status where
  | ok
  | unknown
  | length
  | range
  | tuneBusy
  | voiceBusy
  | badIndex
deriving DecidableEq, Repr

/-- The flags of a reply (R181). -/
structure ReplyFlags where
  clamped : Bool
  nothing : Bool
  overrun : Bool
deriving DecidableEq, Repr

/-- A reply (R180); its length byte is the number of data bytes. -/
structure Reply where
  echo : Byte
  status : Status
  flags : ReplyFlags
  data : List Byte
deriving DecidableEq, Repr

/-- The kinds of notice (R195). -/
inductive NoticeKind where
  | noteDropped
  | unisonShort
  | pitchClamped
  | paramChanged
  | applied
  | applySuperseded
  | morphCancelled
  | controlMoved
  | controlTaken
  | switchChanged
  | controlNoisy
  | tuneVoiceDone
  | tuneRunDone
  | voiceOffline
  | resetDone
  | lineError
deriving DecidableEq, Repr

/-- A stored notice (R195). -/
structure Notice where
  kind : NoticeKind
  subject : Nat
  value1 : Nat
  value2 : Nat
  stamp : Stamp
deriving DecidableEq, Repr

/-- A notice queue (R190): the stored notices from slot `get` on, oldest first, the lost count, the group mask and
the watermark (R193). `fill` is the number of stored notices and `put` is (get + fill) mod 32. -/
structure NoticeQueue where
  stored : List Notice
  get : Fin 32
  lost : Nat
  mask : BitVec 8
  watermark : Nat
deriving DecidableEq, Repr

/-- What one request link owns: the reply slot (R178), the reply of the request in process (the link is busy exactly
while there is one, R176), the overrun count and mark (R179), the staging buffer (R66), the notice queue (R190), and
the bytes that the part shifted out on SO during the link's last frame (R175, R178). -/
structure LinkUnit where
  slot : Option Reply
  inProcess : Option Reply
  overruns : Nat
  overrunMark : Bool
  staging : Vector (Option Nat) 40
  queue : NoticeQueue
  shifted : List Byte
deriving DecidableEq, Repr

/-- A byte of the Link N input FIFO (R186). -/
structure LineByte where
  good : Bool
  value : Byte
deriving DecidableEq, Repr

/-- The state of the Link N parser with the bytes it holds in that state (R187). -/
inductive ParserState where
  | waitStatus
  | data1 (status : Byte)
  | data2 (status : Byte) (first : Byte)
deriving DecidableEq, Repr

/-- The kinds of line error that have been seen since the last LINE_ERROR (R189). -/
structure ErrorMask where
  frame : Bool
  byte : Bool
  overrun : Bool
deriving DecidableEq, Repr

/-- Link N (R186–R189): FIFO, parser, the three counters, the error accumulator and mask, the pacing timer in ms. -/
structure LineUnit where
  fifo : List LineByte
  parser : ParserState
  frameErrors : Nat
  byteErrors : Nat
  fifoOverruns : Nat
  accumulator : Nat
  errors : ErrorMask
  pacing : Option Nat
deriving DecidableEq, Repr

/-- The cause of a reset (R195, RESET_DONE). -/
inductive ResetCause where
  | powerOn
  | device (requester : Link)
deriving DecidableEq, Repr

/-- The state of the part. -/
structure State where
  /-- The commands that wait, first in, first out (the model's own field). -/
  pending : List Instr
  /-- The next index of a free value (the model's own field, assumption log 4). -/
  freeIndex : Nat
  voices : Vector Voice 16
  serial : Stamp
  deferred : List Deferred
  perf : Vector Perf 4
  params : Vector (Vector Nat 40) 4
  globals : Vector Nat 16
  slots : Vector (Option Morph) 4
  template : CurveTemplate
  controls : Vector Control 128
  switches : Vector (Option SwitchSeed) 64
  scanner : Scanner
  knobs : Vector (Option KnobBinding) 128
  switchActions : Vector SwitchAction 64
  measurement : Option Measurement
  periodCounter : Nat
  fsel : OscId
  run : Option Run
  candidate : Option CalCandidate
  calibration : Vector CalRecord 32
  /-- The retune timer, in minutes (R151). -/
  retune : Option Nat
  glides : Vector Glide 16
  output : Output
  linkA : LinkUnit
  linkB : LinkUnit
  lineUnit : LineUnit
  timestamp : Stamp
  /-- The level of the RSTB pin. -/
  rstb : Bool
  /-- The reset that runs, with its 2 ms timer, in ms (R196). -/
  resetRun : Option (ResetCause × Nat)
deriving DecidableEq, Repr

/-- Why the part stops. The document names no event that stops it: this type has no constructor, so no command ever
ends in a fault. -/
inductive Fault where
deriving DecidableEq, Repr

/-- Why a command has no meaning. -/
inductive Refusal where
  /-- Raised by an arm of `exec` whose command has no meaning yet (safe: nothing can be proved of it). No arm
  raises it. -/
  | notModelled (mnemonic : String)
deriving DecidableEq, Repr

/-! ### Reset values -/

/-- An IDLE voice at its reset values (R4). -/
def Voice.atReset : Voice :=
  { phase := .idle, part := 0, serial := 0, releaseStamp := 0, claim := false, clamped := false }

/-- A performance record at its reset values (R30, R32, R63). -/
def Perf.atReset : Perf :=
  { held := [], selected := none, monoSet := [], wanted := none, hold := false, bend := 8192
    counters := { notesIn := 0, sounded := 0, dropped := 0, refused := 0, cancelled := 0 }, bound := [] }

/-- The defaults of the part parameters (R50), indices 0 to 39. -/
def paramDefaults : Vector Nat 40 :=
  #v[24, 256, 24, 256, 8192, 8192, 16383, 0, 16383, 0,
     0, 0, 0, 8192, 16383, 4096, 12000, 0, 0, 2,
     24, 0, 0, 0, 0, 2, 0, 0, 0, 16,
     255, 255, 0, 127, 500, 0, 0, 1, 1, 1]

/-- The defaults of the global parameters (R51), G0 to G15. -/
def globalDefaults : Vector Nat 16 :=
  #v[256, 2, 20, 2, 3, 0, 500, 2, 0, 0, 0, 0, 0, 0, 0, 0]

/-- An unseeded control record (R88). -/
def Control.atReset : Control :=
  { seed := none, motion := .still, direction := .none, reversals := [], noisy := none }

/-- A calibration record at its reset values (R152). -/
def CalRecord.atReset : CalRecord :=
  { map := .nominal, lastResult := .none, unstableCount := 0, tuneCount := 0 }

/-- An empty notice queue with its reset subscription and watermark (R190, R193). -/
def NoticeQueue.atReset : NoticeQueue :=
  { stored := [], get := 0, lost := 0, mask := 16, watermark := 1 }

/-- A request link at its reset values (R66, R178, R179, R190, R193). -/
def LinkUnit.atReset : LinkUnit :=
  { slot := none, inProcess := none, overruns := 0, overrunMark := false
    staging := Vector.replicate 40 none, queue := NoticeQueue.atReset, shifted := [] }

/-- Link N at its reset values (R188, R189). -/
def LineUnit.atReset : LineUnit :=
  { fifo := [], parser := .waitStatus, frameErrors := 0, byteErrors := 0, fifoOverruns := 0, accumulator := 0
    errors := { frame := false, byte := false, overrun := false }, pacing := none }

/-- The RESET_DONE of a power-on reset: cause 0, requesting link NONE (R195, R196). -/
def powerOnDone : Notice :=
  { kind := .resetDone, subject := 0, value1 := 0, value2 := 15, stamp := 0 }

/-- A request link at the end of a power-on reset: as at reset, with RESET_DONE stored (R196). -/
def LinkUnit.afterPowerOn : LinkUnit :=
  { LinkUnit.atReset with queue := { NoticeQueue.atReset with stored := [powerOnDone] } }

/-- The part at the end of a power-on reset: every block at the value its chapter gives; RESET_DONE posted to each
link (R196); the scan period timer started with 2 ms and round number 1 started with it (R101); the refresh round at
slot 0 (R173). The codes held by the sample-and-hold channels and on the DAC and address lines are the model's
(assumption log 6). -/
def State.reset : State :=
  { pending := []
    freeIndex := 0
    voices := Vector.replicate 16 Voice.atReset
    serial := 0
    deferred := []
    perf := Vector.replicate 4 Perf.atReset
    params := Vector.replicate 4 paramDefaults
    globals := globalDefaults
    slots := Vector.replicate 4 none
    template := { l1 := 256, l2 := 512, l3 := 768 }
    controls := Vector.replicate 128 Control.atReset
    switches := Vector.replicate 64 none
    scanner :=
      { roundNumber := 1, skipped := 0, period := some 2, round := some { address := 0, phase := .settling }
        msel := 0 }
    knobs := Vector.replicate 128 none
    switchActions := Vector.replicate 64 .none
    measurement := none
    periodCounter := 0
    fsel := 0
    run := none
    candidate := none
    calibration := Vector.replicate 32 CalRecord.atReset
    retune := none
    glides := Vector.replicate 16 { position := 0, target := none }
    output := { slot := some 0, channels := Vector.replicate 216 0, dac := 0, sha := 0 }
    linkA := LinkUnit.afterPowerOn
    linkB := LinkUnit.afterPowerOn
    lineUnit := LineUnit.atReset
    timestamp := 0
    rstb := true
    resetRun := none }

end Sys2Proof.Machine
end

