-- ==== Sys2Proof/Machine/Catalogue.lean ====
section
/-! DEFINITION. The document's catalogues: parameter descriptors (R50, R51), request codes (R182), status codes
(R180), notice codes and groups (R193, R195), and the codes that replies carry (R152, R183, R184). -/

namespace Sys2Proof.Machine

/-! ### Parameters -/

/-- The class of a part parameter (R49). -/
inductive ParamClass where
  | cont
  | step
  | struct
deriving DecidableEq, Repr

/-- A descriptor of a part parameter: class, minimum and maximum (R48, R50). Its default stands in
`paramDefaults`. -/
structure Descriptor where
  cls : ParamClass
  min : Nat
  max : Nat
deriving DecidableEq, Repr

/-- Descriptors of indices 0 to 21 (R50). -/
def descriptorsLow : List Descriptor :=
  [⟨.step, 0, 48⟩, ⟨.cont, 0, 512⟩, ⟨.step, 0, 48⟩, ⟨.cont, 0, 512⟩, ⟨.cont, 0, 16383⟩, ⟨.cont, 0, 16383⟩,
   ⟨.cont, 0, 16383⟩, ⟨.cont, 0, 16383⟩, ⟨.cont, 0, 16383⟩, ⟨.cont, 0, 16383⟩, ⟨.cont, 0, 256⟩,
   ⟨.cont, 0, 16383⟩, ⟨.cont, 0, 16383⟩, ⟨.cont, 0, 16383⟩, ⟨.cont, 0, 16383⟩, ⟨.cont, 0, 16383⟩,
   ⟨.cont, 0, 16383⟩, ⟨.cont, 0, 16383⟩, ⟨.cont, 0, 4096⟩, ⟨.step, 0, 12⟩, ⟨.step, 0, 48⟩, ⟨.cont, 0, 256⟩]

/-- Descriptors of indices 22 to 39 (R50). -/
def descriptorsHigh : List Descriptor :=
  [⟨.struct, 0, 2⟩, ⟨.struct, 0, 2⟩, ⟨.step, 0, 1⟩, ⟨.struct, 1, 8⟩, ⟨.struct, 0, 3⟩, ⟨.struct, 0, 1⟩,
   ⟨.struct, 0, 16⟩, ⟨.struct, 0, 16⟩, ⟨.struct, 0, 255⟩, ⟨.struct, 0, 255⟩, ⟨.struct, 0, 127⟩,
   ⟨.struct, 0, 127⟩, ⟨.step, 0, 4000⟩, ⟨.cont, 0, 16383⟩, ⟨.cont, 0, 16383⟩, ⟨.step, 0, 1⟩, ⟨.step, 0, 1⟩,
   ⟨.struct, 0, 1⟩]

/-- The descriptors of the 40 part parameters (R50). -/
def descriptors : Vector Descriptor 40 := ⟨⟨descriptorsLow ++ descriptorsHigh⟩, by decide⟩

/-- The descriptor of a part parameter, the same for all four parts (R48). -/
def descriptor (i : ParamId) : Descriptor := descriptors[i]

/-- Minimum and maximum of the 16 global parameters (R51). -/
def globalRanges : Vector (Nat × Nat) 16 :=
  #v[(0, 512), (1, 20), (0, 100), (1, 8), (2, 8), (0, 240), (100, 2000), (0, 4),
     (0, 16383), (0, 16383), (0, 16383), (0, 16383), (0, 16383), (0, 16383), (0, 16383), (0, 16383)]

/-- A part parameter of class STRUCT (R49). -/
def isStruct (i : ParamId) : Bool := (descriptor i).cls == .struct

/-- The indices of the part parameters that rules read by name (R50). -/
def pOscACoarse : ParamId := 0
def pOscAFine : ParamId := 1
def pOscBCoarse : ParamId := 2
def pOscBFine : ParamId := 3
def pPwA : ParamId := 4
def pPwB : ParamId := 5
def pMixA : ParamId := 6
def pMixB : ParamId := 7
def pCutoff : ParamId := 8
def pResonance : ParamId := 9
def pFltKeytrack : ParamId := 10
def pFltVelocity : ParamId := 11
def pEnvAttack : ParamId := 12
def pEnvDecay : ParamId := 13
def pEnvSustain : ParamId := 14
def pEnvRelease : ParamId := 15
def pVcaLevel : ParamId := 16
def pVcaVelocity : ParamId := 17
def pGlideRate : ParamId := 18
def pBendRange : ParamId := 19
def pTranspose : ParamId := 20
def pUnisonSpread : ParamId := 21
def pVoiceMode : ParamId := 22
def pKeyPriority : ParamId := 23
def pLegato : ParamId := 24
def pUnisonCount : ParamId := 25
def pStealPolicy : ParamId := 26
def pRetrigger : ParamId := 27
def pReserve : ParamId := 28
def pMaxVoices : ParamId := 29
def pMaskLo : ParamId := 30
def pMaskHi : ParamId := 31
def pKeyLow : ParamId := 32
def pKeyHigh : ParamId := 33
def pReleaseWindow : ParamId := 34
def pModDepth : ParamId := 35
def pModVelocity : ParamId := 36
def pHoldEnable : ParamId := 37
def pDeferEnable : ParamId := 38
def pPartEnable : ParamId := 39

/-- The global parameters that rules read by name (R51). -/
def gMasterTune : GlobalId := 0
def gDampTime : GlobalId := 1
def gDeferTimeout : GlobalId := 2
def gScanPeriod : GlobalId := 3
def gDebounceCount : GlobalId := 4
def gRetuneInterval : GlobalId := 5
def gStillTimeout : GlobalId := 6
def gKnobFilter : GlobalId := 7

/-! ### Requests -/

/-- The requests of the catalogue (R182). -/
inductive Request where
  | keyOn | keyOff | hold | bend | allOff
  | paramSet | paramGet | stageWrite | stageClear | apply | morphCancel | curveSet
  | mapKnob | mapSwitch | panelRead
  | tuneStart | tuneAbort | calRead | calWrite
  | voiceEnable | voiceDisable | voiceRead
  | noticeRead | noticeAck | noticeConfig | status
  | resetVoices | resetPanel | resetDevice
deriving DecidableEq, Repr

/-- The code of a request (R182). -/
def Request.code : Request → Byte
  | .keyOn => 0x01 | .keyOff => 0x02 | .hold => 0x03 | .bend => 0x04 | .allOff => 0x05
  | .paramSet => 0x10 | .paramGet => 0x11 | .stageWrite => 0x12 | .stageClear => 0x13 | .apply => 0x14
  | .morphCancel => 0x15 | .curveSet => 0x16
  | .mapKnob => 0x20 | .mapSwitch => 0x21 | .panelRead => 0x22
  | .tuneStart => 0x30 | .tuneAbort => 0x31 | .calRead => 0x32 | .calWrite => 0x33
  | .voiceEnable => 0x40 | .voiceDisable => 0x41 | .voiceRead => 0x42
  | .noticeRead => 0x50 | .noticeAck => 0x51 | .noticeConfig => 0x52 | .status => 0x53
  | .resetVoices => 0x60 | .resetPanel => 0x61 | .resetDevice => 0x62

/-- The catalogue in code order (R182). -/
def catalogue : List Request :=
  [.keyOn, .keyOff, .hold, .bend, .allOff, .paramSet, .paramGet, .stageWrite, .stageClear, .apply, .morphCancel,
   .curveSet, .mapKnob, .mapSwitch, .panelRead, .tuneStart, .tuneAbort, .calRead, .calWrite, .voiceEnable,
   .voiceDisable, .voiceRead, .noticeRead, .noticeAck, .noticeConfig, .status, .resetVoices, .resetPanel,
   .resetDevice]

/-- The request that a frame code names, if any (R182). -/
def Request.ofCode (c : Byte) : Option Request := catalogue.find? fun r => r.code == c

/-- The bytes after the code byte pass the frame length check (R177, check 1). -/
def goodLength : List Byte → Bool
  | [] => false
  | len :: payload => decide (len.toNat ≤ 250 ∧ payload.length = len.toNat)

/-- Status codes (R180). -/
def Status.code : Status → Byte
  | .ok => 0 | .unknown => 1 | .length => 2 | .range => 3 | .tuneBusy => 4 | .voiceBusy => 5 | .badIndex => 6

/-! ### Notices -/

/-- The notice groups (R193). -/
inductive Group where
  | notes
  | params
  | panel
  | tune
  | system
deriving DecidableEq, Repr

/-- The bit of a group in a group mask (R193). -/
def Group.bit : Group → Nat
  | .notes => 0 | .params => 1 | .panel => 2 | .tune => 3 | .system => 4

/-- The group of each notice kind (R193). -/
def NoticeKind.group : NoticeKind → Group
  | .noteDropped | .unisonShort | .pitchClamped => .notes
  | .paramChanged | .applied | .applySuperseded | .morphCancelled => .params
  | .controlMoved | .controlTaken | .switchChanged | .controlNoisy => .panel
  | .tuneVoiceDone | .tuneRunDone | .voiceOffline => .tune
  | .resetDone | .lineError => .system

/-- Kind codes (R195). -/
def NoticeKind.code : NoticeKind → Nat
  | .noteDropped => 0x01 | .unisonShort => 0x02 | .pitchClamped => 0x03
  | .paramChanged => 0x10 | .applied => 0x11 | .applySuperseded => 0x12 | .morphCancelled => 0x13
  | .controlMoved => 0x20 | .controlTaken => 0x21 | .switchChanged => 0x22 | .controlNoisy => 0x23
  | .tuneVoiceDone => 0x30 | .tuneRunDone => 0x31 | .voiceOffline => 0x32
  | .resetDone => 0x40 | .lineError => 0x41

/-! ### Codes carried in replies and notices -/

/-- The code of a link (R183). -/
def linkCode : Link → Nat
  | .a => 0 | .b => 1

/-- The code of a link that may be absent, NONE 15 (R183). -/
def linkOrNone : Option Link → Nat
  | some l => linkCode l | none => 15

/-- The code of a note's source (R183). -/
def Source.code : Source → Nat
  | .linkA => 0 | .linkB => 1 | .line => 2

/-- The source of a note that comes by a request (R7). -/
def Source.ofLink : Link → Source
  | .a => .linkA | .b => .linkB

/-- The code of a successor's kind (R183). -/
def SuccessorKind.code : SuccessorKind → Nat
  | .note => 0 | .set => 1

/-- The code of an offline reason (R183). -/
def OfflineReason.code : OfflineReason → Nat
  | .disabled => 1 | .fault => 2

/-- The code of a voice state (R183). -/
def VoicePhase.code : VoicePhase → Nat
  | .idle => 0 | .gated _ _ _ => 1 | .released _ _ _ => 2 | .damping _ _ _ _ => 3 | .tuning _ => 4 | .offline _ => 5

/-- The code of a curve (R69). -/
def Curve.code : Curve → Nat
  | .linear => 0 | .template => 1

/-- The code of a knob mode (R103). -/
def KnobMode.code : KnobMode → Nat
  | .jump => 0 | .catch => 1 | .scale => 2

/-- The code of a pickup state (R183). -/
def Pickup.code : Pickup → Nat
  | .live => 1 | .catchUp => 2 | .catchDown => 3 | .scale => 4

/-- The code of a calibration result (R152). -/
def CalResult.code : CalResult → Nat
  | .none => 0 | .pass => 1 | .dead => 2 | .unstable => 3 | .shortRun => 4 | .noSignal => 5 | .aborted => 6

/-- The code of a run mode (R137). -/
def RunMode.code : RunMode → Nat
  | .background => 0 | .foreground => 1

/-- The code of a HOLD binding's kind (R114). -/
def HoldKind.code : HoldKind → Nat
  | .momentary => 0 | .latched => 1

end Sys2Proof.Machine
end

