-- ==== Sys2Proof/WellFormed.lean ====
section
/-! DEFINITION. The commands as requests of the catalogue (R182), and which commands are well formed: those that a
link, a pin or a timer can give as the row of the table says. -/

namespace Sys2Proof

open Machine (Request)

/-- The request, link and payload of a command that is a request of the catalogue (R182). -/
def Instr.request? : Instr → Option (Request × Link × List Byte)
  | .keyOn l payload => some (.keyOn, l, payload)
  | .keyOff l payload => some (.keyOff, l, payload)
  | .hold l payload => some (.hold, l, payload)
  | .bend l payload => some (.bend, l, payload)
  | .allOff l payload => some (.allOff, l, payload)
  | .paramSet l payload => some (.paramSet, l, payload)
  | .paramGet l payload => some (.paramGet, l, payload)
  | .stageWrite l payload => some (.stageWrite, l, payload)
  | .stageClear l payload => some (.stageClear, l, payload)
  | .apply l payload => some (.apply, l, payload)
  | .morphCancel l payload => some (.morphCancel, l, payload)
  | .curveSet l payload => some (.curveSet, l, payload)
  | .mapKnob l payload => some (.mapKnob, l, payload)
  | .mapSwitch l payload => some (.mapSwitch, l, payload)
  | .panelRead l payload => some (.panelRead, l, payload)
  | .tuneStart l payload => some (.tuneStart, l, payload)
  | .tuneAbort l payload => some (.tuneAbort, l, payload)
  | .calRead l payload => some (.calRead, l, payload)
  | .calWrite l payload => some (.calWrite, l, payload)
  | .voiceEnable l payload => some (.voiceEnable, l, payload)
  | .voiceDisable l payload => some (.voiceDisable, l, payload)
  | .voiceRead l payload => some (.voiceRead, l, payload)
  | .noticeRead l payload => some (.noticeRead, l, payload)
  | .noticeAck l payload => some (.noticeAck, l, payload)
  | .noticeConfig l payload => some (.noticeConfig, l, payload)
  | .status l payload => some (.status, l, payload)
  | .resetVoices l payload => some (.resetVoices, l, payload)
  | .resetPanel l payload => some (.resetPanel, l, payload)
  | .resetDevice l payload => some (.resetDevice, l, payload)
  | .unknownRequest _ _ => none
  | .fetch _ _ => none
  | .requestBusyDiscard _ _ => none
  | .frameDuringReset _ _ => none
  | .emptyFrame _ => none
  | .replyReady _ => none
  | .powerOnReset => none
  | .rstbRelease => none
  | .resetEnd => none
  | .linkNByte _ _ => none
  | .parseByte => none
  | .lineErrorTimerExpiry => none
  | .dampExpiry _ => none
  | .releaseWindowExpiry _ => none
  | .deferTimeout _ => none
  | .retriggerPulseEnd _ => none
  | .morphStep _ => none
  | .scanPeriodExpiry => none
  | .scanAddressSettled _ => none
  | .controlConversion _ => none
  | .stillTimeoutExpiry _ => none
  | .settleExpiry => none
  | .finEdge _ => none
  | .edgeTimerExpiry => none
  | .periodCounterSaturation => none
  | .retuneTimerExpiry => none
  | .glideStep _ => none
  | .outputSlot => none
  | .timestampTick => none

/-- The command of a request of the catalogue on a link, with its payload (R182). -/
def commandOf (l : Link) (payload : List Byte) : Request → Instr
  | .keyOn => .keyOn l payload
  | .keyOff => .keyOff l payload
  | .hold => .hold l payload
  | .bend => .bend l payload
  | .allOff => .allOff l payload
  | .paramSet => .paramSet l payload
  | .paramGet => .paramGet l payload
  | .stageWrite => .stageWrite l payload
  | .stageClear => .stageClear l payload
  | .apply => .apply l payload
  | .morphCancel => .morphCancel l payload
  | .curveSet => .curveSet l payload
  | .mapKnob => .mapKnob l payload
  | .mapSwitch => .mapSwitch l payload
  | .panelRead => .panelRead l payload
  | .tuneStart => .tuneStart l payload
  | .tuneAbort => .tuneAbort l payload
  | .calRead => .calRead l payload
  | .calWrite => .calWrite l payload
  | .voiceEnable => .voiceEnable l payload
  | .voiceDisable => .voiceDisable l payload
  | .voiceRead => .voiceRead l payload
  | .noticeRead => .noticeRead l payload
  | .noticeAck => .noticeAck l payload
  | .noticeConfig => .noticeConfig l payload
  | .status => .status l payload
  | .resetVoices => .resetVoices l payload
  | .resetPanel => .resetPanel l payload
  | .resetDevice => .resetDevice l payload

/-- A frame that R177 refuses at its frame length or its code: not empty, not a FETCH frame, and failing one of the
first two checks. -/
def refusedFrame : List Byte → Bool
  | [] => false
  | code :: rest =>
    code != 0x00#8 && (!Machine.goodLength rest || (Machine.Request.ofCode code).isNone)

/-- A command is well formed: a request has at most 250 payload bytes (R177), UNKNOWN_REQUEST is a frame that R177
refuses at its first two checks, and a frame that is counted has a byte (R175). -/
def Instr.wf (i : Instr) : Bool :=
  match i.request? with
  | some r => decide (r.2.2.length ≤ 250)
  | none =>
    match i with
    | .unknownRequest _ frame => refusedFrame frame
    | .fetch _ n => decide (1 ≤ n)
    | .requestBusyDiscard _ n => decide (1 ≤ n)
    | .frameDuringReset _ n => decide (1 ≤ n)
    | _ => true

end Sys2Proof
end

