-- ==== Sys2Proof/Decode.lean ====
section
/-! DEFINITION. How bits spell commands. No row of spec/opcode_table.json gives bits, so no table word spells a
command. Link frames do: `decodeFrame` reads the bytes of a frame (R175, R177, R182), and `encodeFrame` writes them. -/

namespace Sys2Proof

/-- The command that a word of the opcode table spells: none, because the table gives its rows no bits. -/
def decodeTableWord (_nbits _w : Nat) : Option Instr := none

/-- The command that a frame on a link spells when its link is not busy and no reset runs (R175, R177, R182). -/
def decodeFrame (l : Link) : List Byte → Instr
  | [] => .emptyFrame l
  | code :: rest =>
    if code = 0x00#8 then .fetch l (1 + rest.length)
    else if Machine.goodLength rest then
      match Machine.Request.ofCode code with
      | some r => commandOf l (rest.drop 1) r
      | none => .unknownRequest l (code :: rest)
    else .unknownRequest l (code :: rest)

/-- The link and the bytes of the frame of a command that a master gives by a frame (R175, R182): code, length and
payload of a request; a FETCH frame is filled up with zeros. -/
def encodeFrame (i : Instr) : Option (Link × List Byte) :=
  match i.request? with
  | some (r, l, payload) => some (l, r.code :: BitVec.ofNat 8 payload.length :: payload)
  | none =>
    match i with
    | .unknownRequest l frame => some (l, frame)
    | .fetch l n => some (l, List.replicate n 0x00#8)
    | .emptyFrame l => some (l, [])
    | _ => none

end Sys2Proof
end

