-- ==== Sys2Proof/Machine/Ops.lean ====
section
/-! DEFINITION. The named operations every block uses: arithmetic (R1, R2), reading and writing the records of
State, choosing by age (R6), note counters (R30) and the posting of notices (R190). -/

namespace Sys2Proof.Machine

/-! ### Arithmetic (R1, R2, R183) -/

/-- A 16-bit saturating counter increased by 1 (R2). -/
def incSat16 (n : Nat) : Nat := min 65535 (n + 1)

/-- An 8-bit saturating counter increased by 1 (R82, R190). -/
def incSat8 (n : Nat) : Nat := min 255 (n + 1)

/-- clamp to a named range (R1, R54). -/
def clampTo (lo hi n : Nat) : Nat := max lo (min hi n)

/-- clamp to 0–65535, the range where none is named (R1). -/
def clampCode (x : Int) : Nat := (max 0 (min 65535 x)).toNat

/-- `a` is older than `b`, judged wrap-aware (R2). -/
def isOlder (a b : Stamp) : Bool := 1 ≤ (b - a).toNat && (b - a).toNat ≤ 32767

/-- A byte that holds the low 8 bits of a number (R183). -/
def byte (n : Nat) : Byte := BitVec.ofNat 8 n

/-- A 16-bit field as two bytes, low byte first (R183). -/
def le16 (n : Nat) : List Byte := [byte (n % 256), byte (n / 256)]

/-- A 16-bit field read from two bytes, low byte first (R183). -/
def u16 (lo hi : Byte) : Nat := lo.toNat + 256 * hi.toNat

/-- Two items that share a 16-bit notice value: the first is the high byte (R195). -/
def pair (high low : Nat) : Nat := 256 * high + low

/-- 1 for yes, 0 for no. -/
def bit (b : Bool) : Nat := if b then 1 else 0

/-- A list of numbers as a mask with those bits set (R183). -/
def maskOf (ns : List Nat) : Nat := ns.foldl (fun m n => m ||| 2 ^ n) 0

/-! ### Reading and writing records -/

/-- The voices in ascending index order. -/
def allVoices : List VoiceId := List.finRange 16

/-- The parts in ascending index order. -/
def allParts : List PartId := List.finRange 4

/-- A voice record. -/
def State.voice (s : State) (v : VoiceId) : Voice := s.voices[v]

/-- Replace a voice record. -/
def State.setVoice (v : VoiceId) (x : Voice) (s : State) : State := { s with voices := s.voices.set v x }

/-- Replace the phase of a voice, keeping the fields that are always present. -/
def State.setPhase (v : VoiceId) (ph : VoicePhase) (s : State) : State :=
  s.setVoice v { s.voice v with phase := ph }

/-- Set or clear a voice's tune claim. -/
def State.setClaim (v : VoiceId) (c : Bool) (s : State) : State := s.setVoice v { s.voice v with claim := c }

/-- The performance record of a part. -/
def State.perfOf (s : State) (p : PartId) : Perf := s.perf[p]

/-- Replace a performance record. -/
def State.setPerf (p : PartId) (x : Perf) (s : State) : State := { s with perf := s.perf.set p x }

/-- The live value of a part parameter (R48). -/
def State.param (s : State) (p : PartId) (i : ParamId) : Nat := s.params[p][i]

/-- Write the live value of a part parameter. -/
def State.setParam (p : PartId) (i : ParamId) (x : Nat) (s : State) : State :=
  { s with params := s.params.set p (s.params[p].set i x) }

/-- The live value of a global parameter (R48). -/
def State.global (s : State) (g : GlobalId) : Nat := s.globals[g]

/-- Write the live value of a global parameter. -/
def State.setGlobal (g : GlobalId) (x : Nat) (s : State) : State := { s with globals := s.globals.set g x }

/-- The apply slot of a part (R72). -/
def State.slotOf (s : State) (p : PartId) : Option Morph := s.slots[p]

/-- Replace the apply slot of a part. -/
def State.setSlot (p : PartId) (m : Option Morph) (s : State) : State := { s with slots := s.slots.set p m }

/-- The glide record of a voice (R158). -/
def State.glide (s : State) (v : VoiceId) : Glide := s.glides[v]

/-- Replace the glide record of a voice. -/
def State.setGlide (v : VoiceId) (g : Glide) (s : State) : State := { s with glides := s.glides.set v g }

/-- The control record of a control (R88). -/
def State.control (s : State) (k : ControlId) : Control := s.controls[k]

/-- Replace a control record. -/
def State.setControl (k : ControlId) (c : Control) (s : State) : State := { s with controls := s.controls.set k c }

/-- The knob binding of a control (R102). -/
def State.knob (s : State) (k : ControlId) : Option KnobBinding := s.knobs[k]

/-- Replace a knob binding. -/
def State.setKnob (k : ControlId) (b : Option KnobBinding) (s : State) : State :=
  { s with knobs := s.knobs.set k b }

/-- The calibration record of an oscillator (R152). -/
def State.cal (s : State) (o : OscId) : CalRecord := s.calibration[o]

/-- Replace a calibration record. -/
def State.setCal (o : OscId) (c : CalRecord) (s : State) : State :=
  { s with calibration := s.calibration.set o c }

/-- What a request link owns. -/
def State.link (s : State) (l : Link) : LinkUnit :=
  match l with
  | .a => s.linkA
  | .b => s.linkB

/-- Replace what a request link owns. -/
def State.setLink (l : Link) (u : LinkUnit) (s : State) : State :=
  match l with
  | .a => { s with linkA := u }
  | .b => { s with linkB := u }

/-- The oscillator OSC-A (`second` no) or OSC-B (`second` yes) of a voice: 2v or 2v + 1. -/
def oscOf (v : VoiceId) (second : Bool) : OscId :=
  ⟨2 * v.val + bit second, by have := v.isLt; unfold bit; split <;> omega⟩

/-- The voice of an oscillator. -/
def voiceOfOsc (o : OscId) : VoiceId := ⟨o.val / 2, by have := o.isLt; omega⟩

/-! ### Choosing among voices (R6, R13) -/

/-- The oldest by a stamp: the list is taken in order, and a later voice replaces the choice when its stamp is older
(R6). -/
def chooseOldest (stamp : VoiceId → Stamp) : List VoiceId → Option VoiceId
  | [] => none
  | v :: vs => some (vs.foldl (fun best w => if isOlder (stamp w) (stamp best) then w else best) v)

/-- The lowest by a measure; a tie stays with the earlier voice (R13). -/
def chooseLowest (measure : VoiceId → Nat) : List VoiceId → Option VoiceId
  | [] => none
  | v :: vs => some (vs.foldl (fun best w => if measure w < measure best then w else best) v)

/-- The highest by a measure; a tie stays with the earlier voice (R13). -/
def chooseHighest (measure : VoiceId → Nat) : List VoiceId → Option VoiceId
  | [] => none
  | v :: vs => some (vs.foldl (fun best w => if measure best < measure w then w else best) v)

/-! ### Note counters (R30) -/

/-- Replace the note counters of a part. -/
def State.countWith (p : PartId) (f : Counters → Counters) (s : State) : State :=
  s.setPerf p { s.perfOf p with counters := f (s.perfOf p).counters }

/-- notes_in of a part is incremented (R7). -/
def State.countIn (p : PartId) (s : State) : State :=
  s.countWith p fun c => { c with notesIn := incSat16 c.notesIn }

/-- sounded of a part is incremented (R30). -/
def State.countSounded (p : PartId) (s : State) : State :=
  s.countWith p fun c => { c with sounded := incSat16 c.sounded }

/-- dropped of a part is incremented (R30). -/
def State.countDropped (p : PartId) (s : State) : State :=
  s.countWith p fun c => { c with dropped := incSat16 c.dropped }

/-- refused of a part is incremented (R30). -/
def State.countRefused (p : PartId) (s : State) : State :=
  s.countWith p fun c => { c with refused := incSat16 c.refused }

/-- cancelled of a part is incremented (R30). -/
def State.countCancelled (p : PartId) (s : State) : State :=
  s.countWith p fun c => { c with cancelled := incSat16 c.cancelled }

/-! ### Notices (R190, R193, R194) -/

/-- The number of stored notices (R190). -/
def NoticeQueue.fill (q : NoticeQueue) : Nat := q.stored.length

/-- The next slot to write (R190). -/
def NoticeQueue.put (q : NoticeQueue) : Nat := (q.get.val + q.fill) % 32

/-- One post to a queue: stored while fill is below 32, otherwise lost and counted (R190). -/
def NoticeQueue.post (n : Notice) (q : NoticeQueue) : NoticeQueue :=
  if q.fill < 32 then { q with stored := q.stored ++ [n] } else { q with lost := incSat8 q.lost }

/-- Post a notice to one link (R190). -/
def State.postTo (l : Link) (n : Notice) (s : State) : State :=
  s.setLink l { s.link l with queue := (s.link l).queue.post n }

/-- The link is subscribed to the group (R193). -/
def State.subscribed (s : State) (l : Link) (g : Group) : Bool := (s.link l).queue.mask.getLsbD g.bit

/-- Post a notice, stamped now, to each link that `dest` names: one copy to each (R190). -/
def State.postWhere (dest : Link → Bool) (kind : NoticeKind) (subject value1 value2 : Nat) (s : State) : State :=
  let n : Notice := { kind, subject, value1, value2, stamp := s.timestamp }
  let s := if dest .a then s.postTo .a n else s
  if dest .b then s.postTo .b n else s

/-- Post a notice to every link subscribed to its group (R190). -/
def State.post (kind : NoticeKind) (subject value1 value2 : Nat) (s : State) : State :=
  s.postWhere (fun l => s.subscribed l kind.group) kind subject value1 value2 

/-- Post a notice to the links that a record names and to every link subscribed to its group (R85, R156, R190). -/
def State.postAlso (named : Link → Bool) (kind : NoticeKind) (subject value1 value2 : Nat) (s : State) : State :=
  s.postWhere (fun l => named l || s.subscribed l kind.group) kind subject value1 value2

/-- NOTE_DROPPED for a part and key, with its reason (R195: NO_VOICE 0, LIST_FULL 1, TIMEOUT 2). -/
def State.postDropped (p : PartId) (k : Key) (reason : Nat) (s : State) : State :=
  s.post .noteDropped p k reason

/-- A reset runs (R196). -/
def State.inReset (s : State) : Bool := s.resetRun.isSome

/-- The attention line of a link is asserted (driven low): fill at or above the watermark, or a lost count above 0,
and no reset running (R194, R196). -/
def State.attention (s : State) (l : Link) : Bool :=
  !s.inReset && ((s.link l).queue.watermark ≤ (s.link l).queue.fill || 0 < (s.link l).queue.lost)

end Sys2Proof.Machine
end

