-- ==== Sys2Proof/Machine/Voices.lean ====
section
/-! DEFINITION. What the allocator does to one voice (spec/01_voices_and_allocation.md, R5 to R23): load and mask of
a part, starting a note, damping, release, leaving a mono set, cancelling a successor, going IDLE and the offer to
the deferred list; and the glide record that moves with them (R158, R161, R162). -/

namespace Sys2Proof.Machine

/-! ### What a voice drives and counts toward (R5, R174) -/

/-- The gate line of a voice (R5, R174). -/
def Voice.gateLine (x : Voice) : Bool :=
  match x.phase with
  | .gated _ _ pulse => pulse.isNone
  | _ => false

/-- The damp line of a voice (R5, R174). -/
def Voice.dampLine (x : Voice) : Bool :=
  match x.phase with
  | .damping _ _ _ _ => true
  | .tuning _ => true
  | _ => false

/-- The note a voice holds: present in GATED, RELEASED and DAMPING (R4). -/
def VoicePhase.note? : VoicePhase → Option Note
  | .gated n _ _ => some n
  | .released n _ _ => some n
  | .damping n _ _ _ => some n
  | _ => none

/-- The successor of a voice (R16). -/
def VoicePhase.successor? : VoicePhase → Option Successor
  | .damping _ su _ _ => su
  | _ => none

/-- GATED. -/
def VoicePhase.isGated : VoicePhase → Bool
  | .gated _ _ _ => true
  | _ => false

/-- RELEASED. -/
def VoicePhase.isReleased : VoicePhase → Bool
  | .released _ _ _ => true
  | _ => false

/-- DAMPING. -/
def VoicePhase.isDamping : VoicePhase → Bool
  | .damping _ _ _ _ => true
  | _ => false

/-- TUNING. -/
def VoicePhase.isTuning : VoicePhase → Bool
  | .tuning _ => true
  | _ => false

/-- OFFLINE. -/
def VoicePhase.isOffline : VoicePhase → Bool
  | .offline _ => true
  | _ => false

/-- The voice is GATED for the part. -/
def Voice.gatedFor (p : PartId) (x : Voice) : Bool := x.phase.isGated && x.part == p

/-- The voice counts toward the budget of the part (R5, R10). -/
def Voice.countsFor (p : PartId) (x : Voice) : Bool :=
  x.gatedFor p || (x.phase.successor?.any fun su => su.part == p)

/-- H_p, the load of a part (R10). -/
def State.load (s : State) (p : PartId) : Nat := (allVoices.filter fun v => (s.voice v).countsFor p).length

/-- Voice v is in the voice mask of the part (R10). -/
def State.inMask (s : State) (p : PartId) (v : VoiceId) : Bool :=
  if v.val < 8 then (s.param p pMaskLo).testBit v.val else (s.param p pMaskHi).testBit (v.val - 8)

/-! ### Glide records (R158, R161, R162) -/

/-- A glide that is running stops; the position keeps its value (R158). -/
def State.stopGlide (v : VoiceId) (s : State) : State := s.setGlide v { s.glide v with target := none }

/-- The glide record of a voice that starts a note from IDLE (R161). -/
def State.jumpGlide (v : VoiceId) (k : Key) (s : State) : State :=
  s.setGlide v { position := 256 * k.val, target := none }

/-- The glide record of a sounding voice that changes its key (R162). -/
def State.turnGlide (v : VoiceId) (k : Key) (s : State) : State :=
  if s.param (s.voice v).part pGlideRate = 0 ∨ (s.glide v).position = 256 * k.val then s.jumpGlide v k
  else s.setGlide v { s.glide v with target := some (256 * k.val) }

/-! ### Starting a note -/

/-- A 1 ms retrigger pulse, in µs (R9). -/
def pulseTime : Nat := 1000

/-- The voice goes GATED on a note with a new serial and its clamp flag cleared (R6, R11, R17). -/
def State.gateOn (v : VoiceId) (p : PartId) (n : Note) (s : State) : State :=
  { s with serial := s.serial + 1 }.setVoice v
    { s.voice v with phase := .gated n false none, part := p, serial := s.serial + 1, clamped := false }

/-- An IDLE voice starts a note, without glide (R11, R161). -/
def State.soundIdle (v : VoiceId) (p : PartId) (n : Note) (s : State) : State :=
  (s.gateOn v p n).jumpGlide v n.key

/-- A GATED voice takes a new velocity, a new serial and a retrigger pulse (R9, R38). -/
def State.retrigger (v : VoiceId) (velocity : Nat) (s : State) : State :=
  match (s.voice v).phase with
  | .gated n sus _ =>
    { s with serial := s.serial + 1 }.setVoice v
      { s.voice v with phase := .gated { n with velocity } sus (some pulseTime), serial := s.serial + 1 }
  | _ => s

/-! ### Mono sets and successors (R19, R40, R41) -/

/-- The held-key list of a part is emptied, and its mono set, selected key and wanted count are removed (R40, R41,
R61). -/
def State.clearHeld (p : PartId) (s : State) : State :=
  s.setPerf p { s.perfOf p with held := [], selected := none, monoSet := [], wanted := none }

/-- A voice leaves the mono set of a part; when it was the last, the held-key list is emptied (R41). -/
def State.leaveSet (v : VoiceId) (s : State) (p : PartId) : State :=
  if v ∈ (s.perfOf p).monoSet then
    let rest := (s.perfOf p).monoSet.filter (· != v)
    if rest = [] then s.clearHeld p else s.setPerf p { s.perfOf p with monoSet := rest }
  else s

/-- A voice leaves whatever mono set it is in (R41). -/
def State.leaveSets (v : VoiceId) (s : State) : State := allParts.foldl (State.leaveSet v) s

/-- A successor joins its part's binding order as the newest (R63). -/
def State.bind (v : VoiceId) (p : PartId) (s : State) : State :=
  s.setPerf p { s.perfOf p with bound := (s.perfOf p).bound ++ [v] }

/-- The successor on a voice leaves its part's binding order (R63). -/
def State.unbind (v : VoiceId) (p : PartId) (s : State) : State :=
  s.setPerf p { s.perfOf p with bound := (s.perfOf p).bound.filter (· != v) }

/-- The successor of a DAMPING voice is cancelled; the voice keeps damping (R19). -/
def State.cancelSuccessor (v : VoiceId) (s : State) : State :=
  match (s.voice v).phase with
  | .damping n (some su) dp timer =>
    let s := (s.setPhase v (.damping n none dp timer)).unbind v su.part
    if su.kind = .note then s.countCancelled su.part else s
  | _ => s

/-- A successor is cancelled by an event that also takes its voice out of a mono set (R19, R41). -/
def State.cancelAndLeave (v : VoiceId) (s : State) : State := (s.cancelSuccessor v).leaveSets v

/-! ### Damping and release (R15, R20) -/

/-- A GATED or RELEASED voice goes DAMPING, with a successor bound to it or with none (R15). The old note, the part
and the claim stay; the voice leaves a mono set it was in (R41). -/
def State.damp (v : VoiceId) (su : Option Successor) (s : State) : State :=
  match (s.voice v).phase.note? with
  | some n =>
    let s := (s.leaveSets v).setPhase v (.damping n su false (s.global gDampTime))
    match su with
    | some x => s.bind v x.part
    | none => s
  | none => s

/-- A GATED voice goes RELEASED and its release window starts (R20). -/
def State.release (v : VoiceId) (s : State) : State :=
  match (s.voice v).phase with
  | .gated n _ _ => s.setPhase v (.released n s.timestamp (s.param (s.voice v).part pReleaseWindow))
  | _ => s

/-- Release by an event that also takes the voice out of a mono set (R20, R41). -/
def State.releaseAndLeave (v : VoiceId) (s : State) : State := (s.release v).leaveSets v

/-- Release each voice of a list that a test picks. -/
def State.releaseWhere (pick : Voice → Bool) (s : State) : State :=
  allVoices.foldl (fun s v => if pick (s.voice v) then s.release v else s) s

/-! ### IDLE and the deferred list (R6, R23) -/

/-- A voice enters IDLE: its release stamp takes the timestamp, and it runs no glide (R6, R158). -/
def State.goIdle (v : VoiceId) (s : State) : State :=
  (s.setVoice v { s.voice v with phase := .idle, releaseStamp := s.timestamp }).stopGlide v

/-- A deferred entry can be served by a voice (R23). -/
def State.eligible (s : State) (v : VoiceId) (d : Deferred) : Bool :=
  s.inMask d.part v && decide (s.load d.part < s.param d.part pMaxVoices)

/-- The first element of a list that passes a test, and the list without it. -/
def takeFirst {α : Type} (test : α → Bool) : List α → Option (α × List α)
  | [] => none
  | x :: xs => if test x then some (x, xs) else (takeFirst test xs).map fun r => (r.1, x :: r.2)

/-- An IDLE voice that has become available is offered to the deferred list: it serves the oldest eligible entry, or
stays IDLE (R23). -/
def State.offer (v : VoiceId) (s : State) : State :=
  if (s.voice v).phase = .idle then
    match takeFirst (s.eligible v) s.deferred with
    | some (d, rest) =>
      ({ s with deferred := rest }.soundIdle v d.part { key := d.key, velocity := d.velocity }).countSounded d.part
    | none => s
  else s

/-- Several voices that became available through one event are offered in turn (R23). -/
def State.offerAll (vs : List VoiceId) (s : State) : State := vs.foldl (fun s v => s.offer v) s

/-! ### Removing waiting notes of a part (R25, R61) -/

/-- Every deferred entry of a part is removed, and cancelled is incremented for each (R25, R61). -/
def State.cancelDeferred (p : PartId) (s : State) : State :=
  let n := (s.deferred.filter fun d => d.part == p).length
  { s with deferred := s.deferred.filter fun d => d.part != p }.countWith p
    fun c => { c with cancelled := min 65535 (c.cancelled + n) }

/-- The voice holds a successor of the part. -/
def Voice.successorOf (p : PartId) (x : Voice) : Bool := x.phase.successor?.any fun su => su.part == p

/-- Every successor of a part is cancelled (R25, R61). -/
def State.cancelSuccessorsOf (p : PartId) (s : State) : State :=
  allVoices.foldl (fun s v => if (s.voice v).successorOf p then s.cancelSuccessor v else s) s

end Sys2Proof.Machine
end

