-- ==== Sys2Proof/Machine/Measure.lean ====
section
/-! DEFINITION. The arithmetic and the record of the measurement unit (spec/07_oscillator_measurement.md): anchors,
the choice of N, stability, the LOG unit, the anchor pitch, starting and abandoning a measurement. -/

namespace Sys2Proof.Machine

/-- The highest value of the period counter (R120). -/
def counterMax : Nat := 16777215

/-- 250 ms of the edge timer in ticks of the measuring clock (R124). -/
def edgeTicks : Nat := 4000000

/-- The anchor code D_a (R123). -/
def anchorCode (a : Nat) : Nat := 2048 + 8192 * a

/-- The settle time of an anchor, in ms (R123). -/
def settleTime (a : AnchorId) : Nat := if a = 0 then 40 else 20

/-- N for a probe period C1 (R125): the smallest power of two from 1 to 256 with N × C1 at or above 65536, or 256. -/
def chooseN (c1 : Nat) : Nat :=
  (([1, 2, 4, 8, 16, 32, 64, 128].find? fun n => 65536 ≤ n * c1)).getD 256

/-- The stability check (R129): |C − N × C1| × 16 is at most N × C1. -/
def isStable (c n c1 : Nat) : Bool := ((c : Int) - (n * c1 : Nat)).natAbs * 16 ≤ n * c1

/-- The table T[0] to T[32] of the LOG unit (R130). -/
def logTable : List Nat :=
  [0, 136, 269, 397, 522, 643, 762, 877, 989, 1098, 1205,
   1309, 1411, 1511, 1608, 1704, 1797, 1888, 1978, 2066, 2152, 2236,
   2319, 2400, 2480, 2559, 2636, 2711, 2786, 2859, 2931, 3002, 3072]

/-- T[i] (R130). -/
def logEntry (i : Nat) : Nat := logTable.getD i 0

/-- LOG(C) for a count of 32 or more (R130); below 32 the document states no result (free value, assumption log 5). -/
def logUnit (c : Nat) : Nat :=
  if c < 32 then Config.logBelow32 c
  else
    let e := Nat.log2 c
    let f := c - 2 ^ e
    let w := 2 ^ (e - 5)
    let i := f / w
    let r := f - i * w
    3072 * e + logEntry i + (logEntry (i + 1) - logEntry i) * r / w

/-- The anchor pitch before its range check (R131). -/
def anchorPitch (c n : Nat) : Int := 64205 + 3072 * (Nat.log2 n : Int) - (logUnit c : Int)

/-- The result of a stable count (R131). -/
def stableResult (c n : Nat) : AnchorResult :=
  if 0 ≤ anchorPitch c n ∧ anchorPitch c n ≤ 65535 then .passed (anchorPitch c n).toNat else .outOfRange

/-- A measurement starts (R123): the record, FSEL, the pitch override of the voice, the settle timer. -/
def State.startAnchor (v : VoiceId) (second : Bool) (a : AnchorId) (s : State) : State :=
  let o := oscOf v second
  { s with
    measurement := some { voice := v, osc := o, anchor := a, attempt := 1, phase := .settle, timer := settleTime a }
    fsel := o }.setPhase v (.tuning (anchorCode a))

/-- The measurement is abandoned (R134). A period count that runs stops at a value the commands do not tell (free
value, assumption log 4); between counts the counter keeps its value. -/
def State.abandonMeasurement (s : State) : State :=
  match s.measurement with
  | none => s
  | some m =>
    match m.phase with
    | .settle | .probeWait => { s with measurement := none }
    | .probe | .count _ _ _ =>
      { s with
        measurement := none
        periodCounter := min counterMax (s.periodCounter + Config.ticksSinceEdge s.freeIndex)
        freeIndex := s.freeIndex + 1 }

/-- The unstable count of an oscillator's record is increased (R129). -/
def State.countUnstable (o : OscId) (s : State) : State :=
  s.setCal o { s.cal o with unstableCount := incSat16 (s.cal o).unstableCount }

end Sys2Proof.Machine
end

