-- ==== Sys2Proof/Machine/Codes.lean ====
section
/-! DEFINITION. The output engine's codes (spec/09_pitch_computation_and_control_voltage_output.md, R158 to R171): the
target pitch, the calibrated map, the other channels, and the slot of the refresh round. -/

namespace Sys2Proof.Machine

/-! ### Target pitch (R42, R159) -/

/-- The unison offset of voice i of U voices (R42). -/
def unisonOffset (i u spread : Nat) : Int :=
  if u ≤ 1 then 0 else ((2 * (i : Int) - ((u : Int) - 1)) * spread).tdiv ((u : Int) - 1)

/-- U_v: the offset of a GATED member of a UNISON part's mono set, 0 in every other state (R42, R159). -/
def State.unisonTerm (s : State) (v : VoiceId) : Int :=
  let x := s.voice v
  let set := (s.perfOf x.part).monoSet
  if x.phase.isGated ∧ s.param x.part pVoiceMode = 2 ∧ v ∈ set then
    unisonOffset (set.idxOf v) set.length (s.param x.part pUnisonSpread)
  else 0

/-- bendPU of a part (R159). -/
def State.bendTerm (s : State) (p : PartId) : Int :=
  ((((s.perfOf p).bend : Int) - 8192) * (s.param p pBendRange : Int) * 256).tdiv 8192

/-- The target pitch T of OSC-A (`second` no) or OSC-B (`second` yes) of a voice (R159). -/
def State.targetPitch (s : State) (v : VoiceId) (second : Bool) : Int :=
  let p := (s.voice v).part
  let coarse : Int := s.param p (if second then pOscBCoarse else pOscACoarse)
  let fine : Int := s.param p (if second then pOscBFine else pOscAFine)
  (s.glide v).position + 256 * ((s.param p pTranspose : Int) - 24) + 256 * (coarse - 24) + (fine - 256)
    + s.bendTerm p + ((s.global gMasterTune : Int) - 256) + s.unisonTerm v

/-! ### The pitch-to-code map (R164 to R166) -/

/-- The stage of a pitch clamp (R160, R195): TARGET 0, LOW 1, HIGH 2. -/
inductive ClampStage where
  | target
  | low
  | high
deriving DecidableEq, Repr

/-- The code of a clamp stage (R195). -/
def ClampStage.code : ClampStage → Nat
  | .target => 0 | .low => 1 | .high => 2

/-- The code of a span from anchor `a` with P value `p` to the next with P value `q` (R166); the floor divides by a
positive number. -/
def spanCode (a p q : Nat) (t : Nat) : Int :=
  let num : Int := ((t : Int) - p) * 8192
  let den : Int := (q : Int) - p
  (anchorCode a : Int) + (2 * num + den) / (2 * den)

/-- The code of a CALIBRATED record whose kept anchors start at anchor `a` (R165, R166): the first span below the
second kept P value, the last span at and above the last but one, the span that holds T otherwise. -/
def calibratedCode (t : Nat) : Nat → List Nat → Int
  | a, p :: q :: r :: ps => if t < q then spanCode a p q t else calibratedCode t (a + 1) (q :: r :: ps)
  | a, [p, q] => spanCode a p q t
  | _, _ => 0

/-- The code of a clamped target through an active record, before the clamp of the code (R164 to R166). -/
def mapCode (m : CalMap) (t : Nat) : Int :=
  match m with
  | .nominal => 2 * (t : Int)
  | .calibrated first ps => calibratedCode t first ps

/-- The code driven for a target pitch, and the first pitch clamp met on the way (R160, R164 to R166). -/
def pitchCode (m : CalMap) (target : Int) : Nat × Option ClampStage :=
  let t := clampCode target
  let code := mapCode m t
  let stage :=
    if target < 0 then some .target
    else if code < 0 then some .low
    else if 65535 < code then some .high
    else none
  (clampCode code, stage)

/-! ### The other channels (R167 to R170) -/

/-- The key that R168 uses: 60 for a voice that holds no key (R169). -/
def Voice.cvKey (x : Voice) : Nat := (x.phase.note?.map fun n => n.key.val).getD 60

/-- The velocity that R168 and R169 use: 0 for a voice that holds no key (R169). -/
def Voice.cvVelocity (x : Voice) : Nat := (x.phase.note?.map Note.velocity).getD 0

/-- The filter cutoff code of channel 6 (R168). -/
def State.cutoffCode (s : State) (v : VoiceId) : Nat :=
  let x := s.voice v
  let p := x.part
  clampCode (4 * (s.param p pCutoff : Int) + 2 * ((x.cvKey : Int) - 60) * (s.param p pFltKeytrack : Int)
    + ((x.cvVelocity * s.param p pFltVelocity * 4 / 127 : Nat) : Int))

/-- The amplifier code of channel 12 by its formula (R169); the floors divide by positive numbers. -/
def vcaFormula (level velSense depth modVel velocity : Nat) : Nat :=
  let base : Int := 4 * (level : Int) * (16383 * 127 - (velSense : Int) * (127 - (velocity : Int))) / (16383 * 127)
  let accent : Int := (depth * modVel * velocity / (16383 * 127) : Nat)
  clampCode (base + base * accent / 65536)

/-- The amplifier code of channel 12: 0 for a TUNING or OFFLINE voice (R169). -/
def State.vcaCode (s : State) (v : VoiceId) : Nat :=
  let x := s.voice v
  let p := x.part
  if x.phase.isTuning || x.phase.isOffline then 0
  else vcaFormula (s.param p pVcaLevel) (s.param p pVcaVelocity) (s.param p pModDepth) (s.param p pModVelocity)
    x.cvVelocity

/-- The parameter that a plain channel carries (R167). -/
def plainParam : Nat → Option ParamId
  | 2 => some pPwA
  | 3 => some pPwB
  | 4 => some pMixA
  | 5 => some pMixB
  | 7 => some pResonance
  | 8 => some pEnvAttack
  | 9 => some pEnvDecay
  | 10 => some pEnvSustain
  | 11 => some pEnvRelease
  | _ => none

/-- The code of a pitch channel and the clamp it met: the override of a TUNING voice (R135), otherwise the mapped
target (R159 to R166). -/
def State.pitchChannel (s : State) (v : VoiceId) (second : Bool) : Nat × Option ClampStage :=
  match (s.voice v).phase with
  | .tuning override => (override, none)
  | _ => pitchCode (s.cal (oscOf v second)).map (s.targetPitch v second)

/-- The code of channel c of voice v (spec/09, 9.1). -/
def State.voiceCode (s : State) (v : VoiceId) (c : Nat) : Nat :=
  match c with
  | 0 => (s.pitchChannel v false).1
  | 1 => (s.pitchChannel v true).1
  | 6 => s.cutoffCode v
  | 12 => s.vcaCode v
  | _ => ((plainParam c).map fun i => 4 * s.param (s.voice v).part i).getD 0

/-- The voice of a slot below 208 (R171). -/
def slotVoice (n : Nat) (h : n < 208) : VoiceId := ⟨n / 13, by omega⟩

/-- The global parameter of a slot from 208 on: UTILITY_CV(n − 208) (R170). -/
def slotGlobal (n : Nat) (h : n < 216) : GlobalId := ⟨8 + (n - 208), by omega⟩

/-- The code that a slot computes from the state as it stands (R171). -/
def State.slotCode (s : State) (n : ChannelId) : Nat :=
  if h : n.val < 208 then s.voiceCode (slotVoice n.val h) (n.val % 13)
  else 4 * s.global (slotGlobal n.val n.isLt)

/-- A pitch clamp at a slot of a voice that holds a key sets the clamp flag; PITCH_CLAMPED is posted when the flag was
no (R160). -/
def State.noteClamp (v : VoiceId) (second : Bool) (s : State) : State :=
  let x := s.voice v
  match x.phase.note?, (s.pitchChannel v second).2 with
  | some n, some stage =>
    if x.clamped then s
    else (s.setVoice v { x with clamped := true }).post .pitchClamped v (pair x.part n.key)
      (pair (bit second) stage.code)
  | _, _ => s

/-- The clamp test of a slot (R160). -/
def State.slotClamp (n : ChannelId) (s : State) : State :=
  if h : n.val < 208 then
    match n.val % 13 with
    | 0 => s.noteClamp (slotVoice n.val h) false
    | 1 => s.noteClamp (slotVoice n.val h) true
    | _ => s
  else s

/-- The slot after a slot; the round after slot 215 begins with slot 0 (R171). -/
def nextSlot (n : ChannelId) : ChannelId := if h : n.val < 215 then ⟨n.val + 1, by omega⟩ else 0

/-- One slot of the refresh round (R171). -/
def State.outputSlot (n : ChannelId) (s : State) : State :=
  let code := s.slotCode n
  { s.slotClamp n with
    output := { slot := some (nextSlot n), channels := s.output.channels.set n code, dac := code, sha := n } }

/-- One glide step of a gliding voice (R163). -/
def glideMove (rate position target : Nat) : Glide :=
  let d := (position - target) + (target - position)
  if rate = 0 ∨ d ≤ rate then { position := target, target := none }
  else { position := if position < target then position + rate else position - rate, target := some target }

end Sys2Proof.Machine
end

