-- ==== Sys2Proof/Machine/Flags.lean ====
section
/-! DEFINITION. Replies, their status and their flags (R180, R181), and how a request frame is taken, discarded or
answered (R176 to R179, R196). -/

namespace Sys2Proof.Machine

/-- No flag. -/
def ReplyFlags.empty : ReplyFlags := { clamped := false, nothing := false, overrun := false }

/-- The flag byte of a reply (R180). -/
def ReplyFlags.code (f : ReplyFlags) : Nat := bit f.clamped + 2 * bit f.nothing + 4 * bit f.overrun

/-- What a request answers: its status, flags and data. The echo is added when it is taken. -/
structure Answer where
  status : Status
  clamped : Bool := false
  nothing : Bool := false
  data : List Byte := []
deriving DecidableEq, Repr

/-- A refusal: no data and no flag (R177). -/
def refuse (st : Status) : Answer := { status := st }

/-- OK, without flags or data. -/
def Answer.ok : Answer := { status := .ok }

/-- The reply of an answer to a request of a code (R177, R180). -/
def Answer.toReply (code : Byte) (a : Answer) : Reply :=
  { echo := code, status := a.status, flags := { clamped := a.clamped, nothing := a.nothing, overrun := false }
    data := a.data }

/-- A request's own checks and work, on a payload, for a link. -/
abbrev Service := Link → List Byte → State → State × Answer

/-- A request that is refused changes no state (R177). -/
def State.refused (s : State) (st : Status) : State × Answer := (s, refuse st)

/-- The bytes shifted out on SO during a request frame: 0xFF on every byte (R175). -/
def fillers (n : Nat) : List Byte := List.replicate n 0xFF#8

/-- The part has shifted bytes out on a link's SO. -/
def State.shiftOut (l : Link) (bs : List Byte) (s : State) : State :=
  s.setLink l { s.link l with shifted := bs }

/-- The link is busy (R176). -/
def State.busy (s : State) (l : Link) : Bool := (s.link l).inProcess.isSome

/-- The reply of the request in process on a link is known; the link stays busy until REPLY_READY (R176). A request
that begins a reset gives no reply (R196). -/
def State.answer (l : Link) (r : Reply) (s : State) : State :=
  if s.inReset then s else s.setLink l { s.link l with inProcess := some r }

/-- A request frame that ends while its link is busy is discarded (R179). -/
def State.discardBusy (l : Link) (s : State) : State :=
  s.setLink l { s.link l with overruns := incSat16 (s.link l).overruns, overrunMark := true }

/-- A request frame of `n` bytes ends: discarded while a reset runs (R196), discarded and counted while the link is
busy (R179), taken and processed otherwise (R176, R177). -/
def State.takeFrame (l : Link) (n : Nat) (code : Byte) (work : State → State × Answer) (s : State) : State :=
  let s := s.shiftOut l (fillers n)
  if s.inReset then s
  else if s.busy l then s.discardBusy l
  else
    let r := work s
    r.1.answer l (r.2.toReply code)

/-- A request frame of the catalogue with its payload: 2 bytes and the payload (R175). -/
def State.takeRequest (r : Request) (work : Service) (l : Link) (payload : List Byte) (s : State) : State :=
  s.takeFrame l (2 + payload.length) r.code (work l payload)

/-- The bytes of a reply as FETCH shifts them out (R180). -/
def Reply.bytes (r : Reply) : List Byte :=
  [r.echo, r.status.code, byte r.flags.code, byte r.data.length] ++ r.data

/-- The bytes that answer FETCH on a busy link, PENDING (R178, R180). -/
def pendingBytes : List Byte := [0x00#8, 0x08#8, 0x00#8, 0x00#8]

/-- The bytes that answer FETCH of an empty slot, NO_REPLY (R178, R180). -/
def noReplyBytes : List Byte := [0x00#8, 0x07#8, 0x00#8, 0x00#8]

/-- The bytes that FETCH finds at its second byte (R178). -/
def LinkUnit.fetchBytes (u : LinkUnit) : List Byte :=
  match u.inProcess, u.slot with
  | some _, _ => pendingBytes
  | none, none => noReplyBytes
  | none, some r => r.bytes

/-- The bytes shifted out during a FETCH frame of `n` bytes: 0xFF, the reply, then 0xFF (R175). -/
def fetchOut (n : Nat) (reply : List Byte) : List Byte :=
  (0xFF#8 :: (reply ++ fillers n)).take n

/-- A FETCH frame of `n` bytes (R178): the held reply is removed when all its bytes were shifted out. A frame without a whole byte is ignored (R175). -/
def State.fetchFrame (l : Link) (n : Nat) (s : State) : State :=
  if n = 0 then s
  else if s.inReset then s.shiftOut l (fillers n)
  else
    let u := s.link l
    let s := s.shiftOut l (fetchOut n u.fetchBytes)
    match u.inProcess, u.slot with
    | none, some r => if 5 + r.data.length ≤ n then s.setLink l { s.link l with slot := none } else s
    | _, _ => s

/-- Processing ends: the reply replaces what the slot holds, with the flag OVERRUN when the mark is set; the mark is
cleared and the link stops being busy (R176, R178, R179). -/
def State.replyReady (l : Link) (s : State) : State :=
  let u := s.link l
  match u.inProcess with
  | none => s
  | some r =>
    s.setLink l
      { u with
        slot := some { r with flags := { r.flags with overrun := u.overrunMark } }
        inProcess := none
        overrunMark := false }

end Sys2Proof.Machine
end

