-- ==== Sys2Proof/Machine/TuneRun.lean ====
section
/-! DEFINITION. Tune runs (spec/08_tune_runs_and_calibration.md): claims and hand-backs (R29, R139, R140), taking the
next voice (R141), measuring it (R142), the kept run and the decision (R143, R144), the voice's end (R145), the end
and the abort of a run (R146 to R149); and the expiries that feed a run with claimed voices (R18, R20). -/

namespace Sys2Proof.Machine

/-! ### Calibration records -/

/-- The number of anchors kept in an active record, 0 for NOMINAL (R156). -/
def CalMap.kept : CalMap → Nat
  | .nominal => 0
  | .calibrated _ ps => ps.length

/-- Two adjacent P values lie 2048 to 8192 apart (R143, R155). -/
def goodStep (p q : Nat) : Bool := p + 2048 ≤ q && q ≤ p + 8192

/-- Every pair of adjacent P values is good (R152, R155). -/
def goodSteps : List Nat → Bool
  | p :: q :: ps => goodStep p q && goodSteps (q :: ps)
  | _ => true

/-- The P value of an anchor entry that has passed (R132). -/
def passedPitch : Option AnchorResult → Option Nat
  | some (.passed p) => some p
  | _ => none

/-- The P values of the chain of good spans that starts at anchor `a` and reaches as far as it can: one value when
span (a, a + 1) is not good (R143). `es` are the entries after anchor `a`, whose P value is `p`. -/
def chainFrom (p : Nat) : List (Option AnchorResult) → List Nat
  | [] => [p]
  | e :: es =>
    match passedPitch e with
    | some q => if goodStep p q then p :: chainFrom q es else [p]
    | none => [p]

/-- The kept run (R143): the first anchor and the P values of the longest chain of good spans, the lowest first anchor
at a tie. A result of one value or none means that no span is good. -/
def keptRun : Nat → List (Option AnchorResult) → Nat × List Nat
  | a, [] => (a, [])
  | a, e :: es =>
    let here := match passedPitch e with
      | some p => chainFrom p es
      | none => []
    let later := keptRun (a + 1) es
    if later.2.length ≤ here.length then (a, here) else later

/-- The result of a candidate without a kept run of 3 spans (R144). -/
def failResult (es : List (Option AnchorResult)) : CalResult :=
  if es.all (· == some .dead) then .noSignal
  else if es.any (· == some .dead) then .dead
  else if es.any (· == some .unstable) then .unstable
  else .shortRun

/-- The decision of a candidate: its result, and the map that replaces the active record on a pass (R144). -/
def decideCandidate (es : List (Option AnchorResult)) : CalResult × Option CalMap :=
  let k := keptRun 0 es
  if 4 ≤ k.2.length then (.pass, some (.calibrated k.1 k.2)) else (failResult es, none)

/-! ### Run record -/

/-- Change the run record, when a run exists. -/
def State.withRun (f : Run → Run) (s : State) : State := { s with run := s.run.map f }

/-- A voice enters TUNING (R29): key and successor are gone with its old state, its pitch override is D_0 (R135), it
runs no glide (R158), and the run gives it a from-fault mark (R141). -/
def State.enterTuning (v : VoiceId) (fromFault : Bool) (s : State) : State :=
  ((s.setPhase v (.tuning (anchorCode 0))).stopGlide v).withRun fun r =>
    { r with marks := r.marks ++ [(v, fromFault)] }

/-- The candidate of an oscillator is opened and anchor 0 starts (R142, steps 1 and 2). -/
def State.openOscillator (v : VoiceId) (second : Bool) (s : State) : State :=
  { s with candidate := some { osc := oscOf v second, entries := Vector.replicate 8 none } }.startAnchor v second 0

/-- The head of the queue becomes the current voice when the run is WAITING and the head is TUNING (R141). -/
def State.takeNext (s : State) : State :=
  match s.run with
  | some r =>
    match r.current, r.queue with
    | none, v :: rest =>
      if (s.voice v).phase.isTuning then
        { s with run := some { r with
            queue := rest, current := some { voice := v, second := false, anchor := 0, aResult := none } } }.openOscillator
          v false
      else s
    | _, _ => s
  | none => s

/-- A claim is placed on a voice (R29, R139): an IDLE or OFFLINE(FAULT) voice goes TUNING at once, a sounding one
plays on under its claim; a voice with disable pending or OFFLINE(DISABLED) is not claimed. -/
def State.claimVoice (v : VoiceId) (s : State) : State :=
  match (s.voice v).phase with
  | .idle => (s.setClaim v true).enterTuning v false
  | .offline .fault => (s.setClaim v true).enterTuning v true
  | .gated _ _ _ | .released _ _ _ | .damping _ _ false _ => s.setClaim v true
  | _ => s

/-- A FOREGROUND claim (R29, R140): in addition a GATED or RELEASED voice is forced into DAMPING with no successor,
and a DAMPING voice loses its successor. -/
def State.claimForeground (s : State) (v : VoiceId) : State :=
  match (s.voice v).phase with
  | .gated _ _ _ | .released _ _ _ => (s.setClaim v true).damp v none
  | .damping _ _ false _ => (s.setClaim v true).cancelAndLeave v
  | _ => s.claimVoice v

/-- The code of a TUNE_RUN_DONE's aborted item, and its notice (R156, R195). -/
def State.postRunDone (r : Run) (aborted : Bool) (s : State) : State :=
  s.postAlso (fun l => r.requester == some l) .tuneRunDone (linkOrNone r.requester) (pair r.passCount r.failCount)
    (bit aborted)

/-- The run ends (R146). -/
def State.endRun (r : Run) (s : State) : State := { s.postRunDone r false with run := none }

/-- A WAITING run goes on (R145, steps 6 and 7; R148): with an empty queue it ends; in BACKGROUND the claim is placed
on the head; the head becomes current when it is TUNING. The next voice is taken in the same step, so a TUNE_ABORT that
follows may find the run MEASURING it, where R150 speaks of a WAITING run: DEDUCED from R145 (assumption log 29). -/
def State.runContinue (s : State) : State :=
  match s.run with
  | some r =>
    match r.current, r.queue with
    | none, [] => s.endRun r
    | none, v :: _ =>
      match r.mode with
      | .background => (s.claimVoice v).takeNext
      | .foreground => s.takeNext
    | some _, _ => s
  | none => s

/-- A voice leaves the tune queue (R138). -/
def State.dequeue (v : VoiceId) (s : State) : State :=
  s.withRun fun r => { r with queue := r.queue.filter (· != v) }

/-- A voice's from-fault mark is removed (R145, R148). -/
def State.unmark (v : VoiceId) (s : State) : State :=
  s.withRun fun r => { r with marks := r.marks.filter (·.1 != v) }

/-- A voice's from-fault mark is yes (R141). -/
def Run.fromFault (r : Run) (v : VoiceId) : Bool := r.marks.any fun m => m.1 == v && m.2

/-- The tune engine hands a voice back (R29): the claim is cleared, and the voice goes OFFLINE with reason FAULT, or
IDLE with the timestamp as its release stamp. -/
def State.handBack (v : VoiceId) (fault : Bool) (s : State) : State :=
  let s := s.setClaim v false
  if fault then s.setPhase v (.offline .fault) else s.goIdle v

/-- One value of a TUNE_VOICE_DONE: an oscillator's result, and the number of anchors in its active record (R156). -/
def State.tuneValue (s : State) (o : OscId) (r : CalResult) : Nat := pair r.code (s.cal o).map.kept

/-- TUNE_VOICE_DONE (R156). -/
def State.postVoiceDone (v : VoiceId) (a b : CalResult) (s : State) : State :=
  s.post .tuneVoiceDone v (s.tuneValue (oscOf v false) a) (s.tuneValue (oscOf v true) b)

/-- VOICE_OFFLINE with reason FAULT; value2 names the oscillators that gave NO_SIGNAL (R156, R195). -/
def State.postVoiceOffline (v : VoiceId) (a b : Bool) (s : State) : State :=
  s.post .voiceOffline v OfflineReason.fault.code (bit a + 2 * bit b)

/-! ### Measuring the current voice -/

/-- The current voice is done (R145). -/
def State.voiceDone (v : VoiceId) (a b : CalResult) (s : State) : State :=
  let fault := a == .noSignal || b == .noSignal
  let s := s.handBack v fault
  let s := if fault then s.postVoiceOffline v (a == .noSignal) (b == .noSignal) else s
  let s := s.postVoiceDone v a b
  let s := if fault then s else s.offer v
  ((s.withRun fun r => { r with current := none }).unmark v).runContinue

/-- An oscillator is decided (R144): commit or keep, last result, tune count, and the run's counts. -/
def State.decideOscillator (c : CalCandidate) (s : State) : State × CalResult :=
  let d := decideCandidate c.entries.toList
  let rec0 := s.cal c.osc
  let s := s.setCal c.osc
    { rec0 with map := d.2.getD rec0.map, lastResult := d.1, tuneCount := incSat16 rec0.tuneCount }
  let s := { s with candidate := none }
  let s := s.withRun fun r =>
    if d.1 = .pass then { r with passCount := r.passCount + 1 } else { r with failCount := r.failCount + 1 }
  (s, d.1)

/-- The completion of an anchor reaches the run (R142, steps 3 and 4): the next anchor, the next oscillator, or the
end of the voice. -/
def State.anchorCompleted (s : State) : State :=
  match s.run with
  | some r =>
    match r.current, s.candidate with
    | some c, some cand =>
      if h : c.anchor.val < 7 then
        let a : AnchorId := ⟨c.anchor.val + 1, by omega⟩
        { s with run := some { r with current := some { c with anchor := a } } }.startAnchor c.voice c.second a
      else
        let d := s.decideOscillator cand
        if c.second then d.1.voiceDone c.voice (c.aResult.getD .none) d.2
        else
          (d.1.withRun fun r =>
            { r with current := some { c with second := true, anchor := 0, aResult := some d.2 } }).openOscillator
            c.voice true
    | _, _ => s
  | none => s

/-- A measurement ends with a result (R133): the anchor entry is written, the record goes IDLE, and the completion is
handed on. -/
def State.finishAnchor (m : Measurement) (res : AnchorResult) (s : State) : State :=
  let written := s.candidate.map fun (c : CalCandidate) => { c with entries := c.entries.set m.anchor (some res) }
  { s with measurement := none, candidate := written }.anchorCompleted

/-! ### Aborting (R147, R149) -/

/-- The candidate of the oscillator under measurement is removed without a decision, and its record takes ABORTED
(R147, R148, R149, R153). -/
def State.abortCurrent (c : Current) (s : State) : State :=
  let s := s.abandonMeasurement
  let o := oscOf c.voice c.second
  { s with candidate := none }.setCal o { s.cal o with lastResult := .aborted }

/-- The results that TUNE_VOICE_DONE carries for an interrupted voice: ABORTED for each oscillator not decided
(R147). -/
def Current.resultA (c : Current) : CalResult := if c.second then c.aResult.getD .none else .aborted

/-- Step 1 of TUNE_ABORT: the current voice (R147). Answers also whether the voice went IDLE. -/
def State.abortCurrentVoice (r : Run) (s : State) : State × List VoiceId :=
  match r.current with
  | none => (s, [])
  | some c =>
    let noSignal := c.second && c.aResult == some .noSignal
    let fault := noSignal || r.fromFault c.voice
    let s := (s.abortCurrent c).handBack c.voice fault
    let s := if fault then s.postVoiceOffline c.voice noSignal false else s
    (s.postVoiceDone c.voice c.resultA .aborted, if fault then [] else [c.voice])

/-- Step 2 of TUNE_ABORT: the voices that are TUNING and not current, in ascending order (R147). -/
def State.abortWaiting (r : Run) (s : State) : State × List VoiceId :=
  let waiting := allVoices.filter fun v => (s.voice v).phase.isTuning
  (waiting.foldl (fun s v => s.handBack v (r.fromFault v)) s, waiting.filter fun v => !r.fromFault v)

/-- Step 3 of TUNE_ABORT: claims on voices that are not TUNING are cleared (R147). -/
def State.clearClaims (s : State) : State :=
  allVoices.foldl (fun s v => if (s.voice v).claim then s.setClaim v false else s) s

/-- TUNE_ABORT of a run that exists (R147). -/
def State.abortRun (r : Run) (s : State) : State :=
  let one := s.abortCurrentVoice r
  let two := one.1.abortWaiting r
  let s := { two.1.clearClaims.postRunDone r true with run := none }
  s.offerAll (allVoices.filter fun v => v ∈ one.2 ++ two.2)

/-- The abort that RESET_VOICES makes (R149): the notices and the record of the oscillator under measurement; the
voices are treated by R31. -/
def State.abortRunForReset (s : State) : State :=
  match s.run with
  | none => s
  | some r =>
    let s := match r.current with
      | some c => (s.abortCurrent c).postVoiceDone c.voice c.resultA .aborted
      | none => s
    { s.postRunDone r true with run := none }

/-! ### Creating a run (R137, R139, R140) -/

/-- A voice may be queued (R137). -/
def VoicePhase.tunable : VoicePhase → Bool
  | .offline .disabled => false
  | .damping _ _ true _ => false
  | _ => true

/-- The tune queue built from a voice mask (R137). -/
def State.tuneQueue (s : State) (mask : Nat) : List VoiceId :=
  allVoices.filter fun v => mask.testBit v.val && (s.voice v).phase.tunable

/-- A run is created over a queue that is not empty, with its claims (R137, R139, R140). -/
def State.createRun (mode : RunMode) (requester : Option Link) (queue : List VoiceId) (s : State) : State :=
  let s := { s with run := some { mode, requester, queue, current := none, marks := [], passCount := 0, failCount := 0 } }
  match mode with
  | .background => s.runContinue
  | .foreground => (queue.foldl State.claimForeground s).takeNext

/-! ### Expiries of a voice (R17, R18, R20) -/

/-- A voice that carries a claim and would become IDLE goes TUNING (R18, R20, R29), and the run may take it (R141). -/
def State.becomeTuning (v : VoiceId) (s : State) : State := (s.enterTuning v false).takeNext

/-- A voice that would become IDLE: TUNING when claimed, otherwise IDLE and offered to the deferred list (R18, R20,
R23, R29). -/
def State.becomeFree (v : VoiceId) (s : State) : State :=
  if (s.voice v).claim then s.becomeTuning v else (s.goIdle v).offer v

/-- Release-window expiry of a RELEASED voice (R20). -/
def State.windowExpiry (v : VoiceId) (s : State) : State :=
  if (s.voice v).phase.isReleased then s.becomeFree v else s

/-- A RELEASE_WINDOW of 0 expires as soon as it starts (R20): each RELEASED voice whose window is 0 passes on, in
ascending index order (assumption log 7). -/
def State.passZeroWindows (s : State) : State :=
  allVoices.foldl (fun s v =>
    match (s.voice v).phase with
    | .released _ _ 0 => s.windowExpiry v
    | _ => s) s

/-- Damp expiry of a DAMPING voice (R17, R18). -/
def State.dampEnd (v : VoiceId) (s : State) : State :=
  match (s.voice v).phase with
  | .damping _ (some su) _ _ =>
    let s := ((s.unbind v su.part).gateOn v su.part { key := su.key, velocity := su.velocity }).turnGlide v su.key
    if su.kind = .note then s.countSounded su.part else s
  | .damping _ none true _ => (s.setPhase v (.offline .disabled)).stopGlide v
  | .damping _ none false _ => s.becomeFree v
  | _ => s

end Sys2Proof.Machine
end

