-- ==== Sys2Proof/Machine/Allocation.lean ====
section
/-! DEFINITION. Giving notes to voices and taking them back: the allocation steps of a POLY part (R8 to R14, R24),
the held-key list and the mono set of a MONO or UNISON part (R33 to R40, R46), hold (R44 to R46) and ALL_OFF (R25). -/

namespace Sys2Proof.Machine

/-! ### Candidates, budget and victims (R10 to R13) -/

/-- VOICE_MODE of the part is POLY (R50). -/
def State.isPoly (s : State) (p : PartId) : Bool := s.param p pVoiceMode == 0

/-- The candidate voices of a part, less the voices already picked for a set (R10, R35). -/
def State.candidates (s : State) (p : PartId) (taken : List VoiceId) : List VoiceId :=
  allVoices.filter fun v =>
    let ph := (s.voice v).phase
    s.inMask p v && !(ph.isTuning || ph.isOffline || ph.isDamping) && !(taken.contains v)

/-- The part is at its budget (R10). -/
def State.atBudget (s : State) (p : PartId) : Bool := decide (s.param p pMaxVoices ≤ s.load p)

/-- The velocity of the note a voice holds, 0 when it holds none. -/
def Voice.velocity (x : Voice) : Nat := (x.phase.note?.map Note.velocity).getD 0

/-- The key of the note a voice holds, 0 when it holds none. -/
def Voice.key (x : Voice) : Nat := (x.phase.note?.map fun n => n.key.val).getD 0

/-- The victim that STEAL_POLICY of the part picks from a set in ascending index order (R13). -/
def State.pickVictim (s : State) (p : PartId) (vs : List VoiceId) : Option VoiceId :=
  match s.param p pStealPolicy with
  | 0 => chooseOldest (fun v => (s.voice v).serial) vs
  | 1 => chooseLowest (fun v => (s.voice v).velocity) vs
  | 2 => chooseLowest (fun v => (s.voice v).key) vs
  | _ => chooseHighest (fun v => (s.voice v).key) vs

/-- A GATED candidate is a victim for a note of part p below its budget (R13): p's own when `own` holds (a mono-set
pick takes none of its own, R35), and those of a part whose load is above its RESERVE. -/
def State.isVictim (s : State) (p : PartId) (own : Bool) (v : VoiceId) : Bool :=
  let x := s.voice v
  x.phase.isGated &&
    if x.part = p then own else decide (s.param x.part pReserve < s.load x.part)

/-- What the steps three to seven find for a note of a part (R10 to R13, R35). -/
inductive Pick where
  | idle (v : VoiceId)
  | steal (v : VoiceId)
  | nothing
deriving DecidableEq, Repr

/-- A victim, as the outcome of the steps. -/
def Pick.ofVictim : Option VoiceId → Pick
  | some v => .steal v
  | none => .nothing

/-- The release start of a RELEASED voice (R12). -/
def Voice.releaseStart (x : Voice) : Stamp :=
  match x.phase with
  | .released _ start _ => start
  | _ => 0

/-- Steps three to seven (R10 to R13), with the differences of R35 when `own` is no and `taken` lists the voices
already picked. -/
def State.pickVoice (s : State) (p : PartId) (taken : List VoiceId) (own : Bool) : Pick :=
  let cands := s.candidates p taken
  if s.atBudget p then
    .ofVictim (s.pickVictim p (cands.filter fun v => (s.voice v).gatedFor p))
  else
    match chooseOldest (fun v => (s.voice v).releaseStamp)
        (cands.filter fun v => decide ((s.voice v).phase = .idle)) with
    | some v => .idle v
    | none =>
      match chooseOldest (fun v => (s.voice v).releaseStart)
          (cands.filter fun v => (s.voice v).phase.isReleased) with
      | some v => .steal v
      | none => .ofVictim (s.pickVictim p (cands.filter (s.isVictim p own)))

/-! ### A note of a POLY part -/

/-- The filter of R8, cases (a) to (c). -/
def State.filteredOut (s : State) (p : PartId) (k : Key) : Bool :=
  s.param p pPartEnable == 0 || decide (k.val < s.param p pKeyLow) || decide (s.param p pKeyHigh < k.val)
    || s.param p pMaxVoices == 0

/-- The duplicate check of R8, case (d). -/
def State.isWaiting (s : State) (p : PartId) (k : Key) : Bool :=
  (s.deferred.any fun d => d.part == p && d.key == k)
    || allVoices.any fun v => (s.voice v).phase.successor?.any fun su => su.part == p && su.key == k

/-- At least one voice of the part's mask is DAMPING or TUNING (R14). -/
def State.mayFreeSoon (s : State) (p : PartId) : Bool :=
  allVoices.any fun v => s.inMask p v && ((s.voice v).phase.isDamping || (s.voice v).phase.isTuning)

/-- The first three conditions of the deferral step (R14). -/
def State.mayDefer (s : State) (p : PartId) : Bool :=
  s.param p pDeferEnable == 1 && decide (0 < s.global gDeferTimeout) && s.mayFreeSoon p

/-- The eighth step: the note is deferred or dropped (R14). -/
def State.deferOrDrop (p : PartId) (k : Key) (velocity : Nat) (s : State) : State :=
  if s.mayDefer p && decide (s.deferred.length < 8) then
    { s with deferred := s.deferred ++
        [{ part := p, key := k, velocity, arrival := s.timestamp, timeout := s.global gDeferTimeout }] }
  else (s.countDropped p).postDropped p k (bit (s.mayDefer p))

/-- Steps three to eight for a POLY note (R10 to R14). -/
def State.allocate (p : PartId) (k : Key) (velocity : Nat) (src : Source) (s : State) : State :=
  match s.pickVoice p [] true with
  | .idle v => (s.soundIdle v p { key := k, velocity }).countSounded p
  | .steal v => s.damp v (some { part := p, key := k, velocity, source := src, kind := .note })
  | .nothing => s.deferOrDrop p k velocity

/-- A GATED voice of part p and key k (R9). -/
def State.sameKey (s : State) (p : PartId) (k : Key) : Option VoiceId :=
  allVoices.find? fun v => (s.voice v).gatedFor p && (s.voice v).key == k.val

/-- The REUSE retrigger of the same-key step (R9). -/
def State.reuse (v : VoiceId) (velocity : Nat) (s : State) : State :=
  match (s.voice v).phase with
  | .gated n _ _ =>
    { s with serial := s.serial + 1 }.setVoice v
      { s.voice v with
        phase := .gated { n with velocity } false (some pulseTime), serial := s.serial + 1, clamped := false }
  | _ => s

/-- Steps two to eight for a POLY note (R9 to R14). -/
def State.polyNote (p : PartId) (k : Key) (velocity : Nat) (src : Source) (s : State) : State :=
  match s.sameKey p k with
  | some v =>
    if s.param p pRetrigger = 0 then (s.reuse v velocity).countSounded p
    else (s.release v).passZeroWindows.allocate p k velocity src
  | none => s.allocate p k velocity src

/-! ### A note of a MONO or UNISON part -/

/-- The entry with the lowest key (R34). -/
def lowestKey : List HeldKey → Option HeldKey
  | [] => none
  | e :: es => some (es.foldl (fun best x => if x.key < best.key then x else best) e)

/-- The entry with the highest key (R34). -/
def highestKey : List HeldKey → Option HeldKey
  | [] => none
  | e :: es => some (es.foldl (fun best x => if best.key < x.key then x else best) e)

/-- The entry that KEY_PRIORITY selects (R34): 0 LAST, 1 LOW, 2 HIGH. -/
def selectEntry (priority : Nat) (held : List HeldKey) : Option HeldKey :=
  match priority with
  | 0 => held.getLast?
  | 1 => lowestKey held
  | _ => highestKey held

/-- The selection of a part as its list and its KEY_PRIORITY stand (R34). -/
def State.selection (s : State) (p : PartId) : Option HeldKey :=
  selectEntry (s.param p pKeyPriority) (s.perfOf p).held

/-- A SET successor of the part takes key, velocity and source of an entry (R37). -/
def Successor.follow (e : HeldKey) (su : Successor) : Successor :=
  { su with key := e.key, velocity := e.velocity, source := e.source }

/-- One voice of the mono set follows a new selected entry (R37, R162). -/
def State.followVoice (p : PartId) (e : HeldKey) (s : State) (v : VoiceId) : State :=
  match (s.voice v).phase with
  | .gated n sus pulse =>
    if s.param p pLegato = 0 then
      ({ s with serial := s.serial + 1 }.setVoice v
        { s.voice v with
          phase := .gated { key := e.key, velocity := e.velocity } sus (some pulseTime)
          serial := s.serial + 1, clamped := false }).turnGlide v e.key
    else
      (s.setVoice v { s.voice v with phase := .gated { n with key := e.key } sus pulse, clamped := false }).turnGlide
        v e.key
  | .damping n (some su) dp timer =>
    if su.kind = .set ∧ su.part = p then s.setPhase v (.damping n (some (su.follow e)) dp timer) else s
  | _ => s

/-- The selection is made again; a different selected key is followed by the mono set (R34, R37). The voices of the set
follow in ascending index order, in which they take their new serials with LEGATO 0: the document gives no order, and
this one is the model's choice (assumption log 26). -/
def State.reselect (p : PartId) (s : State) : State :=
  match s.selection p with
  | some e =>
    if (s.perfOf p).selected = some e.key then s
    else
      (s.perfOf p).monoSet.foldl (State.followVoice p e)
        (s.setPerf p { s.perfOf p with selected := some e.key })
  | none => s

/-- One voice of the mono set takes a repeated selected key with LEGATO 0 (R38). -/
def State.refreshVoice (p : PartId) (e : HeldKey) (s : State) (v : VoiceId) : State :=
  match (s.voice v).phase with
  | .gated _ _ _ => s.retrigger v e.velocity
  | .damping n (some su) dp timer =>
    if su.kind = .set ∧ su.part = p then
      s.setPhase v (.damping n (some { su with velocity := e.velocity, source := e.source }) dp timer)
    else s
  | _ => s

/-- A KEY_ON that leaves the selected key unchanged (R38). The voices of the set are taken in ascending index order, the
model's choice (assumption log 26). -/
def State.refreshSet (p : PartId) (e : HeldKey) (s : State) : State :=
  if (s.perfOf p).selected = some e.key ∧ s.param p pLegato = 0 then
    (s.perfOf p).monoSet.foldl (State.refreshVoice p e) s
  else s

/-- The wanted count of a set as the part's parameters stand (R35). -/
def State.wantedCount (s : State) (p : PartId) : Nat :=
  if s.param p pVoiceMode = 2 then min (s.param p pUnisonCount) (s.param p pMaxVoices) else 1

/-- Pick voices for a set one at a time, up to a number (R35). Answers the voices picked, in picking order. -/
def State.pickSet (p : PartId) (e : HeldKey) : Nat → List VoiceId → State → List VoiceId × State
  | 0, taken, s => (taken, s)
  | n + 1, taken, s =>
    match s.pickVoice p taken false with
    | .idle v => State.pickSet p e n (taken ++ [v]) (s.soundIdle v p { key := e.key, velocity := e.velocity })
    | .steal v =>
      State.pickSet p e n (taken ++ [v])
        (s.damp v (some { part := p, key := e.key, velocity := e.velocity, source := e.source, kind := .set }))
    | .nothing => (taken, s)

/-- The first key of an empty held-key list obtains the mono set (R33, R35, R36). -/
def State.firstKey (p : PartId) (e : HeldKey) (s : State) : State :=
  let wanted := s.wantedCount p
  let picked := State.pickSet p e wanted [] s
  let s := picked.2
  if picked.1 = [] then (s.countDropped p).postDropped p e.key 0
  else
    let s := (s.setPerf p { s.perfOf p with
      held := [e], selected := some e.key, wanted := some wanted
      monoSet := allVoices.filter fun v => picked.1.contains v }).countSounded p
    if picked.1.length < wanted then s.post .unisonShort p wanted picked.1.length else s

/-- The held-key list with an entry stored at the tail (R33). -/
def storeHeld (e : HeldKey) (held : List HeldKey) : List HeldKey :=
  if held.any fun x => x.key == e.key then held.filter (fun x => x.key != e.key) ++ [e]
  else if held.length < 10 then held ++ [e]
  else held.drop 1 ++ [e]

/-- A key that reaches a held-key list that is not empty (R33, R34, R37, R38). -/
def State.nextKey (p : PartId) (e : HeldKey) (s : State) : State :=
  let s := (s.setPerf p { s.perfOf p with held := storeHeld e (s.perfOf p).held }).countSounded p
  if (s.selection p).map HeldKey.key = (s.perfOf p).selected then s.refreshSet p e else s.reselect p

/-- A note of a MONO or UNISON part reaches its held-key list (R33). -/
def State.monoNote (p : PartId) (k : Key) (velocity : Nat) (src : Source) (s : State) : State :=
  let e : HeldKey := { key := k, velocity, source := src, sustained := false }
  if (s.perfOf p).held = [] then s.firstKey p e else s.nextKey p e

/-- A note that has passed the checks of R7: counted, filtered or given to voices (R7, R8). Answers also whether it
was filtered. A velocity of 0 is taken as 1. -/
def State.giveNote (p : PartId) (k : Key) (velocity : Nat) (src : Source) (s : State) : State × Bool :=
  let velocity := max 1 velocity
  let s := s.countIn p
  if s.filteredOut p k || (s.isPoly p && s.isWaiting p k) then (s.countRefused p, true)
  else if s.isPoly p then (s.polyNote p k velocity src, false)
  else (s.monoNote p k velocity src, false)

/-! ### Taking notes back -/

/-- Hold keeps a released note of the part sounding: the hold flag is on and HOLD_ENABLE is 1 (R24, R39). -/
def State.holds (s : State) (p : PartId) : Bool := (s.perfOf p).hold && s.param p pHoldEnable == 1

/-- A GATED voice of (p, k) that is not sustained (R24, item 1). -/
def State.keyOffVoice (s : State) (p : PartId) (k : Key) : Option VoiceId :=
  allVoices.find? fun v =>
    match (s.voice v).phase with
    | .gated n sus _ => (s.voice v).part == p && n.key == k && !sus
    | _ => false

/-- A voice that holds a successor of kind NOTE for (p, k) (R24, item 3). -/
def State.keyOffSuccessor (s : State) (p : PartId) (k : Key) : Option VoiceId :=
  allVoices.find? fun v =>
    (s.voice v).phase.successor?.any fun su => su.part == p && su.key == k && su.kind == .note

/-- A GATED voice becomes sustained (R24). -/
def State.sustain (v : VoiceId) (s : State) : State :=
  match (s.voice v).phase with
  | .gated n _ pulse => s.setPhase v (.gated n true pulse)
  | _ => s

/-- KEY_OFF in a POLY part (R24). Answers also whether nothing matched. -/
def State.polyKeyOff (p : PartId) (k : Key) (s : State) : State × Bool :=
  match s.keyOffVoice p k with
  | some v => (if s.holds p then s.sustain v else (s.release v).passZeroWindows, false)
  | none =>
    match takeFirst (fun d => d.part == p && d.key == k) s.deferred with
    | some (_, rest) => ({ s with deferred := rest }.countCancelled p, false)
    | none =>
      match s.keyOffSuccessor p k with
      | some v => (s.cancelSuccessor v, false)
      | none => (s, true)

/-- The mono set is dissolved (R40). -/
def State.dissolve (p : PartId) (s : State) : State :=
  ((s.perfOf p).monoSet.foldl (fun s v =>
    match (s.voice v).phase with
    | .gated _ _ _ => s.release v
    | .damping _ (some su) _ _ => if su.kind = .set ∧ su.part = p then s.cancelSuccessor v else s
    | _ => s) s).clearHeld p

/-- The held-key list of a part is replaced by what remains of it, and treated once: dissolved when empty, otherwise
selected again (R39, R40, R46). -/
def State.keepHeld (p : PartId) (held : List HeldKey) (s : State) : State :=
  if held = [] then s.dissolve p else (s.setPerf p { s.perfOf p with held }).reselect p

/-- KEY_OFF in a MONO or UNISON part (R39). Answers also whether nothing changed. -/
def State.monoKeyOff (p : PartId) (k : Key) (s : State) : State × Bool :=
  let held := (s.perfOf p).held
  match held.find? fun e => e.key == k with
  | none => (s, true)
  | some e =>
    if e.sustained then (s, true)
    else if s.holds p then
      (s.setPerf p { s.perfOf p with
        held := held.map fun x => if x.key = k then { x with sustained := true } else x }, false)
    else ((s.keepHeld p (held.filter fun x => x.key != k)).passZeroWindows, false)

/-- KEY_OFF, from a request or a NOTE_OFF frame (R24, R39). -/
def State.keyOff (p : PartId) (k : Key) (s : State) : State × Bool :=
  if s.isPoly p then s.polyKeyOff p k else s.monoKeyOff p k

/-- GATED and sustained. -/
def VoicePhase.isSustained : VoicePhase → Bool
  | .gated _ sus _ => sus
  | _ => false

/-- A sustained voice is released at hold off: its release stamp takes the timestamp too (R45). -/
def State.releaseHeld (v : VoiceId) (s : State) : State :=
  let s := s.release v
  s.setVoice v { s.voice v with releaseStamp := s.timestamp }

/-- Every GATED voice of a POLY part whose sustained flag is set is released (R45). -/
def State.releaseSustained (p : PartId) (s : State) : State :=
  allVoices.foldl
    (fun s v => if (s.voice v).gatedFor p && (s.voice v).phase.isSustained then s.releaseHeld v else s) s

/-- Hold off in a part (R45, R46). -/
def State.holdOff (p : PartId) (s : State) : State :=
  if s.isPoly p then s.releaseSustained p
  else
    let held := (s.perfOf p).held
    if held = [] then s else s.keepHeld p (held.filter fun e => !e.sustained)

/-- The hold flag of a part is set to ON or OFF (R44). -/
def State.setHold (on : Bool) (p : PartId) (s : State) : State :=
  if (s.perfOf p).hold = on then s
  else
    let s := s.setPerf p { s.perfOf p with hold := on }
    if on then s else s.holdOff p

/-- The parts of a mask (bit n names part n, R183). They are taken in ascending order: the document gives no order
among the parts of a HOLD or ALL_OFF (R25, R44, R117), and this one is the model's choice (assumption log 28). -/
def partsOf (mask : BitVec 4) : List PartId := allParts.filter fun p => mask.getLsbD p.val

/-- The hold flags of the parts of a mask are set (R44, R117). -/
def State.setHolds (on : Bool) (mask : BitVec 4) (s : State) : State :=
  ((partsOf mask).foldl (fun s p => s.setHold on p) s).passZeroWindows

/-- The hold flags of the parts of a mask are toggled, each on its own (R117). -/
def State.toggleHolds (mask : BitVec 4) (s : State) : State :=
  ((partsOf mask).foldl (fun s p => s.setHold (!(s.perfOf p).hold) p) s).passZeroWindows

/-- ALL_OFF of one part (R25, R40). -/
def State.allOffPart (s : State) (p : PartId) : State :=
  (((s.releaseWhere (Voice.gatedFor p)).cancelDeferred p).cancelSuccessorsOf p).clearHeld p

/-- A voice, entry, successor or key of the part would be affected by ALL_OFF (R25). -/
def State.hasNotes (s : State) (p : PartId) : Bool :=
  (allVoices.any fun v => (s.voice v).gatedFor p || (s.voice v).successorOf p)
    || (s.deferred.any fun d => d.part == p) || !(s.perfOf p).held.isEmpty

/-- ALL_OFF of the parts of a mask (R25, R118). -/
def State.allOff (mask : BitVec 4) (s : State) : State := ((partsOf mask).foldl State.allOffPart s).passZeroWindows

end Sys2Proof.Machine
end

