-- ==== Sys2Proof/Machine/Line.lean ====
section
/-! DEFINITION. Link N (R185 to R189): the input FIFO, the parser, the line counters and LINE_ERROR. -/

namespace Sys2Proof.Machine

/-- The kinds of line error (R188, R195). -/
inductive LineErrorKind where
  | frame
  | byte
  | overrun
deriving DecidableEq, Repr

/-- The counter of a kind is increased (R188). -/
def LineUnit.count (k : LineErrorKind) (u : LineUnit) : LineUnit :=
  match k with
  | .frame => { u with frameErrors := incSat16 u.frameErrors }
  | .byte => { u with byteErrors := incSat16 u.byteErrors }
  | .overrun => { u with fifoOverruns := incSat16 u.fifoOverruns }

/-- A kind joins the mask of the kinds seen (R189). -/
def ErrorMask.add (k : LineErrorKind) (m : ErrorMask) : ErrorMask :=
  match k with
  | .frame => { m with frame := true }
  | .byte => { m with byte := true }
  | .overrun => { m with overrun := true }

/-- The kinds mask of LINE_ERROR (R195). -/
def ErrorMask.code (m : ErrorMask) : Nat := bit m.frame + 2 * bit m.byte + 4 * bit m.overrun

/-- The mask with no kind in it (R189). -/
def ErrorMask.empty : ErrorMask := { frame := false, byte := false, overrun := false }

/-- The pacing time of LINE_ERROR, in ms (R189). -/
def pacingTime : Nat := 1000

/-- LINE_ERROR goes to every link with the mask and the accumulator; both are cleared and the pacing timer is started
(R189). -/
def State.postLineError (s : State) : State :=
  let u := s.lineUnit
  let s := s.postWhere (fun _ => true) .lineError u.errors.code u.accumulator 0
  { s with lineUnit := { s.lineUnit with accumulator := 0, errors := .empty, pacing := some pacingTime } }

/-- An error event of a kind (R188, R189): its counter rises, it is accumulated, and it is posted when the pacing
timer does not run. -/
def State.lineError (k : LineErrorKind) (s : State) : State :=
  let u := s.lineUnit.count k
  let s := { s with lineUnit := { u with accumulator := incSat16 u.accumulator, errors := u.errors.add k } }
  if s.lineUnit.pacing.isSome then s else s.postLineError

/-- Replace the parser's state. -/
def State.setParser (x : ParserState) (s : State) : State := { s with lineUnit := { s.lineUnit with parser := x } }

/-! ### Frames (R185) -/

/-- The kinds of line frame (R185). -/
inductive LineKind where
  | noteOn
  | noteOff
  | holdOn
  | holdOff
  | bend
deriving DecidableEq, Repr

/-- A status byte: bit 7 is 1 (R185). -/
def isStatus (b : Byte) : Bool := b.getLsbD 7

/-- The kind that a status byte names in bits 6–4, when the kind is one of the five and bits 3–2 are 0 (R185,
R187). -/
def lineKind? (b : Byte) : Option LineKind :=
  if b.toNat / 4 % 4 = 0 then
    match b.toNat / 16 % 8 with
    | 1 => some .noteOn
    | 2 => some .noteOff
    | 3 => some .holdOn
    | 4 => some .holdOff
    | 5 => some .bend
    | _ => none
  else none

/-- The part of a status byte, bits 1–0 (R185). -/
def linePart (b : Byte) : PartId := ⟨b.toNat % 4, Nat.mod_lt _ (by decide)⟩

/-- The value of a data byte, bits 6–0 (R185). -/
def lineKey (b : Byte) : Key := ⟨b.toNat % 128, Nat.mod_lt _ (by decide)⟩

/-- A hold frame is handed to the allocator (R44, R187). -/
def State.lineHold (on : Bool) (p : PartId) (s : State) : State := (s.setHold on p).passZeroWindows

/-- The bend value of a part is set (R47). -/
def State.setBend (p : PartId) (x : Nat) (s : State) : State := s.setPerf p { s.perfOf p with bend := x }

/-! ### The parser (R187, R188) -/

/-- A valid status byte in WAIT_STATUS: a hold frame is complete, any other frame starts (R187). -/
def State.startLineFrame (b : Byte) (k : LineKind) (s : State) : State :=
  match k with
  | .holdOn => (s.setParser .waitStatus).lineHold true (linePart b)
  | .holdOff => (s.setParser .waitStatus).lineHold false (linePart b)
  | .noteOn | .noteOff | .bend => s.setParser (.data1 b)

/-- A frame in progress (R187). -/
def ParserState.inFrame : ParserState → Bool
  | .waitStatus => false
  | .data1 _ => true
  | .data2 _ _ => true

/-- The parser takes a status byte (R187): a frame in progress is a frame error, and so is an invalid byte. -/
def State.parseStatus (b : Byte) (s : State) : State :=
  let s := if s.lineUnit.parser.inFrame then (s.setParser .waitStatus).lineError .frame else s
  match lineKind? b with
  | some k => s.startLineFrame b k
  | none => (s.setParser .waitStatus).lineError .frame

/-- The parser takes a data byte (R187). -/
def State.parseData (b : Byte) (s : State) : State :=
  match s.lineUnit.parser with
  | .waitStatus => s.lineError .frame
  | .data1 status =>
    match lineKind? status with
    | some .noteOff => ((s.setParser .waitStatus).keyOff (linePart status) (lineKey b)).1
    | _ => s.setParser (.data2 status b)
  | .data2 status first =>
    let s := s.setParser .waitStatus
    match lineKind? status with
    | some .noteOn => (s.giveNote (linePart status) (lineKey first) (lineKey b) .line).1
    | some .bend => s.setBend (linePart status) ((lineKey first).val + 128 * (lineKey b).val)
    | _ => s

/-- The parser takes a byte from the head of the FIFO (R187, R188). -/
def State.parse (x : LineByte) (s : State) : State :=
  if !x.good then (s.setParser .waitStatus).lineError .byte
  else if isStatus x.value then s.parseStatus x.value
  else s.parseData x.value

end Sys2Proof.Machine
end

