-- ==== Sys2Proof/Machine/Operands.lean ====
section
/-! DEFINITION. The operand forms of requests: how the fields of a payload are read (R183). -/

namespace Sys2Proof.Machine

/-- A field as an index below `n`, when it is in range. -/
def field? (n : Nat) (b : Byte) : Option (Fin n) := if h : b.toNat < n then some ⟨b.toNat, h⟩ else none

/-- A part field 0–3 (R183). -/
def part? (b : Byte) : Option PartId := field? 4 b

/-- A key field 0–127. -/
def key? (b : Byte) : Option Key := field? 128 b

/-- A part mask 1–15, bit n for part n (R183). -/
def partMask? (b : Byte) : Option (BitVec 4) :=
  if 0 < b.toNat ∧ b.toNat ≤ 15 then some (BitVec.ofNat 4 b.toNat) else none

/-- A field with two values, 0 and 1: no and yes. -/
def flag? (b : Byte) : Option Bool := if b = 0 then some false else if b = 1 then some true else none

/-- The 16-bit values of a run of payload bytes, none when a byte is left over (R67, R183). -/
def values16? : List Byte → Option (List Nat)
  | [] => some []
  | lo :: hi :: rest => (values16? rest).map fun vs => u16 lo hi :: vs
  | [_] => none

/-- A curve: LINEAR 0, TEMPLATE 1 (R69). -/
def curve? (b : Byte) : Option Curve := (flag? b).map fun t => if t then .template else .linear

/-- A knob mode: JUMP 0, CATCH 1, SCALE 2 (R103). -/
def knobMode? (b : Byte) : Option KnobMode :=
  if b = 0 then some .jump else if b = 1 then some .catch else if b = 2 then some .scale else none

/-- A switch action with its arguments (R114): NONE 0, REPORT 1, STEP_PARAM 2, HOLD 3, ALL_OFF 4. -/
def switchAction? (action arg1 arg2 : Byte) : Option SwitchAction :=
  match action.toNat with
  | 0 => some .none
  | 1 => some .report
  | 2 => (part? arg1).bind fun p => (field? 40 arg2).map fun i => .stepParam p i
  | 3 => (partMask? arg1).bind fun m => (flag? arg2).map fun l => .hold m (if l then .latched else .momentary)
  | 4 => (partMask? arg1).map .allOff
  | _ => none

end Sys2Proof.Machine
end

