-- ==== Sys2Proof/Machine/Notes.lean ====
section
/-! DEFINITION. The note requests KEY_ON, KEY_OFF, HOLD, BEND and ALL_OFF (codes 0x01 to 0x05). -/

namespace Sys2Proof.Machine

/-- What a command answers. -/
abbrev Result := Host.Outcome State Fault Refusal

/-- KEY_ON: part, key, velocity (R7, R33). -/
def keyOnService (l : Link) (payload : List Byte) (s : State) : State × Answer :=
  match payload with
  | [pb, kb, vb] =>
    match part? pb, key? kb with
    | some p, some k =>
      let r := s.giveNote p k (min 127 vb.toNat) (Source.ofLink l)
      (r.1, { status := .ok, clamped := decide (127 < vb.toNat), nothing := r.2 })
    | _, _ => s.refused .range
  | _ => s.refused .length

/-- KEY_OFF: part, key (R24, R39). -/
def keyOffService (_l : Link) (payload : List Byte) (s : State) : State × Answer :=
  match payload with
  | [pb, kb] =>
    match part? pb, key? kb with
    | some p, some k =>
      let r := s.keyOff p k
      (r.1, { status := .ok, nothing := r.2 })
    | _, _ => s.refused .range
  | _ => s.refused .length

/-- HOLD: part mask, state (R44). NOTHING when no named part's flag changes. -/
def holdService (_l : Link) (payload : List Byte) (s : State) : State × Answer :=
  match payload with
  | [mb, ob] =>
    match partMask? mb, flag? ob with
    | some mask, some on =>
      (s.setHolds on mask, { status := .ok, nothing := (partsOf mask).all fun p => (s.perfOf p).hold == on })
    | _, _ => s.refused .range
  | _ => s.refused .length

/-- BEND: part, value (R47). -/
def bendService (_l : Link) (payload : List Byte) (s : State) : State × Answer :=
  match payload with
  | [pb, lo, hi] =>
    match part? pb with
    | some p => (s.setBend p (min 16383 (u16 lo hi)), { status := .ok, clamped := decide (16383 < u16 lo hi) })
    | none => s.refused .range
  | _ => s.refused .length

/-- ALL_OFF: part mask (R25). -/
def allOffService (_l : Link) (payload : List Byte) (s : State) : State × Answer :=
  match payload with
  | [mb] =>
    match partMask? mb with
    | some mask => (s.allOff mask, { status := .ok, nothing := !((partsOf mask).any s.hasNotes) })
    | none => s.refused .range
  | _ => s.refused .length

/-- KEY_ON (R7). -/
def execKeyOn (l : Link) (payload : List Byte) (s : State) : Result :=
  .next (s.takeRequest .keyOn keyOnService l payload)

/-- KEY_OFF (R24). -/
def execKeyOff (l : Link) (payload : List Byte) (s : State) : Result :=
  .next (s.takeRequest .keyOff keyOffService l payload)

/-- HOLD (R44). -/
def execHold (l : Link) (payload : List Byte) (s : State) : Result :=
  .next (s.takeRequest .hold holdService l payload)

/-- BEND (R47). -/
def execBend (l : Link) (payload : List Byte) (s : State) : Result :=
  .next (s.takeRequest .bend bendService l payload)

/-- ALL_OFF (R25). -/
def execAllOff (l : Link) (payload : List Byte) (s : State) : Result :=
  .next (s.takeRequest .allOff allOffService l payload)

end Sys2Proof.Machine
end

