-- ==== Sys2Proof/Machine/OutputCommands.lean ====
section
/-! DEFINITION. The events of the output engine: the glide step (R163) and the slot of the refresh round (R171). -/

namespace Sys2Proof.Machine

/-- Expiry of a voice's glide timer: one glide step at the GLIDE_RATE of the voice's part as it stands (R163). A
voice whose glide does not run takes none. -/
def execGlideStep (v : VoiceId) (s : State) : Result :=
  let g := s.glide v
  match g.target with
  | some target => .next (s.setGlide v (glideMove (s.param (s.voice v).part pGlideRate) g.position target))
  | none => .next s

/-- The next slot of the refresh round; while a reset runs the round is stopped (R171, R173). -/
def execOutputSlot (s : State) : Result :=
  match s.output.slot with
  | some n => .next (s.outputSlot n)
  | none => .next s

end Sys2Proof.Machine
end

