-- ==== Sys2Proof/Machine/Reconcile.lean ====
section
/-! DEFINITION. The part reconcile (spec/03_parts_and_the_parameter_image.md, R60 to R65). `old` holds the part's
parameters as they stood before the write; the State holds the new ones. -/

namespace Sys2Proof.Machine

/-- A part parameter changed its value. -/
def State.changed (s : State) (old : Vector Nat 40) (p : PartId) (i : ParamId) : Bool := s.param p i != old[i]

/-- Voice v was in the voice mask that the old parameters give (R10). -/
def inOldMask (old : Vector Nat 40) (v : VoiceId) : Bool :=
  if v.val < 8 then old[pMaskLo].testBit v.val else old[pMaskHi].testBit (v.val - 8)

/-- The voice mask of the part gained at least one voice (R65). -/
def State.maskGained (s : State) (old : Vector Nat 40) (p : PartId) : Bool :=
  allVoices.any fun v => s.inMask p v && !inOldMask old v

/-- The mode stage (R61). -/
def State.modeStage (p : PartId) (s : State) : State := s.allOffPart p

/-- The mask stage for one voice (R62). -/
def State.maskVoice (p : PartId) (s : State) (v : VoiceId) : State :=
  if s.inMask p v then s
  else if (s.voice v).gatedFor p then s.releaseAndLeave v
  else if (s.voice v).successorOf p then s.cancelAndLeave v
  else s

/-- The mask stage (R62). -/
def State.maskStage (p : PartId) (s : State) : State := allVoices.foldl (State.maskVoice p) s

/-- One release of the budget-lowered stage: while the part's load is above MAX_VOICES and it has a GATED voice, one
GATED voice picked by STEAL_POLICY is released (R63). -/
def State.budgetRelease (p : PartId) (s : State) : State :=
  if s.param p pMaxVoices < s.load p then
    match s.pickVictim p (allVoices.filter fun v => (s.voice v).gatedFor p) with
    | some v => s.releaseAndLeave v
    | none => s
  else s

/-- One cancel of the budget-lowered stage: the newest bound successor of the part (R63). -/
def State.budgetCancel (p : PartId) (s : State) : State :=
  if s.param p pMaxVoices < s.load p then
    match (s.perfOf p).bound.getLast? with
    | some v => s.cancelAndLeave v
    | none => s
  else s

/-- Take a step a number of times. -/
def repeatStep (f : State → State) : Nat → State → State
  | 0, s => s
  | n + 1, s => repeatStep f n (f s)

/-- The budget-lowered stage: releases, then cancels (R63). There are 16 voices, so 16 turns of each are enough. -/
def State.budgetStage (p : PartId) (s : State) : State :=
  repeatStep (State.budgetCancel p) 16 (repeatStep (State.budgetRelease p) 16 s)

/-- The key range, enable and priority stage (R64). A change of the key range touches nothing. R64 gives no order among
its items. When one APPLY changes PART_ENABLE from 1 to 0 and KEY_PRIORITY together, ALL_OFF is taken first and finds
the list as it was, so no selection is made again: the model's choice (assumption log 31). -/
def State.keyStage (old : Vector Nat 40) (p : PartId) (s : State) : State :=
  let s := if old[pPartEnable] = 1 ∧ s.param p pPartEnable = 0 then s.allOffPart p else s
  if s.changed old p pKeyPriority && !s.isPoly p then s.reselect p else s

/-- The offer stage: every IDLE voice is offered to the deferred list in ascending index order (R65). -/
def State.offerStage (s : State) : State := s.offerAll allVoices

/-- The part reconcile (R60): its stages in order, each when its condition holds. R20 lets a window of 0 expire as soon as
it starts, and does not say at which point of a reconcile. The model passes the voices released with such a window on
when the last stage that releases is done, the key stage, and before the offer stage, which decides which voice serves a
deferred entry: the model's choice (assumption log 7). -/
def State.reconcile (old : Vector Nat 40) (p : PartId) (s : State) : State :=
  let s := if s.changed old p pVoiceMode then s.modeStage p else s
  let s := if s.changed old p pMaskLo || s.changed old p pMaskHi then s.maskStage p else s
  let s := if s.param p pMaxVoices < old[pMaxVoices] then s.budgetStage p else s
  let s := s.keyStage old p
  let s := s.passZeroWindows
  if old[pMaxVoices] < s.param p pMaxVoices ∨ old[pReserve] < s.param p pReserve ∨ s.maskGained old p = true then
    s.offerStage
  else s

end Sys2Proof.Machine
end

