-- ==== Sys2Proof/Machine/Pickup.lean ====
section
/-! DEFINITION. Knob scaling and pickup states (spec/06_control_map_and_pickup.md, R104 to R106). -/

namespace Sys2Proof.Machine

/-- The knob value of a position (R104). -/
def knobValue (i : ParamId) (pos : Nat) : Nat :=
  (descriptor i).min + (((descriptor i).max - (descriptor i).min) * pos + 2047) / 4095

/-- A control's position, filtered >> 4 (R88). -/
def Seeded.position (x : Seeded) : Nat := x.filtered / 16

/-- The reported position of a control; 0 for an unseeded one (R105). -/
def Control.reportedOr0 (c : Control) : Nat := (c.seed.map Seeded.reported).getD 0

/-- The pickup state that a binding enters, for a knob value against a reference value (R105). -/
def enterState (mode : KnobMode) (kv ref : Nat) : Pickup :=
  match mode with
  | .jump => .live
  | .catch => if kv < ref then .catchUp else if kv = ref then .live else .catchDown
  | .scale => if kv = ref then .live else .scale

/-- A binding enters its pickup state against a reference value (R105). -/
def KnobBinding.enter (c : Control) (ref : Nat) (b : KnobBinding) : KnobBinding :=
  { b with pickup := enterState b.mode (knobValue b.index c.reportedOr0) ref }

/-- The binding of one control after the control map is told of a parameter's reference value (R84, R106). -/
def State.toldKnob (s : State) (p : PartId) (i : ParamId) (ref : Nat) (k : ControlId) : Option KnobBinding :=
  (s.knob k).map fun b => if b.part = p ∧ b.index = i then b.enter (s.control k) ref else b

/-- The control map is told of a parameter's reference value: every control bound to it enters its pickup state
(R56 step 4, R84, R106). -/
def State.tellMap (p : PartId) (i : ParamId) (ref : Nat) (s : State) : State :=
  { s with knobs := Vector.ofFn (s.toldKnob p i ref) }

/-- The seeded event of a control: its binding enters its state against the live value (R89, R106). -/
def State.seededEvent (k : ControlId) (s : State) : State :=
  match s.knob k with
  | some b => s.setKnob k (some (b.enter (s.control k) (s.param b.part b.index)))
  | none => s

end Sys2Proof.Machine
end

