-- ==== Sys2Proof/Machine/Morph.lean ====
section
/-! DEFINITION. Writes of part parameters (R54 to R57, R111, R116) and the apply machinery
(spec/04_staging_apply_and_morph.md, R69 to R85): taking entries away, applying, retargeting, the morph step and
MORPH_CANCEL. -/

namespace Sys2Proof.Machine

/-! ### Clamping (R54) -/

/-- The clamp of a part parameter (R54). -/
def clampParam (i : ParamId) (x : Nat) : Nat := clampTo (descriptor i).min (descriptor i).max x

/-- The clamp of a global parameter (R54). -/
def clampGlobal (g : GlobalId) (x : Nat) : Nat := clampTo globalRanges[g].1 globalRanges[g].2 x

/-! ### Entries taken away (R82) -/

/-- The parameter is an entry of a running morph of its part. -/
def State.isMorphing (s : State) (p : PartId) (i : ParamId) : Bool :=
  (s.slotOf p).any fun m => m.entries.any fun e => e.index == i

/-- The entry of a parameter leaves the running morph of its part, and the taken count grows (R82). -/
def State.takeAway (p : PartId) (i : ParamId) (s : State) : State :=
  match s.slotOf p with
  | some m =>
    if m.entries.any fun e => e.index == i then
      s.setSlot p (some { m with entries := m.entries.filter (fun e => e.index != i), taken := incSat8 m.taken })
    else s
  | none => s

/-- APPLIED (R85, R195): to the link named as origin and to every other subscriber of PARAMS. -/
def State.postApplied (p : PartId) (origin : Link) (applied taken : Nat) (s : State) : State :=
  s.postAlso (· == origin) .applied p applied (pair (linkCode origin) taken)

/-- The chain ends when its last entry was taken away: APPLIED with 0 entries applied, and the slot goes IDLE
(R82). -/
def State.endEmptyChain (p : PartId) (s : State) : State :=
  match s.slotOf p with
  | some m => if m.entries = [] then (s.postApplied p m.origin 0 m.taken).setSlot p none else s
  | none => s

/-! ### A write of one part parameter (R56, R57, R111, R116) -/

/-- The writer of a parameter: a link or the panel (R57). -/
inductive Writer where
  | link (l : Link)
  | panel
deriving DecidableEq, Repr

/-- The code of a writer in PARAM_CHANGED: LINK_A 0, LINK_B 1, PANEL 3 (R57, R183). -/
def Writer.code : Writer → Nat
  | .link l => linkCode l
  | .panel => 3

/-- PARAM_CHANGED goes to every PARAMS subscriber but the link that made the write (R57). -/
def State.postParamChanged (w : Writer) (partCode index value : Nat) (s : State) : State :=
  s.postWhere (fun l => s.subscribed l .params && w != .link l) .paramChanged partCode (pair w.code index) value

/-- A write of a part parameter, carried out whole in the order of R56 from step 1. -/
def State.writeParam (w : Writer) (p : PartId) (i : ParamId) (x : Nat) (s : State) : State :=
  let old := s.params[p]
  let morphing := s.isMorphing p i
  let s := (s.setParam p i x).takeAway p i
  let s := if isStruct i && x != old[i] then s.reconcile old p else s
  let s := s.tellMap p i x
  let s := if morphing then s.endEmptyChain p else s
  s.postParamChanged w p i x

/-- A write of a global parameter: steps 1 and 6 of R56, with the hand-on of R53 to the retune timer (R151). -/
def State.writeGlobal (w : Writer) (g : GlobalId) (x : Nat) (s : State) : State :=
  let s := s.setGlobal g x
  let s := if g = gRetuneInterval then { s with retune := if x = 0 then none else some x } else s
  s.postParamChanged w 4 g x

/-! ### APPLY (R69 to R73, R79) -/

/-- The present entries of a staging buffer, in index order (R69). -/
def presentEntries (st : Vector (Option Nat) 40) : List (ParamId × Nat) :=
  (List.finRange 40).filterMap fun i => st[i].map fun x => (i, x)

/-- The structural entries are written, and one reconcile covers those that changed (R60, R70 step 1). -/
def State.applyStruct (p : PartId) (es : List (ParamId × Nat)) (s : State) : State :=
  let old := s.params[p]
  let s := es.foldl (fun s e => s.setParam p e.1 e.2) s
  if es.any fun e => e.2 != old[e.1] then s.reconcile old p else s

/-- The morph entries of an APPLY with morph time 0 (R71): each is written and taken out of a running morph. -/
def State.applyNow (p : PartId) (es : List (ParamId × Nat)) (s : State) : State :=
  es.foldl (fun s e => (s.setParam p e.1 e.2).takeAway p e.1) s

/-- A new entry of a slot: start and prior are the live value, the target is the staged value (R73, R79). -/
def State.newEntry (s : State) (p : PartId) (e : ParamId × Nat) : MorphEntry :=
  { index := e.1, start := s.param p e.1, target := e.2, prior := s.param p e.1, switched := false }

/-- An entry of a running morph at a retarget: rebased, and overlaid when the new APPLY names it (R79). -/
def State.rebase (s : State) (p : PartId) (es : List (ParamId × Nat)) (m : MorphEntry) : MorphEntry :=
  let target := ((es.find? fun e => e.1 == m.index).map Prod.snd).getD m.target
  { m with start := s.param p m.index, target, switched := false }

/-- The entries of a slot after a retarget, in index order: rebased, overlaid and joined (R72, R79). -/
def State.retargetEntries (s : State) (p : PartId) (es : List (ParamId × Nat)) (ms : List MorphEntry) :
    List MorphEntry :=
  (List.finRange 40).filterMap fun i =>
    match ms.find? fun m => m.index == i with
    | some m => some (s.rebase p es m)
    | none => (es.find? fun e => e.1 == i).map (s.newEntry p)

/-- Morph entries with a time above 0: a new chain (R73) or a retarget (R79). -/
def State.applyMorph (p : PartId) (origin : Link) (time : Nat) (curve : Curve) (es : List (ParamId × Nat))
    (s : State) : State :=
  match s.slotOf p with
  | none =>
    s.setSlot p (some { origin, entries := es.map (s.newEntry p), total := time, elapsed := 0, curve, taken := 0 })
  | some m =>
    let entries := s.retargetEntries p es m.entries
    (s.postWhere (· == m.origin) .applySuperseded p entries.length (linkCode origin)).setSlot p
      (some { origin, entries, total := time, elapsed := 0, curve, taken := m.taken })

/-- The control map is told of a list of values (R84). -/
def State.tellAll (p : PartId) (es : List (ParamId × Nat)) (s : State) : State :=
  es.foldl (fun s e => s.tellMap p e.1 e.2) s

/-- An accepted APPLY, carried out whole (R70, R71). -/
def State.applyEntries (p : PartId) (origin : Link) (time : Nat) (curve : Curve) (es : List (ParamId × Nat))
    (s : State) : State :=
  let structural := es.filter fun e => isStruct e.1
  let morph := es.filter fun e => !isStruct e.1
  let s := s.applyStruct p structural
  let s :=
    if morph = [] then s.postApplied p origin structural.length 0
    else if time = 0 then
      let taken := morph.any fun e => s.isMorphing p e.1
      let s := s.applyNow p morph
      let s := if taken then s.endEmptyChain p else s
      s.postApplied p origin es.length 0
    else s.applyMorph p origin time curve morph
  s.tellAll p es

/-! ### The morph step (R74 to R78) -/

/-- The levels Y0 to Y4 of a curve (R74, R75). -/
def State.level (s : State) (curve : Curve) (i : Nat) : Int :=
  match i with
  | 0 => 0
  | 1 => match curve with
    | .linear => 256
    | .template => s.template.l1
  | 2 => match curve with
    | .linear => 512
    | .template => s.template.l2
  | 3 => match curve with
    | .linear => 768
    | .template => s.template.l3
  | _ => 1024

/-- The curve value phi at elapsed time e of a morph of total time T (R74); the floors divide by positive numbers. -/
def State.phi (s : State) (curve : Curve) (e total : Nat) : Int :=
  let x := e * 1024 / total
  let seg := min 3 (x / 256)
  let y0 := s.level curve seg
  let y1 := s.level curve (seg + 1)
  y0 + (y1 - y0) * ((x : Int) - 256 * (seg : Int)) / 256

/-- The value a CONT entry is written with (R76). -/
def contValue (start target : Nat) (phi : Int) : Nat :=
  ((start : Int) + (((target : Int) - (start : Int)) * phi).tdiv 1024).toNat

/-- One entry at a step before completion: its new switched flag and the value written (R76, R77). -/
def stepEntry (phi : Int) (m : MorphEntry) : MorphEntry × Nat :=
  match (descriptor m.index).cls with
  | .cont => (m, contValue m.start m.target phi)
  | _ =>
    let switched := m.switched || decide (512 ≤ phi)
    ({ m with switched }, if switched then m.target else m.start)

/-- A step before completion (R74, R76, R77). -/
def State.morphMove (p : PartId) (m : Morph) (e : Nat) (s : State) : State :=
  let phi := s.phi m.curve e m.total
  let moved := m.entries.map (stepEntry phi)
  let s := moved.foldl (fun s x => s.setParam p x.1.index x.2) s
  s.setSlot p (some { m with elapsed := e, entries := moved.map Prod.fst })

/-- The completing step (R78). -/
def State.morphComplete (p : PartId) (m : Morph) (s : State) : State :=
  let finals := m.entries.map fun x => (x.index, x.target)
  let s := finals.foldl (fun s x => s.setParam p x.1 x.2) s
  ((s.tellAll p finals).postApplied p m.origin m.entries.length m.taken).setSlot p none

/-- A morph step of a part's slot (R74). -/
def State.morphStep (p : PartId) (s : State) : State :=
  match s.slotOf p with
  | some m =>
    let e := min m.total (m.elapsed + 2)
    if e < m.total then s.morphMove p m e else s.morphComplete p m
  | none => s

/-! ### MORPH_CANCEL (R83) -/

/-- A running morph is stopped by FREEZE or REVERT (R83, R84, R85). -/
def State.cancelMorph (p : PartId) (m : Morph) (revert : Bool) (canceller : Link) (s : State) : State :=
  let finals := m.entries.map fun x => (x.index, if revert then x.prior else s.param p x.index)
  let s := finals.foldl (fun s x => s.setParam p x.1 x.2) s
  ((s.tellAll p finals).postAlso (fun l => l == m.origin || l == canceller) .morphCancelled p
    (pair (bit revert) (linkCode canceller)) m.entries.length).setSlot p none

end Sys2Proof.Machine
end

