-- ==== Sys2Proof/Machine/Patches.lean ====
section
/-! DEFINITION. The parameter and patch commands: PARAM_SET, PARAM_GET, STAGE_WRITE, STAGE_CLEAR, APPLY, MORPH_CANCEL
and CURVE_SET (codes 0x10 to 0x16), and the expiry MORPH_STEP. -/

namespace Sys2Proof.Machine

/-- The part code GLOBAL (R55). -/
def globalCode : Byte := 4

/-- PARAM_SET: part code, index, value (R55, R56). -/
def paramSetService (l : Link) (payload : List Byte) (s : State) : State × Answer :=
  match payload with
  | [pb, ib, lo, hi] =>
    let x := u16 lo hi
    match part? pb, field? 40 ib, field? 16 ib with
    | some p, some i, _ =>
      let y := clampParam i x
      (s.writeParam (.link l) p i y, { status := .ok, clamped := y != x, data := [pb, ib] ++ le16 y })
    | none, _, some g =>
      if pb = globalCode then
        let y := clampGlobal g x
        (s.writeGlobal (.link l) g y, { status := .ok, clamped := y != x, data := [pb, ib] ++ le16 y })
      else s.refused .range
    | _, _, _ => s.refused .range
  | _ => s.refused .length

/-- The data of a PARAM_GET over a part's parameters: value and morphing mark of each (R59, R183). -/
def State.paramData (s : State) (p : PartId) (first count : Nat) : List Byte :=
  ((List.finRange 40).filter fun i => decide (first ≤ i.val ∧ i.val < first + count)).flatMap fun i =>
    le16 (s.param p i) ++ [byte (bit (s.isMorphing p i))]

/-- The data of a PARAM_GET over the global parameters, which are never marked (R59). -/
def State.globalData (s : State) (first count : Nat) : List Byte :=
  ((List.finRange 16).filter fun g => decide (first ≤ g.val ∧ g.val < first + count)).flatMap fun g =>
    le16 (s.global g) ++ [byte 0]

/-- A first index and a count name entries below `n` (R59, R99). -/
def inTable (n maxCount first count : Nat) : Bool :=
  decide (first < n ∧ 1 ≤ count ∧ count ≤ maxCount ∧ first + count ≤ n)

/-- PARAM_GET: part code, first index, count (R59). -/
def paramGetService (_l : Link) (payload : List Byte) (s : State) : State × Answer :=
  match payload with
  | [pb, fb, cb] =>
    match part? pb with
    | some p =>
      if inTable 40 40 fb.toNat cb.toNat then
        (s, { status := .ok, data := [pb, fb, cb] ++ s.paramData p fb.toNat cb.toNat })
      else s.refused .range
    | none =>
      if pb = globalCode ∧ inTable 16 16 fb.toNat cb.toNat = true then
        (s, { status := .ok, data := [pb, fb, cb] ++ s.globalData fb.toNat cb.toNat })
      else s.refused .range
  | _ => s.refused .length

/-- The number of entries present in a staging buffer (R67). -/
def presentCount (st : Vector (Option Nat) 40) : Nat := (presentEntries st).length

/-- The staged value of an index, in a run of values from a first index, before the clamp (R67). -/
def stagedValue (first : Nat) (vs : List Nat) (i : ParamId) : Option Nat :=
  if first ≤ i.val then vs[i.val - first]? else none

/-- A staging buffer after a run of values was written (R67). -/
def writeStaging (first : Nat) (vs : List Nat) (st : Vector (Option Nat) 40) : Vector (Option Nat) 40 :=
  Vector.ofFn fun i => match stagedValue first vs i with
    | some x => some (clampParam i x)
    | none => st[i]

/-- Some value of the run is changed by the clamp (R67). -/
def stagingClamps (first : Nat) (vs : List Nat) : Bool :=
  (List.finRange 40).any fun i => (stagedValue first vs i).any fun x => clampParam i x != x

/-- Replace a link's staging buffer. -/
def State.setStaging (l : Link) (st : Vector (Option Nat) 40) (s : State) : State :=
  s.setLink l { s.link l with staging := st }

/-- STAGE_WRITE: first index, values; 3 to 81 bytes, odd (R67, R182). -/
def stageWriteService (l : Link) (payload : List Byte) (s : State) : State × Answer :=
  match payload with
  | fb :: rest =>
    match values16? rest with
    | some vs =>
      if vs = [] ∨ 40 < vs.length then s.refused .length
      else if 40 ≤ fb.toNat ∨ 40 < fb.toNat + vs.length then s.refused .range
      else
        let st := writeStaging fb.toNat vs (s.link l).staging
        (s.setStaging l st,
          { status := .ok, clamped := stagingClamps fb.toNat vs, data := [byte (presentCount st)] })
    | none => s.refused .length
  | [] => s.refused .length

/-- STAGE_CLEAR: no payload (R68). -/
def stageClearService (l : Link) (payload : List Byte) (s : State) : State × Answer :=
  match payload with
  | [] =>
    (s.setStaging l (Vector.replicate 40 none),
      { status := .ok, nothing := decide (presentCount (s.link l).staging = 0) })
  | _ => s.refused .length

/-- APPLY: part, morph time, curve (R69, R70). -/
def applyService (l : Link) (payload : List Byte) (s : State) : State × Answer :=
  match payload with
  | [pb, lo, hi, cb] =>
    match part? pb, curve? cb with
    | some p, some curve =>
      let time := min 20000 (u16 lo hi)
      let es := presentEntries (s.link l).staging
      let s := (s.setStaging l (Vector.replicate 40 none)).applyEntries p l time curve es
      (s, { status := .ok, clamped := decide (20000 < u16 lo hi)
            data := [pb] ++ le16 time ++ [byte es.length, byte (es.filter fun e => isStruct e.1).length,
              byte (bit (s.slotOf p).isSome)] })
    | _, _ => s.refused .range
  | _ => s.refused .length

/-- MORPH_CANCEL: part, mode FREEZE 0 or REVERT 1 (R83). -/
def morphCancelService (l : Link) (payload : List Byte) (s : State) : State × Answer :=
  match payload with
  | [pb, mb] =>
    match part? pb, flag? mb with
    | some p, some revert =>
      match s.slotOf p with
      | some m => (s.cancelMorph p m revert l, { status := .ok, data := [pb, mb, byte m.entries.length] })
      | none => (s, { status := .ok, nothing := true, data := [pb, mb, byte 0] })
    | _, _ => s.refused .range
  | _ => s.refused .length

/-- CURVE_SET: L1, L2, L3 (R75). -/
def curveSetService (_l : Link) (payload : List Byte) (s : State) : State × Answer :=
  match payload with
  | [a0, a1, b0, b1, c0, c1] =>
    let t : CurveTemplate :=
      { l1 := min 1024 (u16 a0 a1), l2 := min 1024 (u16 b0 b1), l3 := min 1024 (u16 c0 c1) }
    ({ s with template := t },
      { status := .ok, clamped := decide (1024 < u16 a0 a1 ∨ 1024 < u16 b0 b1 ∨ 1024 < u16 c0 c1)
        data := le16 t.l1 ++ le16 t.l2 ++ le16 t.l3 })
  | _ => s.refused .length

/-- PARAM_SET (R55, R56). -/
def execParamSet (l : Link) (payload : List Byte) (s : State) : Result :=
  .next (s.takeRequest .paramSet paramSetService l payload)

/-- PARAM_GET (R59). -/
def execParamGet (l : Link) (payload : List Byte) (s : State) : Result :=
  .next (s.takeRequest .paramGet paramGetService l payload)

/-- STAGE_WRITE (R67). -/
def execStageWrite (l : Link) (payload : List Byte) (s : State) : Result :=
  .next (s.takeRequest .stageWrite stageWriteService l payload)

/-- STAGE_CLEAR (R68). -/
def execStageClear (l : Link) (payload : List Byte) (s : State) : Result :=
  .next (s.takeRequest .stageClear stageClearService l payload)

/-- APPLY (R69, R70). -/
def execApply (l : Link) (payload : List Byte) (s : State) : Result :=
  .next (s.takeRequest .apply applyService l payload)

/-- MORPH_CANCEL (R83). -/
def execMorphCancel (l : Link) (payload : List Byte) (s : State) : Result :=
  .next (s.takeRequest .morphCancel morphCancelService l payload)

/-- CURVE_SET (R75). -/
def execCurveSet (l : Link) (payload : List Byte) (s : State) : Result :=
  .next (s.takeRequest .curveSet curveSetService l payload)

/-- Expiry of a part's step timer (R74); it runs exactly while the slot is MORPHING. -/
def execMorphStep (p : PartId) (s : State) : Result := .next (s.morphStep p)

end Sys2Proof.Machine
end

