-- ==== Sys2Proof/Machine/ControlMap.lean ====
section
/-! DEFINITION. What the control map does at a move event and at a switch event
(spec/06_control_map_and_pickup.md, R107 to R119). -/

namespace Sys2Proof.Machine

/-! ### Moves (R107 to R111) -/

/-- A take: the target parameter is written by the panel, unless it stands at that value outside a running morph
(R111). -/
def State.take (p : PartId) (i : ParamId) (x : Nat) (s : State) : State :=
  if s.param p i = x ∧ s.isMorphing p i = false then s else s.writeParam .panel p i x

/-- The reference value of a CATCH move: the entry's target while the parameter is morphing, otherwise the live value
(R109). -/
def State.catchReference (s : State) (p : PartId) (i : ParamId) : Nat :=
  match (s.slotOf p).bind fun m => m.entries.find? fun e => e.index == i with
  | some e => e.target
  | none => s.param p i

/-- A move in CATCH_UP or CATCH_DOWN catches (R109). -/
def catches (st : Pickup) (kv ref : Nat) : Bool :=
  match st with
  | .catchUp => decide (ref ≤ kv)
  | .catchDown => decide (kv ≤ ref)
  | _ => false

/-- The new value of a SCALE move from p0 to p1 (R110). -/
def scaleValue (i : ParamId) (v p0 p1 : Nat) : Nat :=
  let e : Int := if p0 < p1 then (descriptor i).max else (descriptor i).min
  let k : Int := if p0 < p1 then 4095 else 0
  ((v : Int) + ((e - v) * ((p1 : Int) - p0)).tdiv (k - p0)).toNat

/-- The binding of a control goes LIVE, and CONTROL_TAKEN is posted (R109, R110, R119). -/
def State.goLive (k : ControlId) (b : KnobBinding) (s : State) : State :=
  let s := s.setKnob k (some { b with pickup := .live })
  s.post .controlTaken k (pair b.part b.index) (s.param b.part b.index)

/-- A move event reaches the control map (R107 to R110). -/
def State.controlMove (k : ControlId) (p0 p1 : Nat) (s : State) : State :=
  match s.knob k with
  | none => s
  | some b =>
    let kv := knobValue b.index p1
    match b.pickup with
    | .live => s.take b.part b.index kv
    | .catchUp | .catchDown =>
      if catches b.pickup kv (s.catchReference b.part b.index) then
        (s.take b.part b.index kv).goLive k b
      else s
    | .scale =>
      let x := scaleValue b.index (s.param b.part b.index) p0 p1
      let s := s.take b.part b.index x
      if x = kv then s.goLive k b else s

/-! ### Switch actions (R115 to R118) -/

/-- The value a STEP_PARAM press writes (R116). -/
def stepValue (i : ParamId) (v : Nat) : Nat := if v < (descriptor i).max then v + 1 else (descriptor i).min

/-- A press or a release of a switch reaches its binding (R115 to R118). -/
def State.switchAction (a : SwitchAction) (press : Bool) (s : State) : State :=
  match a with
  | .none => s
  | .report => s
  | .stepParam p i => if press then s.writeParam .panel p i (stepValue i (s.param p i)) else s
  | .hold mask .momentary => s.setHolds press mask
  | .hold mask .latched => if press then s.toggleHolds mask else s
  | .allOff mask => if press then s.allOff mask else s

end Sys2Proof.Machine
end

