-- ==== Sys2Proof/Machine/Scan.lean ====
section
/-! DEFINITION. What the panel scanner does with a conversion, a switch sample and the scan round
(spec/05_panel_scanning.md, R86 to R101). -/

namespace Sys2Proof.Machine

/-! ### A control record (R88 to R94) -/

/-- The filter step (R90); the floor divides by a power of two. -/
def filterStep (shift filtered raw : Nat) : Nat :=
  ((filtered : Int) + ((raw * 16 : Nat) - (filtered : Int)) / (2 ^ shift : Nat)).toNat

/-- The deadband of a record as it stands (R91). -/
def Control.deadband (c : Control) : Nat :=
  match c.noisy, c.motion with
  | some _, _ => 64
  | none, .still => 16
  | none, .moving _ => 4

/-- The distance of two positions. -/
def distance (a b : Nat) : Nat := (a - b) + (b - a)

/-- The direction of a move from p0 to p1 (R93). -/
def moveDirection (p0 p1 : Nat) : Direction := if p0 < p1 then .up else .down

/-- The move event is a reversal (R93). -/
def isReversal (last dir : Direction) : Bool := (last == .up && dir == .down) || (last == .down && dir == .up)

/-- CONTROL_NOISY, SET or CLEAR (R98): value2 is the reported position. -/
def State.postNoisy (k : ControlId) (set : Bool) (s : State) : State :=
  s.post .controlNoisy k (bit set) (s.control k).reportedOr0

/-- The reversal list after a reversal in this round: entries older than 31 rounds go, this round joins (R93). -/
def addReversal (round : Stamp) (list : List Stamp) : List Stamp :=
  list.filter (fun e => decide ((round - e).toNat ≤ 31)) ++ [round]

/-- The quiet count is increased; at 1000 NOISY is cleared (R94). -/
def State.quietRound (k : ControlId) (s : State) : State :=
  let c := s.control k
  match c.noisy with
  | none => s
  | some q =>
    if 1000 ≤ q + 1 then (s.setControl k { c with noisy := none }).postNoisy k false
    else s.setControl k { c with noisy := some (q + 1) }

/-- The noise guard at a move event from p0 to p1 (R93, R94). -/
def State.noiseGuard (k : ControlId) (p0 p1 : Nat) (s : State) : State :=
  let c := s.control k
  let dir := moveDirection p0 p1
  let reversal := isReversal c.direction dir
  let large := decide (256 < distance p1 p0)
  match c.noisy with
  | none =>
    if large then s.setControl k { c with reversals := [], direction := dir }
    else if reversal then
      let list := addReversal s.scanner.roundNumber c.reversals
      if 6 ≤ list.length then
        (s.setControl k { c with direction := dir, reversals := [], noisy := some 0 }).postNoisy k true
      else s.setControl k { c with direction := dir, reversals := list }
    else s.setControl k { c with direction := dir }
  | some _ =>
    if large then
      (s.setControl k { c with direction := dir, reversals := [], noisy := none }).postNoisy k false
    else if reversal then s.setControl k { c with direction := dir, noisy := some 0 }
    else (s.setControl k { c with direction := dir }).quietRound k

/-- A move event of a control to position p1 (R91, steps 1 to 5). -/
def State.moveEvent (k : ControlId) (x : Seeded) (p1 : Nat) (s : State) : State :=
  let p0 := x.reported
  let c := s.control k
  let s := s.setControl k
    { c with seed := some { x with reported := p1 }, motion := .moving (s.global gStillTimeout) }
  let s := s.noiseGuard k p0 p1
  let s := s.controlMove k p0 p1
  s.post .controlMoved k p1 p0

/-- A conversion of a control with value r (R89 to R94). -/
def State.conversion (k : ControlId) (r : Nat) (s : State) : State :=
  let c := s.control k
  match c.seed with
  | none => (s.setControl k { c with seed := some { filtered := r * 16, reported := r } }).seededEvent k
  | some x =>
    let x : Seeded := { x with filtered := filterStep (s.global gKnobFilter) x.filtered r }
    let s := s.setControl k { c with seed := some x }
    if c.deadband < distance x.position x.reported then s.moveEvent k x x.position else s.quietRound k

/-! ### A switch record (R95 to R97) -/

/-- One sample of a switch: its new record, and the new state when it raises a switch event (R95, R96). -/
def sampleSwitch (debounce : Nat) (level : Bool) : Option SwitchSeed → SwitchSeed × Option Bool
  | none => ({ closed := level, candidate := none }, none)
  | some x =>
    if level = x.closed then ({ x with candidate := none }, none)
    else
      let run := match x.candidate with
        | some c => if c.closed = level then c.run + 1 else 1
        | none => 1
      if debounce ≤ run then ({ closed := level, candidate := none }, some level)
      else ({ x with candidate := some { closed := level, run } }, none)

/-- A switch is sampled; a switch event acts through its binding and is then reported (R96, R97, R98). -/
def State.sample (i : SwitchId) (level : Bool) (s : State) : State :=
  let r := sampleSwitch (s.global gDebounceCount) level s.switches[i]
  let s := { s with switches := s.switches.set i (some r.1) }
  match r.2 with
  | some press =>
    (s.switchAction s.switchActions[i] press).post .switchChanged i (bit press) s.scanner.roundNumber.toNat
  | none => s

/-! ### The scan round (R86, R87, R100) -/

/-- A scan round starts, with a new round number, at address 0 (R86). -/
def State.startRound (s : State) : State :=
  { s with scanner := { s.scanner with
      roundNumber := s.scanner.roundNumber + 1, round := some { address := 0, phase := .settling }, msel := 0 } }

/-- Control k is converted at address k mod 8 from input floor(k / 8) (R86). -/
def controlAt (address : Fin 8) (input : Fin 16) : ControlId :=
  ⟨8 * input.val + address.val, by have := address.isLt; have := input.isLt; omega⟩

/-- Switch s is sampled at address floor(s / 8) from column s mod 8 (R86). -/
def switchAt (address column : Fin 8) : SwitchId :=
  ⟨8 * address.val + column.val, by have := address.isLt; have := column.isLt; omega⟩

/-- The place of the round after a conversion: the next input, the next address, or the end of the round (R86). -/
def ScanRound.next (address : Fin 8) (input : Fin 16) : Option ScanRound :=
  if h : input.val < 15 then some { address, phase := .converting ⟨input.val + 1, by omega⟩ }
  else if h' : address.val < 7 then some { address := ⟨address.val + 1, by omega⟩, phase := .settling }
  else none

/-- The row line that is active while a round runs (R86, 5.1); all rows are inactive otherwise. -/
def Scanner.activeRow (x : Scanner) : Option (Fin 8) := x.round.map ScanRound.address

/-- The scanner moves on after a conversion. -/
def State.advanceRound (address : Fin 8) (input : Fin 16) (s : State) : State :=
  let next := ScanRound.next address input
  { s with scanner := { s.scanner with
      round := next, msel := (next.map ScanRound.address).getD s.scanner.msel } }

end Sys2Proof.Machine
end

