-- ==== Sys2Proof/Machine/Panel.lean ====
section
/-! DEFINITION. The panel commands: MAP_KNOB, MAP_SWITCH, PANEL_READ (codes 0x20 to 0x22), RESET_PANEL (0x61), and the
scanner's events. -/

namespace Sys2Proof.Machine

/-- The target, index and mode bytes of a knob binding as MAP_KNOB returns them (R103, R183). -/
def knobBytes : Option KnobBinding → List Byte
  | some b => [byte b.part, byte b.index, byte b.mode.code]
  | none => [byte 15, byte 0, byte 0]

/-- The pickup state code of a binding, NONE 0 without a target (R183). -/
def pickupCode (b : Option KnobBinding) : Nat := (b.map fun x => x.pickup.code).getD 0

/-- A knob binding is replaced, and the reply that tells of the old one (R103). -/
def State.bindKnob (k : ControlId) (b : Option KnobBinding) (s : State) : State × Answer :=
  (s.setKnob k b, { status := .ok, data := [byte k] ++ knobBytes (s.knob k) ++ [byte (pickupCode b)] })

/-- MAP_KNOB: control, target code, index, mode (R103). -/
def mapKnobService (_l : Link) (payload : List Byte) (s : State) : State × Answer :=
  match payload with
  | [kb, tb, ib, mb] =>
    match field? 128 kb with
    | some k =>
      if tb = 15 then s.bindKnob k none
      else
        match part? tb, field? 40 ib, knobMode? mb with
        | some p, some i, some mode =>
          let b : KnobBinding := { part := p, index := i, mode, pickup := .live }
          s.bindKnob k (some (b.enter (s.control k) (s.param p i)))
        | _, _, _ => s.refused .range
    | none => s.refused .range
  | _ => s.refused .length

/-- The action and argument bytes of a switch binding as MAP_SWITCH returns them (R114, R183). -/
def actionBytes : SwitchAction → List Byte
  | .none => [byte 0, byte 0, byte 0]
  | .report => [byte 1, byte 0, byte 0]
  | .stepParam p i => [byte 2, byte p, byte i]
  | .hold m k => [byte 3, byte m.toNat, byte k.code]
  | .allOff m => [byte 4, byte m.toNat, byte 0]

/-- MAP_SWITCH: switch, action, argument 1, argument 2 (R114). -/
def mapSwitchService (_l : Link) (payload : List Byte) (s : State) : State × Answer :=
  match payload with
  | [sb, ab, x, y] =>
    match field? 64 sb, switchAction? ab x y with
    | some i, some a =>
      ({ s with switchActions := s.switchActions.set i a },
        { status := .ok, data := [sb] ++ actionBytes s.switchActions[i] })
    | _, _ => s.refused .range
  | _ => s.refused .length

/-- The entry of a control in PANEL_READ (R99, R183). -/
def State.controlEntry (s : State) (k : ControlId) : List Byte :=
  let c := s.control k
  let moving := match c.motion with
    | .moving _ => true
    | .still => false
  let flags := bit c.seed.isSome + 2 * bit moving + 4 * bit c.noisy.isSome + 16 * pickupCode (s.knob k)
  [byte flags] ++ le16 ((c.seed.map Seeded.position).getD 0) ++ le16 c.reportedOr0

/-- The entry of a switch in PANEL_READ (R99, R183). -/
def State.switchEntry (s : State) (i : SwitchId) : List Byte :=
  let x := s.switches[i]
  [byte (bit x.isSome + 2 * bit (x.any fun w => w.closed))]

/-- The entries of a run of controls, in index order (R99). -/
def State.controlEntries (s : State) (first count : Nat) : List Byte :=
  ((List.finRange 128).filter fun k => decide (first ≤ k.val ∧ k.val < first + count)).flatMap s.controlEntry

/-- The entries of a run of switches, in index order (R99). -/
def State.switchEntries (s : State) (first count : Nat) : List Byte :=
  ((List.finRange 64).filter fun i => decide (first ≤ i.val ∧ i.val < first + count)).flatMap s.switchEntry

/-- The bytes before the entries of PANEL_READ (R183). -/
def State.panelHead (s : State) (selb fb cb : Byte) : List Byte :=
  [selb, fb, cb] ++ le16 s.scanner.roundNumber.toNat ++ le16 s.scanner.skipped

/-- PANEL_READ: selector, first, count (R99). -/
def panelReadService (_l : Link) (payload : List Byte) (s : State) : State × Answer :=
  match payload with
  | [selb, fb, cb] =>
    let first := fb.toNat
    let count := cb.toNat
    match flag? selb with
    | some false =>
      if inTable 128 32 first count then
        (s, { status := .ok, data := s.panelHead selb fb cb ++ s.controlEntries first count })
      else s.refused .range
    | some true =>
      if inTable 64 64 first count then
        (s, { status := .ok, data := s.panelHead selb fb cb ++ s.switchEntries first count })
      else s.refused .range
    | none => s.refused .range
  | _ => s.refused .length

/-- RESET_PANEL: the running round is abandoned, every record is made unseeded, and a new round starts (R100). -/
def resetPanelService (_l : Link) (payload : List Byte) (s : State) : State × Answer :=
  match payload with
  | [] =>
    ({ s with controls := Vector.replicate 128 Control.atReset, switches := Vector.replicate 64 none }.startRound,
      .ok)
  | _ => s.refused .length

/-- MAP_KNOB (R103). -/
def execMapKnob (l : Link) (payload : List Byte) (s : State) : Result :=
  .next (s.takeRequest .mapKnob mapKnobService l payload)

/-- MAP_SWITCH (R114). -/
def execMapSwitch (l : Link) (payload : List Byte) (s : State) : Result :=
  .next (s.takeRequest .mapSwitch mapSwitchService l payload)

/-- PANEL_READ (R99). -/
def execPanelRead (l : Link) (payload : List Byte) (s : State) : Result :=
  .next (s.takeRequest .panelRead panelReadService l payload)

/-- RESET_PANEL (R100). -/
def execResetPanel (l : Link) (payload : List Byte) (s : State) : Result :=
  .next (s.takeRequest .resetPanel resetPanelService l payload)

/-- Expiry of the scan period timer: it is started again, and a round starts or is skipped and counted (R86, R87). -/
def execScanPeriodExpiry (s : State) : Result :=
  match s.scanner.period with
  | none => .next s
  | some _ =>
    let s := { s with scanner := { s.scanner with period := some (s.global gScanPeriod) } }
    match s.scanner.round with
    | none => .next s.startRound
    | some _ => .next { s with scanner := { s.scanner with skipped := incSat16 s.scanner.skipped } }

/-- The settle at a mux address ends: the eight columns are sampled, then conversions begin (R86). R86 gives no order
among the columns of one sample; the model treats them in ascending order, its own choice (assumption log 27). -/
def execScanAddressSettled (columns : BitVec 8) (s : State) : Result :=
  match s.scanner.round with
  | some { address, phase := .settling } =>
    let s := (List.finRange 8).foldl (fun s c => s.sample (switchAt address c) (columns.getLsbD c.val)) s
    .next { s with scanner := { s.scanner with round := some { address, phase := .converting 0 } } }
  | _ => .next s

/-- A conversion completes: the control at this address and input is updated, and the round goes on (R86, R89 to
R94). -/
def execControlConversion (raw : BitVec 12) (s : State) : Result :=
  match s.scanner.round with
  | some { address, phase := .converting input } =>
    .next ((s.conversion (controlAt address input) raw.toNat).advanceRound address input)
  | _ => .next s

/-- Expiry of a control's still timer (R92). -/
def execStillTimeoutExpiry (k : ControlId) (s : State) : Result :=
  match (s.control k).motion with
  | .moving _ => .next (s.setControl k { s.control k with motion := .still })
  | .still => .next s

end Sys2Proof.Machine
end

