-- ==== Sys2Proof/Machine/Tuning.lean ====
section
/-! DEFINITION. The tune commands: TUNE_START, TUNE_ABORT, CAL_READ and CAL_WRITE (codes 0x30 to 0x33), the events of
the measurement unit (R123 to R131) and the retune timer (R151). -/

namespace Sys2Proof.Machine

/-! ### Requests -/

/-- A voice queue as a 16-bit mask (R183). -/
def queueMask (vs : List VoiceId) : Nat := maskOf (vs.map fun v => v.val)

/-- TUNE_START: voice mask, mode (R137). -/
def tuneStartService (l : Link) (payload : List Byte) (s : State) : State × Answer :=
  match payload with
  | [lo, hi, mb] =>
    let mask := u16 lo hi
    match flag? mb with
    | none => s.refused .range
    | some fg =>
      if mask = 0 then s.refused .range
      else if s.run.isSome then s.refused .tuneBusy
      else
        let queue := s.tuneQueue mask
        let data := [mb] ++ le16 (queueMask queue)
        if queue = [] then (s, { status := .ok, nothing := true, data })
        else
          (s.createRun (if fg then .foreground else .background) (some l) queue, { status := .ok, data })
  | _ => s.refused .length

/-- TUNE_ABORT: no payload (R147). The counts returned without a run are free values (assumption log 11). -/
def tuneAbortService (_l : Link) (payload : List Byte) (s : State) : State × Answer :=
  match payload with
  | [] =>
    match s.run with
    | none => (s, { status := .ok, nothing := true, data := [Config.passWithoutRun, Config.failWithoutRun] })
    | some r => (s.abortRun r, { status := .ok, data := [byte r.passCount, byte r.failCount] })
  | _ => s.refused .length

/-- State, first and last kept anchor of an active record as CAL_READ returns them (R183). -/
def mapBytes : CalMap → List Byte
  | .nominal => [byte 0, byte 0, byte 0]
  | .calibrated first ps => [byte 1, byte first, byte (first + ps.length - 1)]

/-- The P values of the kept anchors, in anchor order (R154). -/
def CalMap.pitches : CalMap → List Nat
  | .nominal => []
  | .calibrated _ ps => ps

/-- The voice of an oscillator is TUNING, current or waiting (R154, R155). -/
def State.oscTuning (s : State) (o : OscId) : Bool := (s.voice (voiceOfOsc o)).phase.isTuning

/-- The data of CAL_READ (R154, R183). -/
def State.calData (s : State) (o : OscId) : List Byte :=
  let c := s.cal o
  [byte o] ++ mapBytes c.map ++ [byte c.lastResult.code, byte (bit (s.oscTuning o))]
    ++ le16 c.unstableCount ++ le16 c.tuneCount ++ c.map.pitches.flatMap le16

/-- CAL_READ: oscillator (R154). -/
def calReadService (_l : Link) (payload : List Byte) (s : State) : State × Answer :=
  match payload with
  | [ob] =>
    match field? 32 ob with
    | some o => (s, { status := .ok, data := s.calData o })
    | none => s.refused .range
  | _ => s.refused .length

/-- The active record of an oscillator is replaced; its last result and counts are kept (R155). -/
def State.writeMap (o : OscId) (m : CalMap) (s : State) : State := s.setCal o { s.cal o with map := m }

/-- The range check of a CALIBRATED write (R155, check 4). -/
def calibratedInRange (first last : Nat) (ps : List Nat) : Bool :=
  decide (first ≤ 7 ∧ last ≤ 7 ∧ first + 3 ≤ last) && goodSteps ps

/-- The checks of CAL_WRITE after its length, in order, and the write (R155). `m` is the map, when it is in range. -/
def State.checkedMap (ob : Byte) (m : Option CalMap) (s : State) : State × Answer :=
  match field? 32 ob with
  | none => s.refused .range
  | some o =>
    if s.oscTuning o then s.refused .voiceBusy
    else
      match m with
      | some m => (s.writeMap o m, .ok)
      | none => s.refused .range

/-- CAL_WRITE: oscillator, state and, for CALIBRATED, first, last and P values (R155). A state other than 0 or 1 names
no length. -/
def calWriteService (_l : Link) (payload : List Byte) (s : State) : State × Answer :=
  match payload with
  | ob :: stb :: rest =>
    if stb = 0 then
      if rest = [] then s.checkedMap ob (some .nominal) else s.refused .length
    else if stb = 1 then
      match rest with
      | fb :: lb :: ps =>
        match values16? ps with
        | some vs =>
          if vs.length = lb.toNat + 1 - fb.toNat then
            s.checkedMap ob
              (if calibratedInRange fb.toNat lb.toNat vs then some (.calibrated fb.toNat vs) else none)
          else s.refused .length
        | none => s.refused .length
      | _ => s.refused .length
    else s.refused .range
  | _ => s.refused .length

/-- TUNE_START (R137). -/
def execTuneStart (l : Link) (payload : List Byte) (s : State) : Result :=
  .next (s.takeRequest .tuneStart tuneStartService l payload)

/-- TUNE_ABORT (R147). -/
def execTuneAbort (l : Link) (payload : List Byte) (s : State) : Result :=
  .next (s.takeRequest .tuneAbort tuneAbortService l payload)

/-- CAL_READ (R154). -/
def execCalRead (l : Link) (payload : List Byte) (s : State) : Result :=
  .next (s.takeRequest .calRead calReadService l payload)

/-- CAL_WRITE (R155). -/
def execCalWrite (l : Link) (payload : List Byte) (s : State) : Result :=
  .next (s.takeRequest .calWrite calWriteService l payload)

/-! ### Events of the measurement unit -/

/-- The edge timer, in ms (R123, R124). -/
def edgeTime : Nat := 250

/-- Expiry of the settle timer (R123). -/
def execSettleExpiry (s : State) : Result :=
  match s.measurement with
  | some m =>
    match m.phase with
    | .settle => .next { s with measurement := some { m with phase := .probeWait, timer := edgeTime } }
    | _ => .next s
  | none => .next s

/-- Edge timer expiry: the anchor ends DEAD. A count that runs has then seen 250 ms of ticks since its last edge, at
which the counter stops (R127). -/
def State.edgeExpiry (m : Measurement) (s : State) : State :=
  match m.phase with
  | .settle => s
  | .probeWait => s.finishAnchor m .dead
  | .probe | .count _ _ _ =>
    { s with periodCounter := min counterMax (s.periodCounter + edgeTicks) }.finishAnchor m .dead

/-- The counter saturates in COUNT: the anchor ends DEAD (R128). -/
def State.saturate (m : Measurement) (s : State) : State :=
  { s with periodCounter := counterMax }.finishAnchor m .dead

/-- The closing edge of a count: the stability check (R126, R129, R131). -/
def State.closeCount (m : Measurement) (c n c1 : Nat) (s : State) : State :=
  let s := { s with periodCounter := c }
  if isStable c n c1 then s.finishAnchor m (stableResult c n)
  else
    let s := s.countUnstable m.osc
    if m.attempt < 3 then
      { s with measurement := some { m with attempt := m.attempt + 1, phase := .probeWait, timer := edgeTime } }
    else s.finishAnchor m .unstable

/-- A rising edge in COUNT (R126, R128). The counter that reaches its highest value before the edge has saturated. -/
def State.countEdge (m : Measurement) (ticks c1 n periods : Nat) (s : State) : State :=
  let c := s.periodCounter + ticks
  if counterMax ≤ c then s.saturate m
  else if periods + 1 < n then
    { s with
      periodCounter := c
      measurement := some { m with phase := .count c1 n (periods + 1), timer := edgeTime } }
  else s.closeCount m c n c1

/-- A rising edge of FIN, `ticks` ticks after the edge timer was last started (R120, R124, R126; assumption log 3).
An edge later than 250 ms finds the edge timer expired before it. Where the edge timer was last started by an edge (in
PROBE and COUNT, and in PROBE_WAIT after an unstable attempt, R129), an edge less than 2 ticks after it is not seen. -/
def execFinEdge (ticks : Nat) (s : State) : Result :=
  match s.measurement with
  | none => .next s
  | some m =>
    match m.phase with
    | .settle => .next s
    | .probeWait =>
      if edgeTicks < ticks then .next (s.edgeExpiry m)
      else if 1 < m.attempt ∧ ticks < 2 then .next s
      else .next { s with periodCounter := 0, measurement := some { m with phase := .probe, timer := edgeTime } }
    | .probe =>
      if edgeTicks < ticks then .next (s.edgeExpiry m)
      else if ticks < 2 then .next s
      else
        let c1 := min counterMax (s.periodCounter + ticks)
        .next { s with
          periodCounter := 0
          measurement := some { m with phase := .count c1 (chooseN c1) 0, timer := edgeTime } }
    | .count c1 n periods =>
      if edgeTicks < ticks then .next (s.edgeExpiry m)
      else if ticks < 2 then .next s
      else .next (s.countEdge m ticks c1 n periods)

/-- Expiry of the 250 ms edge timer (R127). -/
def execEdgeTimerExpiry (s : State) : Result :=
  match s.measurement with
  | some m => .next (s.edgeExpiry m)
  | none => .next s

/-- The period counter reaches its highest value in COUNT (R128). -/
def execPeriodCounterSaturation (s : State) : Result :=
  match s.measurement with
  | some m =>
    match m.phase with
    | .count _ _ _ => .next (s.saturate m)
    | _ => .next s
  | none => .next s

/-- Expiry of the retune timer (R151). -/
def execRetuneTimerExpiry (s : State) : Result :=
  match s.retune with
  | none => .next s
  | some _ =>
    let queue := s.tuneQueue 65535
    let s := if s.run.isNone ∧ queue ≠ [] then s.createRun .background none queue else s
    let x := s.global gRetuneInterval
    .next { s with retune := if x = 0 then none else some x }

end Sys2Proof.Machine
end

