-- ==== Sys2Proof/Machine/VoiceCommands.lean ====
section
/-! DEFINITION. The voice commands: VOICE_ENABLE, VOICE_DISABLE and VOICE_READ (codes 0x40 to 0x42), RESET_VOICES
(0x60), the expiries of a voice and of a deferred entry, and the glide step. -/

namespace Sys2Proof.Machine

/-- The voices of a mask, in ascending order (R183). -/
def voicesOf (mask : Nat) : List VoiceId := allVoices.filter fun v => mask.testBit v.val

/-! ### VOICE_ENABLE (R27) -/

/-- VOICE_ENABLE would change the voice (R27). -/
def VoicePhase.enables : VoicePhase → Bool
  | .offline _ => true
  | .damping _ _ disablePending _ => disablePending
  | _ => false

/-- One voice of a VOICE_ENABLE, before the offers to the deferred list (R27). -/
def State.enableVoice (s : State) (v : VoiceId) : State :=
  match (s.voice v).phase with
  | .offline _ => s.goIdle v
  | .damping n su true timer => s.setPhase v (.damping n su false timer)
  | _ => s

/-- The voices of a mask are enabled, and those that went IDLE are offered in ascending index order (R23, R27). -/
def State.enableVoices (mask : Nat) (s : State) : State :=
  let back := (voicesOf mask).filter fun v => (s.voice v).phase.isOffline
  ((voicesOf mask).foldl State.enableVoice s).offerAll back

/-- VOICE_ENABLE: voice mask (R27). -/
def voiceEnableService (_l : Link) (payload : List Byte) (s : State) : State × Answer :=
  match payload with
  | [lo, hi] =>
    let mask := u16 lo hi
    if mask = 0 then s.refused .range
    else
      (s.enableVoices mask,
        { status := .ok, nothing := (voicesOf mask).all fun v => !(s.voice v).phase.enables })
  | _ => s.refused .length

/-! ### VOICE_DISABLE (R26, R148) -/

/-- VOICE_DISABLE would change the voice (R26). -/
def VoicePhase.disables : VoicePhase → Bool
  | .offline .disabled => false
  | .damping _ _ disablePending _ => !disablePending
  | _ => true

/-- Disable pending is set on a DAMPING voice (R26). -/
def State.pendDisable (v : VoiceId) (s : State) : State :=
  match (s.voice v).phase with
  | .damping n su _ timer => s.setPhase v (.damping n su true timer)
  | _ => s

/-- A voice goes OFFLINE with reason DISABLED, and its claim is removed (R26). -/
def State.goDisabled (v : VoiceId) (s : State) : State :=
  ((s.setPhase v (.offline .disabled)).setClaim v false).stopGlide v

/-- A voice that has been disabled leaves the run it belonged to, and the run goes on (R148). -/
def State.leaveRun (v : VoiceId) (s : State) : State :=
  if s.run.any fun r => r.queue.contains v then ((s.dequeue v).unmark v).runContinue else s

/-- VOICE_DISABLE of the current voice of a run (R148). -/
def State.disableCurrent (c : Current) (s : State) : State :=
  let s := ((s.abortCurrent c).goDisabled c.voice).postVoiceDone c.voice c.resultA .aborted
  ((s.withRun fun r => { r with current := none }).unmark c.voice).runContinue

/-- VOICE_DISABLE of a TUNING voice: the current voice of the run, or one that waits (R148). -/
def State.disableTuning (v : VoiceId) (s : State) : State :=
  match s.run.bind Run.current with
  | some c => if c.voice = v then s.disableCurrent c else (s.goDisabled v).leaveRun v
  | none => (s.goDisabled v).leaveRun v

/-- One voice of a VOICE_DISABLE, by its state (R26), with what it does to the run (R148). -/
def State.disableVoice (s : State) (v : VoiceId) : State :=
  match (s.voice v).phase with
  | .idle => (s.goDisabled v).leaveRun v
  | .gated _ _ _ | .released _ _ _ => (((s.damp v none).pendDisable v).setClaim v false).leaveRun v
  | .damping _ _ false _ => (((s.cancelAndLeave v).pendDisable v).setClaim v false).leaveRun v
  | .damping _ _ true _ => s
  | .tuning _ => s.disableTuning v
  | .offline .fault => (s.goDisabled v).leaveRun v
  | .offline .disabled => s

/-- VOICE_DISABLE: voice mask (R26). The voices are taken in ascending index order, each whole (assumption
log 8). -/
def voiceDisableService (_l : Link) (payload : List Byte) (s : State) : State × Answer :=
  match payload with
  | [lo, hi] =>
    let mask := u16 lo hi
    if mask = 0 then s.refused .range
    else
      ((voicesOf mask).foldl State.disableVoice s,
        { status := .ok, nothing := (voicesOf mask).all fun v => !(s.voice v).phase.disables })
  | _ => s.refused .length

/-! ### VOICE_READ (R28, R183) -/

/-- A key that may be absent: 255 (R183). -/
def keyOr255 (k : Option Key) : Nat := (k.map Fin.val).getD 255

/-- The disable pending flag of a voice. -/
def VoicePhase.disablePending : VoicePhase → Bool
  | .damping _ _ dp _ => dp
  | _ => false

/-- The flag byte of a voice entry (R183). -/
def Voice.flagByte (x : Voice) : Nat :=
  bit x.phase.isSustained + 2 * bit x.phase.successor?.isSome + 4 * bit x.phase.disablePending + 8 * bit x.claim
    + 16 * bit x.clamped

/-- The successor bytes of a voice entry: part, key, velocity, source and kind; 0, 255, 0 and 0 without a successor
(R183). -/
def successorBytes : Option Successor → List Byte
  | some su => [byte su.part, byte su.key, byte su.velocity, byte (su.source.code + 16 * su.kind.code)]
  | none => [byte 0, byte 255, byte 0, byte 0]

/-- The offline reason of a voice entry: 0 none, 1 DISABLED, 2 FAULT (R183). -/
def VoicePhase.reasonCode : VoicePhase → Nat
  | .offline r => r.code
  | _ => 0

/-- The 12 bytes of a voice in VOICE_READ (R183). -/
def Voice.entry (x : Voice) : List Byte :=
  [byte x.phase.code, byte x.part, byte (keyOr255 (x.phase.note?.map Note.key)), byte x.velocity]
    ++ le16 x.serial.toNat ++ [byte x.flagByte] ++ successorBytes x.phase.successor? ++ [byte x.phase.reasonCode]

/-- The entries of a run of voices, in index order (R28). -/
def State.voiceEntries (s : State) (first count : Nat) : List Byte :=
  (allVoices.filter fun v => decide (first ≤ v.val ∧ v.val < first + count)).flatMap fun v => (s.voice v).entry

/-- VOICE_READ: first voice, count (R28). -/
def voiceReadService (_l : Link) (payload : List Byte) (s : State) : State × Answer :=
  match payload with
  | [fb, cb] =>
    if inTable 16 16 fb.toNat cb.toNat then
      (s, { status := .ok, data := [fb, cb] ++ s.voiceEntries fb.toNat cb.toNat })
    else s.refused .range
  | _ => s.refused .length

/-! ### RESET_VOICES (R31, R149, R158) -/

/-- A voice after RESET_VOICES (R31). -/
def Voice.afterReset (now : Stamp) (x : Voice) : Voice :=
  match x.phase with
  | .offline _ => x
  | _ => { x with phase := .idle, releaseStamp := now, claim := false, clamped := false }

/-- A glide record after RESET_VOICES: a running glide stands at its target (R158). -/
def Glide.afterReset (g : Glide) : Glide := { position := g.target.getD g.position, target := none }

/-- RESET_VOICES, after its checks (R31, R149, R158): the run is aborted, the glides stop, the voices go to rest, and
the lists, holds, bends and counters take their reset values. -/
def State.resetVoicesNow (s : State) : State :=
  let s := s.abortRunForReset
  { s with
    glides := s.glides.map Glide.afterReset
    voices := s.voices.map (Voice.afterReset s.timestamp)
    deferred := []
    perf := Vector.replicate 4 Perf.atReset }

/-- RESET_VOICES: no payload (R31). -/
def resetVoicesService (_l : Link) (payload : List Byte) (s : State) : State × Answer :=
  match payload with
  | [] => (s.resetVoicesNow, .ok)
  | _ => s.refused .length

/-! ### Meanings -/

/-- VOICE_ENABLE (R27). -/
def execVoiceEnable (l : Link) (payload : List Byte) (s : State) : Result :=
  .next (s.takeRequest .voiceEnable voiceEnableService l payload)

/-- VOICE_DISABLE (R26). -/
def execVoiceDisable (l : Link) (payload : List Byte) (s : State) : Result :=
  .next (s.takeRequest .voiceDisable voiceDisableService l payload)

/-- VOICE_READ (R28). -/
def execVoiceRead (l : Link) (payload : List Byte) (s : State) : Result :=
  .next (s.takeRequest .voiceRead voiceReadService l payload)

/-- RESET_VOICES (R31). -/
def execResetVoices (l : Link) (payload : List Byte) (s : State) : Result :=
  .next (s.takeRequest .resetVoices resetVoicesService l payload)

/-- Expiry of a voice's damp timer, which runs exactly while the voice is DAMPING (R17, R18). -/
def execDampExpiry (v : VoiceId) (s : State) : Result := .next (s.dampEnd v)

/-- Expiry of a voice's release window, which runs exactly while the voice is RELEASED (R20). -/
def execReleaseWindowExpiry (v : VoiceId) (s : State) : Result := .next (s.windowExpiry v)

/-- Expiry of the timeout of the deferred entry at a place of the list (R22). -/
def execDeferTimeout (place : Fin 8) (s : State) : Result :=
  match s.deferred[place.val]? with
  | some d =>
    .next (({ s with deferred := s.deferred.eraseIdx place.val }.countDropped d.part).postDropped d.part d.key 2)
  | none => .next s

/-- End of a voice's retrigger pulse: the gate line returns high (R9, R174). -/
def execRetriggerPulseEnd (v : VoiceId) (s : State) : Result :=
  match (s.voice v).phase with
  | .gated n sus (some _) => .next (s.setPhase v (.gated n sus none))
  | _ => .next s

end Sys2Proof.Machine
end

