-- ==== Sys2Proof/Machine/Queues.lean ====
section
/-! DEFINITION. The notice and status requests: NOTICE_READ, NOTICE_ACK, NOTICE_CONFIG and STATUS (codes 0x50 to
0x53). -/

namespace Sys2Proof.Machine

/-- Replace a link's notice queue. -/
def State.setQueue (l : Link) (q : NoticeQueue) (s : State) : State := s.setLink l { s.link l with queue := q }

/-- The notice queue of a link. -/
def State.queueOf (s : State) (l : Link) : NoticeQueue := (s.link l).queue

/-! ### NOTICE_READ (R191, R195) -/

/-- The 8 bytes of a notice (R195). -/
def Notice.bytes (n : Notice) : List Byte :=
  [byte n.kind.code, byte n.subject] ++ le16 n.value1 ++ le16 n.value2 ++ le16 n.stamp.toNat

/-- The number of notices that NOTICE_READ takes its max as: 1 to 16 (R191). -/
def readMax (x : Nat) : Nat := clampTo 1 16 x

/-- The data of NOTICE_READ (R191, R183): first slot, count, lost count, and the notices. -/
def NoticeQueue.readData (max : Nat) (q : NoticeQueue) : List Byte :=
  [byte q.get, byte (min max q.fill), byte q.lost] ++ (q.stored.take max).flatMap Notice.bytes

/-- NOTICE_READ: max (R191). -/
def noticeReadService (l : Link) (payload : List Byte) (s : State) : State × Answer :=
  match payload with
  | [mb] =>
    let q := s.queueOf l
    let max := readMax mb.toNat
    (s.setQueue l { q with lost := 0 },
      { status := .ok, clamped := max != mb.toNat, nothing := decide (q.fill = 0 ∧ q.lost = 0), data := q.readData max })
  | _ => s.refused .length

/-! ### NOTICE_ACK (R192) -/

/-- (i − get) mod 32: the place of slot i counted from get (R192). -/
def NoticeQueue.place (i : Nat) (q : NoticeQueue) : Nat := (i + 32 - q.get.val) % 32

/-- Slot i holds a stored notice (R192). -/
def NoticeQueue.isStored (i : Nat) (q : NoticeQueue) : Bool := decide (i ≤ 31 ∧ q.place i < q.fill)

/-- Every notice from get to slot i is removed (R192). -/
def NoticeQueue.ack (i : Nat) (q : NoticeQueue) : NoticeQueue :=
  { q with stored := q.stored.drop (q.place i + 1), get := ⟨(i + 1) % 32, Nat.mod_lt _ (by decide)⟩ }

/-- NOTICE_ACK: slot (R192). -/
def noticeAckService (l : Link) (payload : List Byte) (s : State) : State × Answer :=
  match payload with
  | [ib] =>
    let q := s.queueOf l
    if q.isStored ib.toNat then
      (s.setQueue l (q.ack ib.toNat), { status := .ok, data := [byte (q.ack ib.toNat).fill] })
    else s.refused .badIndex
  | _ => s.refused .length

/-! ### NOTICE_CONFIG (R193) -/

/-- The watermark that NOTICE_CONFIG stores: 1 to 32 (R193). -/
def clampWatermark (x : Nat) : Nat := clampTo 1 32 x

/-- NOTICE_CONFIG: group mask, watermark (R193). -/
def noticeConfigService (l : Link) (payload : List Byte) (s : State) : State × Answer :=
  match payload with
  | [mb, wb] =>
    if 32 ≤ mb.toNat then s.refused .range
    else
      let mask : BitVec 8 := mb ||| 0x10#8
      let mark := clampWatermark wb.toNat
      (s.setQueue l { s.queueOf l with mask, watermark := mark },
        { status := .ok, clamped := mask != mb || mark != wb.toNat, data := [mask, byte mark] })
  | _ => s.refused .length

/-! ### STATUS (R184) -/

/-- Bytes 0 to 16 of STATUS (R184). -/
def State.statusHead (l : Link) (s : State) : List Byte :=
  let q := s.queueOf l
  le16 s.timestamp.toNat ++ [byte q.fill, byte q.lost, q.mask, byte q.watermark]
    ++ le16 s.linkA.overruns ++ le16 s.linkB.overruns
    ++ le16 s.lineUnit.frameErrors ++ le16 s.lineUnit.byteErrors ++ le16 s.lineUnit.fifoOverruns
    ++ [byte s.deferred.length]

/-- Bytes 17 to 26 of STATUS, the run record (R184). An absent field is 255, and an absent queue of 16 bits is 255 with
its low byte first (R183, assumption log 9). -/
def runBytes : Option Run → List Byte
  | none => [byte 0, byte 255, byte 255] ++ le16 255 ++ List.replicate 5 (byte 255)
  | some r =>
    [byte (1 + bit r.current.isSome), byte r.mode.code, byte (linkOrNone r.requester)] ++ le16 (queueMask r.queue)
      ++ (match r.current with
        | some c => [byte c.voice, byte (oscOf c.voice c.second), byte c.anchor]
        | none => [byte 255, byte 255, byte 255])
      ++ [byte r.passCount, byte r.failCount]

/-- The 10 places of a held-key list, head first, 255 for unused places (R184). -/
def heldBytes (held : List HeldKey) : List Byte :=
  (List.range 10).map fun i => byte (keyOr255 (held[i]?.map HeldKey.key))

/-- The sustained marks of a held-key list as a mask (R184). -/
def sustainedMask (held : List HeldKey) : Nat :=
  maskOf ((List.range 10).filter fun i => held[i]?.any HeldKey.sustained)

/-- The nine bytes of an apply slot; absent fields are 0 (R184). -/
def slotBytes : Option Morph → List Byte
  | none => List.replicate 9 (byte 0)
  | some m =>
    [byte 1, byte (linkCode m.origin)] ++ le16 m.total ++ le16 m.elapsed
      ++ [byte m.curve.code, byte m.entries.length, byte m.taken]

/-- The five note counters of a part (R184). -/
def Counters.bytes (c : Counters) : List Byte :=
  le16 c.notesIn ++ le16 c.sounded ++ le16 c.dropped ++ le16 c.refused ++ le16 c.cancelled

/-- The 39 bytes of a part block (R184). -/
def State.partBlock (s : State) (p : PartId) : List Byte :=
  let x := s.perfOf p
  x.counters.bytes ++ [byte (bit x.hold)] ++ le16 x.bend ++ [byte x.held.length] ++ heldBytes x.held
    ++ le16 (sustainedMask x.held) ++ [byte (keyOr255 x.selected)] ++ le16 (queueMask x.monoSet)
    ++ [byte (x.wanted.getD 0)] ++ slotBytes (s.slotOf p)

/-- The 183 bytes of STATUS for a link (R184). -/
def State.statusData (l : Link) (s : State) : List Byte :=
  s.statusHead l ++ runBytes s.run ++ allParts.flatMap s.partBlock

/-- STATUS: no payload (R184). -/
def statusService (l : Link) (payload : List Byte) (s : State) : State × Answer :=
  match payload with
  | [] => (s, { status := .ok, data := s.statusData l })
  | _ => s.refused .length

/-! ### Meanings -/

/-- NOTICE_READ (R191). -/
def execNoticeRead (l : Link) (payload : List Byte) (s : State) : Result :=
  .next (s.takeRequest .noticeRead noticeReadService l payload)

/-- NOTICE_ACK (R192). -/
def execNoticeAck (l : Link) (payload : List Byte) (s : State) : Result :=
  .next (s.takeRequest .noticeAck noticeAckService l payload)

/-- NOTICE_CONFIG (R193). -/
def execNoticeConfig (l : Link) (payload : List Byte) (s : State) : Result :=
  .next (s.takeRequest .noticeConfig noticeConfigService l payload)

/-- STATUS (R184). -/
def execStatus (l : Link) (payload : List Byte) (s : State) : Result :=
  .next (s.takeRequest .status statusService l payload)

end Sys2Proof.Machine
end

