-- ==== Sys2Proof/Machine/Links.lean ====
section
/-! DEFINITION. The link unit's other commands: RESET_DEVICE (code 0x62) and the reset itself (R196), request frames
as bytes (R177), FETCH and the other frames (R175, R178, R179), REPLY_READY (R176), Link N (R186 to R189) and the
timestamp (R197). -/

namespace Sys2Proof.Machine

/-! ### Reset (R101, R173, R196, R197) -/

/-- A request link in reset: everything at its reset value but the bytes that stand shifted out. -/
def LinkUnit.cleared (u : LinkUnit) : LinkUnit := { LinkUnit.atReset with shifted := u.shifted }

/-- Every block at its reset value, with the scanner and the refresh round stopped. The command queue, the free
values, the sample-and-hold outputs (R173), the pins MSEL and RSTB and the bytes shifted out on SO stay. -/
def State.cleared (s : State) : State :=
  { State.reset with
    pending := s.pending
    freeIndex := s.freeIndex
    scanner := { roundNumber := 0, skipped := 0, period := none, round := none, msel := s.scanner.msel }
    output := { s.output with slot := none }
    linkA := s.linkA.cleared
    linkB := s.linkB.cleared
    rstb := s.rstb
    resetRun := s.resetRun }

/-- A reset takes 2 ms (R196). -/
def resetTime : Nat := 2

/-- A reset begins, or begins again, with its 2 ms (R196). The cause that RESET_DONE will tell is that of the reset that
began last: the document does not say, and this is the model's choice (assumption log 30). -/
def State.beginReset (c : ResetCause) (s : State) : State := { s.cleared with resetRun := some (c, resetTime) }

/-- value1 of RESET_DONE (R195). -/
def ResetCause.code : ResetCause → Nat
  | .powerOn => 0
  | .device _ => 1

/-- value2 of RESET_DONE: the requesting link, NONE for power-on (R195). -/
def ResetCause.requester : ResetCause → Nat
  | .powerOn => 15
  | .device l => linkCode l

/-- The scan period timer is started with SCAN_PERIOD, and the first round starts with it (R101). -/
def State.startScanner (s : State) : State :=
  { s with scanner := { s.scanner with period := some (s.global gScanPeriod) } }.startRound

/-- The refresh round starts at slot 0 (R173). -/
def State.startRefresh (s : State) : State := { s with output := { s.output with slot := some 0 } }

/-- A reset ends (R196): the reset state stands, the scanner and the refresh round start, and RESET_DONE is posted
to each link. -/
def State.endReset (c : ResetCause) (s : State) : State :=
  ({ s.cleared with resetRun := none }.startScanner.startRefresh).postWhere (fun _ => true) .resetDone 0 c.code
    c.requester

/-- RESET_DEVICE: no payload (R196). -/
def resetDeviceService (l : Link) (payload : List Byte) (s : State) : State × Answer :=
  match payload with
  | [] => (s.beginReset (.device l), .ok)
  | _ => s.refused .length

/-! ### A request frame as bytes (R175, R177, R182) -/

/-- The service of a request of the catalogue (R182). -/
def Request.service : Request → Service
  | .keyOn => keyOnService
  | .keyOff => keyOffService
  | .hold => holdService
  | .bend => bendService
  | .allOff => allOffService
  | .paramSet => paramSetService
  | .paramGet => paramGetService
  | .stageWrite => stageWriteService
  | .stageClear => stageClearService
  | .apply => applyService
  | .morphCancel => morphCancelService
  | .curveSet => curveSetService
  | .mapKnob => mapKnobService
  | .mapSwitch => mapSwitchService
  | .panelRead => panelReadService
  | .tuneStart => tuneStartService
  | .tuneAbort => tuneAbortService
  | .calRead => calReadService
  | .calWrite => calWriteService
  | .voiceEnable => voiceEnableService
  | .voiceDisable => voiceDisableService
  | .voiceRead => voiceReadService
  | .noticeRead => noticeReadService
  | .noticeAck => noticeAckService
  | .noticeConfig => noticeConfigService
  | .status => statusService
  | .resetVoices => resetVoicesService
  | .resetPanel => resetPanelService
  | .resetDevice => resetDeviceService

/-- The checks of R177 on a frame with this code byte and these bytes after it, and the request's work. -/
def frameService (l : Link) (code : Byte) (rest : List Byte) (s : State) : State × Answer :=
  if goodLength rest then
    match Request.ofCode code with
    | some r => r.service l (rest.drop 1) s
    | none => s.refused .unknown
  else s.refused .length

/-- A frame as the link unit finds it at its end (R175): without a byte it is ignored, with code 0x00 it is a FETCH
frame, otherwise a request frame. -/
def State.frame (l : Link) (bytes : List Byte) (s : State) : State :=
  match bytes with
  | [] => s
  | code :: rest =>
    if code = 0x00#8 then s.fetchFrame l (1 + rest.length)
    else s.takeFrame l (1 + rest.length) code (frameService l code rest)

/-! ### Meanings -/

/-- RESET_DEVICE (R196). It gives no reply. -/
def execResetDevice (l : Link) (payload : List Byte) (s : State) : Result :=
  .next (s.takeRequest .resetDevice resetDeviceService l payload)

/-- A request frame that R177 refuses at its frame length or its code: LENGTH or UNKNOWN. -/
def execUnknownRequest (l : Link) (frame : List Byte) (s : State) : Result := .next (s.frame l frame)

/-- A FETCH frame (R178). -/
def execFetch (l : Link) (n : Nat) (s : State) : Result := .next (s.fetchFrame l n)

/-- A request frame of `n` bytes that ends while its link is busy: discarded, with overrun count and mark (R179). -/
def execRequestBusyDiscard (l : Link) (n : Nat) (s : State) : Result :=
  if n = 0 ∨ s.inReset = true ∨ s.busy l = false then .next s
  else .next ((s.shiftOut l (fillers n)).discardBusy l)

/-- A frame of `n` bytes that ends while a reset runs: discarded, with 0xFF shifted out (R196). -/
def execFrameDuringReset (l : Link) (n : Nat) (s : State) : Result :=
  if n = 0 ∨ s.inReset = false then .next s else .next (s.shiftOut l (fillers n))

/-- A frame without a whole byte: ignored (R175). -/
def execEmptyFrame (l : Link) (s : State) : Result := .next (s.frame l [])

/-- Processing of the request in hand ends (R176, R178, R179). -/
def execReplyReady (l : Link) (s : State) : Result := .next (s.replyReady l)

/-- RSTB is driven low: the power-on reset begins (R196). -/
def execPowerOnReset (s : State) : Result := .next { s.beginReset .powerOn with rstb := false }

/-- RSTB rises: the reset ends 2 ms after this (R196). -/
def execRstbRelease (s : State) : Result :=
  if s.rstb then .next s
  else .next { s with rstb := true, resetRun := s.resetRun.map fun r => (r.1, resetTime) }

/-- The 2 ms of a reset have passed, and RSTB is high (R196). -/
def execResetEnd (s : State) : Result :=
  match s.resetRun, s.rstb with
  | some (cause, _), true => .next (s.endReset cause)
  | _, _ => .next s

/-- A byte received on NRX (R186). The receiver takes no bytes while a reset runs (R196). -/
def execLinkNByte (good : Bool) (value : Byte) (s : State) : Result :=
  if s.inReset then .next s
  else if s.lineUnit.fifo.length < 16 then
    .next { s with lineUnit := { s.lineUnit with fifo := s.lineUnit.fifo ++ [{ good, value }] } }
  else .next (s.lineError .overrun)

/-- The parser takes the head byte of the FIFO (R186 to R188). -/
def execParseByte (s : State) : Result :=
  match s.lineUnit.fifo with
  | [] => .next s
  | x :: rest => .next ({ s with lineUnit := { s.lineUnit with fifo := rest } }.parse x)

/-- Expiry of the pacing timer: LINE_ERROR is posted again, or the timer stops (R189). -/
def execLineErrorTimerExpiry (s : State) : Result :=
  match s.lineUnit.pacing with
  | none => .next s
  | some _ =>
    if 0 < s.lineUnit.accumulator then .next s.postLineError
    else .next { s with lineUnit := { s.lineUnit with pacing := none } }

/-- A millisecond passes: the timestamp rises by 1 and wraps (R197). It stays at 0 while a reset runs. -/
def execTimestampTick (s : State) : Result :=
  if s.inReset then .next s else .next { s with timestamp := s.timestamp + 1 }

end Sys2Proof.Machine
end

