-- ==== Sys2Proof/Machine/Dispatch.lean ====
section
/-! DEFINITION. The meaning of every command: one call for each constructor of Instr. -/

namespace Sys2Proof.Machine

def exec (i : Instr) (s : State) : Host.Outcome State Fault Refusal :=
  match i with
  | .keyOn link payload => Sys2Proof.Machine.execKeyOn link payload s
  | .keyOff link payload => Sys2Proof.Machine.execKeyOff link payload s
  | .hold link payload => Sys2Proof.Machine.execHold link payload s
  | .bend link payload => Sys2Proof.Machine.execBend link payload s
  | .allOff link payload => Sys2Proof.Machine.execAllOff link payload s
  | .paramSet link payload => Sys2Proof.Machine.execParamSet link payload s
  | .paramGet link payload => Sys2Proof.Machine.execParamGet link payload s
  | .stageWrite link payload => Sys2Proof.Machine.execStageWrite link payload s
  | .stageClear link payload => Sys2Proof.Machine.execStageClear link payload s
  | .apply link payload => Sys2Proof.Machine.execApply link payload s
  | .morphCancel link payload => Sys2Proof.Machine.execMorphCancel link payload s
  | .curveSet link payload => Sys2Proof.Machine.execCurveSet link payload s
  | .mapKnob link payload => Sys2Proof.Machine.execMapKnob link payload s
  | .mapSwitch link payload => Sys2Proof.Machine.execMapSwitch link payload s
  | .panelRead link payload => Sys2Proof.Machine.execPanelRead link payload s
  | .tuneStart link payload => Sys2Proof.Machine.execTuneStart link payload s
  | .tuneAbort link payload => Sys2Proof.Machine.execTuneAbort link payload s
  | .calRead link payload => Sys2Proof.Machine.execCalRead link payload s
  | .calWrite link payload => Sys2Proof.Machine.execCalWrite link payload s
  | .voiceEnable link payload => Sys2Proof.Machine.execVoiceEnable link payload s
  | .voiceDisable link payload => Sys2Proof.Machine.execVoiceDisable link payload s
  | .voiceRead link payload => Sys2Proof.Machine.execVoiceRead link payload s
  | .noticeRead link payload => Sys2Proof.Machine.execNoticeRead link payload s
  | .noticeAck link payload => Sys2Proof.Machine.execNoticeAck link payload s
  | .noticeConfig link payload => Sys2Proof.Machine.execNoticeConfig link payload s
  | .status link payload => Sys2Proof.Machine.execStatus link payload s
  | .resetVoices link payload => Sys2Proof.Machine.execResetVoices link payload s
  | .resetPanel link payload => Sys2Proof.Machine.execResetPanel link payload s
  | .resetDevice link payload => Sys2Proof.Machine.execResetDevice link payload s
  | .unknownRequest link frame => Sys2Proof.Machine.execUnknownRequest link frame s
  | .fetch link frameBytes => Sys2Proof.Machine.execFetch link frameBytes s
  | .requestBusyDiscard link frameBytes => Sys2Proof.Machine.execRequestBusyDiscard link frameBytes s
  | .frameDuringReset link frameBytes => Sys2Proof.Machine.execFrameDuringReset link frameBytes s
  | .emptyFrame link => Sys2Proof.Machine.execEmptyFrame link s
  | .replyReady link => Sys2Proof.Machine.execReplyReady link s
  | .powerOnReset => Sys2Proof.Machine.execPowerOnReset s
  | .rstbRelease => Sys2Proof.Machine.execRstbRelease s
  | .resetEnd => Sys2Proof.Machine.execResetEnd s
  | .linkNByte good value => Sys2Proof.Machine.execLinkNByte good value s
  | .parseByte => Sys2Proof.Machine.execParseByte s
  | .lineErrorTimerExpiry => Sys2Proof.Machine.execLineErrorTimerExpiry s
  | .dampExpiry voice => Sys2Proof.Machine.execDampExpiry voice s
  | .releaseWindowExpiry voice => Sys2Proof.Machine.execReleaseWindowExpiry voice s
  | .deferTimeout place => Sys2Proof.Machine.execDeferTimeout place s
  | .retriggerPulseEnd voice => Sys2Proof.Machine.execRetriggerPulseEnd voice s
  | .morphStep part => Sys2Proof.Machine.execMorphStep part s
  | .scanPeriodExpiry => Sys2Proof.Machine.execScanPeriodExpiry s
  | .scanAddressSettled columns => Sys2Proof.Machine.execScanAddressSettled columns s
  | .controlConversion raw => Sys2Proof.Machine.execControlConversion raw s
  | .stillTimeoutExpiry control => Sys2Proof.Machine.execStillTimeoutExpiry control s
  | .settleExpiry => Sys2Proof.Machine.execSettleExpiry s
  | .finEdge ticks => Sys2Proof.Machine.execFinEdge ticks s
  | .edgeTimerExpiry => Sys2Proof.Machine.execEdgeTimerExpiry s
  | .periodCounterSaturation => Sys2Proof.Machine.execPeriodCounterSaturation s
  | .retuneTimerExpiry => Sys2Proof.Machine.execRetuneTimerExpiry s
  | .glideStep voice => Sys2Proof.Machine.execGlideStep voice s
  | .outputSlot => Sys2Proof.Machine.execOutputSlot s
  | .timestampTick => Sys2Proof.Machine.execTimestampTick s

end Sys2Proof.Machine
end

