-- ==== Sys2Proof/Safety.lean ====
section
/-! DEFINITION. The terms that the statements use: when a frame is taken and what taking it leaves on the links, the
payload lengths of the catalogue, and the laws that every step keeps: capacities, parameters in their ranges, and the
balance of the note counters. -/

namespace Sys2Proof

/-- The other request link. -/
def Link.other : Link → Link
  | .a => .b
  | .b => .a

namespace Machine

/-! ### Taking a frame (R176) -/

/-- A request frame that ends now on the link is taken: no reset runs and the link is not busy (R176). -/
abbrev State.ready (s : State) (l : Link) : Prop := s.resetRun = none ∧ (s.link l).inProcess = none

/-- A link after it took a frame of `n` bytes: 0xFF stands shifted out for every byte, and the link is busy with its
reply (R175, R176). That the reply is known when the frame ends is the model's choice (assumption log 13). -/
def LinkUnit.took (n : Nat) (r : Reply) (u : LinkUnit) : LinkUnit :=
  { u with inProcess := some r, shifted := List.replicate n 0xFF#8 }

/-- Link `l` took a frame of `n` bytes that is answered with `r`, and nothing else of either link changed. MODEL'S
CHOICE of the moment (assumption log 13): a request has its whole effect, its reply among it, when its frame ends; the
link stays busy until REPLY_READY places that reply in the reply slot. -/
def Took (s t : State) (l : Link) (n : Nat) (r : Reply) : Prop :=
  t.link l = (s.link l).took n r ∧ t.link l.other = s.link l.other

/-- As `Took`, with the same choice (assumption log 13), but either link's notice queue may have changed. -/
def TookPosting (s t : State) (l : Link) (n : Nat) (r : Reply) : Prop :=
  t.link l = { (s.link l).took n r with queue := (t.link l).queue }
    ∧ t.link l.other = { s.link l.other with queue := (t.link l.other).queue }

/-- A link after a post that reaches it when `yes` holds (R190). -/
def LinkUnit.told (yes : Bool) (n : Notice) (u : LinkUnit) : LinkUnit :=
  if yes then { u with queue := u.queue.post n } else u

/-- Outside the two links the states are the same. -/
def SameButLinks (s t : State) : Prop := t = { s with linkA := t.linkA, linkB := t.linkB }

/-- An OK reply. -/
def okReply (code : Byte) (clamped nothing : Bool) (data : List Byte) : Reply :=
  { echo := code, status := .ok, flags := { clamped, nothing, overrun := false }, data }

/-- A refusal: no data, no flag (R177). -/
def refusal (code : Byte) (st : Status) : Reply :=
  { echo := code, status := st, flags := { clamped := false, nothing := false, overrun := false }, data := [] }

/-- The length check of CAL_WRITE (R155, check 1): a NOMINAL write carries oscillator and state alone, a CALIBRATED
write also first and last kept anchor and last − first + 1 P values, or none when last is below first. Another state
names no length. -/
def calWriteLengthOk : List Byte → Bool
  | [_, state] => state != 1
  | _ :: state :: first :: last :: ps =>
    state != 0 && (state != 1 || decide (ps.length = 2 * (last.toNat + 1 - first.toNat)))
  | [_, state, _] => state != 0 && state != 1
  | _ => false

/-- The payload lengths of the catalogue (R182), and of CAL_WRITE by its payload (R155). -/
def lengthOk : Request → List Byte → Bool
  | .calWrite, payload => calWriteLengthOk payload
  | .stageWrite, payload => decide (3 ≤ payload.length ∧ payload.length ≤ 81 ∧ payload.length % 2 = 1)
  | .stageClear, payload | .tuneAbort, payload | .status, payload | .resetVoices, payload | .resetPanel, payload
  | .resetDevice, payload => payload.length == 0
  | .allOff, payload | .calRead, payload | .noticeRead, payload | .noticeAck, payload => payload.length == 1
  | .keyOff, payload | .hold, payload | .morphCancel, payload | .voiceEnable, payload | .voiceDisable, payload
  | .voiceRead, payload | .noticeConfig, payload => payload.length == 2
  | .keyOn, payload | .bend, payload | .paramGet, payload | .panelRead, payload | .tuneStart, payload =>
    payload.length == 3
  | .paramSet, payload | .apply, payload | .mapKnob, payload | .mapSwitch, payload => payload.length == 4
  | .curveSet, payload => payload.length == 6

/-- The bytes of a 16-bit field of a payload, low byte first (R183). -/
def field16 (x : Nat) : List Byte := [byte (x % 256), byte (x / 256 % 256)]

/-! ### Capacities (fixed numbers of spec/00_scope.md; R2, R21, R30, R32, R33, R47, R72, R82, R93 to R95, R120, R122,
R136, R152, R158, R186, R188 to R190, R193) -/

/-- The laws of a notice queue (R190, R193): at most 32 notices, a lost count of at most 255, a watermark of 1 to 32,
SYSTEM subscribed, and no bit of the mask above 4. -/
def NoticeQueue.good (q : NoticeQueue) : Prop :=
  q.stored.length ≤ 32 ∧ q.lost ≤ 255 ∧ 1 ≤ q.watermark ∧ q.watermark ≤ 32 ∧ q.mask.getLsbD 4 = true ∧ q.mask.toNat < 32

/-- The laws of a link (R179, R190, R193). -/
def LinkUnit.good (u : LinkUnit) : Prop := u.queue.good ∧ u.overruns ≤ 65535

/-- The five note counters have 16 bits (R2, R30). -/
def Counters.good (c : Counters) : Prop :=
  c.notesIn ≤ 65535 ∧ c.sounded ≤ 65535 ∧ c.dropped ≤ 65535 ∧ c.refused ≤ 65535 ∧ c.cancelled ≤ 65535

/-- The laws of a performance record (R30, R32, R33, R47): at most 10 held keys, at most 8 voices in the mono set, a
wanted count of at most 8, a bend of at most 16383. -/
def Perf.good (x : Perf) : Prop :=
  x.held.length ≤ 10 ∧ x.monoSet.length ≤ 8 ∧ (∀ n, x.wanted = some n → n ≤ 8) ∧ x.bend ≤ 16383 ∧ x.counters.good

/-- The laws of an apply slot (R72, R82): at most 28 entries, of which none is STRUCT, elapsed time up to the total, at
most 20000 ms in all, a taken count of 8 bits. -/
def Morph.good (m : Morph) : Prop :=
  m.entries.length ≤ 28 ∧ (∀ e ∈ m.entries, (descriptor e.index).cls ≠ .struct) ∧ m.elapsed ≤ m.total
    ∧ m.total ≤ 20000 ∧ m.taken ≤ 255

/-- The laws of a control record (R93, R94): at most 5 reversals, a quiet count of at most 1000. -/
def Control.good (c : Control) : Prop := c.reversals.length ≤ 5 ∧ ∀ n, c.noisy = some n → n ≤ 1000

/-- The law of a switch record (R95): a run of at most 8 samples, the highest DEBOUNCE_COUNT. -/
def SwitchSeed.good (x : SwitchSeed) : Prop := ∀ c, x.candidate = some c → c.run ≤ 8

/-- The laws of a measurement (R122): an attempt of 1 to 3, and in COUNT an N of at most 256 with fewer periods
counted. -/
def Measurement.good (m : Measurement) : Prop :=
  1 ≤ m.attempt ∧ m.attempt ≤ 3 ∧
    match m.phase with
    | .count c1 n periods => c1 ≤ 16777215 ∧ n ≤ 256 ∧ periods < n
    | _ => True

/-- A run counts each oscillator once (R136, R144): those decided, two for each queued voice, and those of the current
voice that are not decided are at most 32. -/
def Run.good (r : Run) : Prop :=
  r.passCount + r.failCount + 2 * r.queue.length +
    (match r.current with
      | none => 0
      | some c => if c.second then 1 else 2) ≤ 32

/-- The P values that an anchor entry holds have 16 bits (R131, R132). -/
def CalCandidate.good (c : CalCandidate) : Prop := ∀ x ∈ c.entries.toList, ∀ p, x = some (.passed p) → p ≤ 65535

/-- The laws of a calibration record (R152): counts of 16 bits, and at least four kept anchors within 0 to 7 with P
values of 16 bits. -/
def CalRecord.good (c : CalRecord) : Prop :=
  c.unstableCount ≤ 65535 ∧ c.tuneCount ≤ 65535 ∧
    match c.map with
    | .nominal => True
    | .calibrated first ps => 4 ≤ ps.length ∧ first + ps.length ≤ 8 ∧ ∀ p ∈ ps, p ≤ 65535

/-- The laws of Link N (R186, R188, R189): at most 16 bytes in the FIFO, counters and accumulator of 16 bits. -/
def LineUnit.good (u : LineUnit) : Prop :=
  u.fifo.length ≤ 16 ∧ u.frameErrors ≤ 65535 ∧ u.byteErrors ≤ 65535 ∧ u.fifoOverruns ≤ 65535 ∧ u.accumulator ≤ 65535

/-- No list, queue or count that the document bounds stands above its bound. The two lists that the model adds to the
document's records, `Perf.bound` and `Run.marks`, are not bounded here. -/
structure State.Bounded (s : State) : Prop where
  linkA : s.linkA.good
  linkB : s.linkB.good
  lineUnit : s.lineUnit.good
  /-- The deferred list holds at most 8 entries (R21). -/
  deferred : s.deferred.length ≤ 8
  perf : ∀ p, (s.perfOf p).good
  slots : ∀ p m, s.slotOf p = some m → m.good
  controls : ∀ k, (s.control k).good
  switches : ∀ (i : SwitchId) x, s.switches[i] = some x → x.good
  /-- The skipped-round counter has 16 bits (R87). -/
  skipped : s.scanner.skipped ≤ 65535
  /-- The period counter has 24 bits (R120). -/
  counter : s.periodCounter ≤ 16777215
  measurement : ∀ m, s.measurement = some m → m.good
  run : ∀ r, s.run = some r → r.good
  candidate : ∀ c, s.candidate = some c → c.good
  calibration : ∀ o, (s.cal o).good
  /-- Glide positions and targets lie in 0 to 32512 (R158). -/
  glides : ∀ v, (s.glide v).position ≤ 32512 ∧ ∀ x, (s.glide v).target = some x → x ≤ 32512

/-! ### Values in range (R48, R51, R54, R75, R76, R90, R110) -/

/-- A value lies in the descriptor range of a part parameter (R48). -/
def inRange (i : ParamId) (x : Nat) : Prop := (descriptor i).min ≤ x ∧ x ≤ (descriptor i).max

/-- Every value of a morph entry lies in the range of its parameter (R72). -/
def MorphEntry.good (e : MorphEntry) : Prop :=
  inRange e.index e.start ∧ inRange e.index e.target ∧ inRange e.index e.prior

/-- Every stored value lies in its range: the image, the global parameters, the staging buffers, the apply slots, the
curve template, and the filtered and reported values of the controls. -/
structure State.InRange (s : State) : Prop where
  params : ∀ p i, inRange i (s.param p i)
  globals : ∀ g, globalRanges[g].1 ≤ s.global g ∧ s.global g ≤ globalRanges[g].2
  staging : ∀ l (i : ParamId) x, (s.link l).staging[i] = some x → inRange i x
  slots : ∀ p m, s.slotOf p = some m → ∀ e ∈ m.entries, e.good
  template : s.template.l1 ≤ 1024 ∧ s.template.l2 ≤ 1024 ∧ s.template.l3 ≤ 1024
  controls : ∀ k x, (s.control k).seed = some x → x.filtered ≤ 65520 ∧ x.reported ≤ 4095

/-! ### The balance of the note counters (R30) -/

/-- The number of deferred entries of a part. -/
def State.deferredOf (s : State) (p : PartId) : Nat := (s.deferred.filter fun d => d.part == p).length

/-- The number of successors of kind NOTE of a part. -/
def State.noteSuccessorsOf (s : State) (p : PartId) : Nat :=
  (allVoices.filter fun v => (s.voice v).phase.successor?.any fun su => su.part == p && su.kind == .note).length

/-- Some counter of the part has saturated. -/
def Counters.saturated (c : Counters) : Prop :=
  65535 ≤ c.notesIn ∨ 65535 ≤ c.sounded ∨ 65535 ≤ c.dropped ∨ 65535 ≤ c.refused ∨ 65535 ≤ c.cancelled

/-- The balance of R30 for a part, while no counter has saturated. -/
def State.balanced (s : State) (p : PartId) : Prop :=
  let c := (s.perfOf p).counters
  c.saturated ∨
    c.notesIn = c.sounded + c.dropped + c.refused + c.cancelled + s.deferredOf p + s.noteSuccessorsOf p

/-- The current voice of a run is TUNING (R136). -/
def State.currentTuning (s : State) : Prop :=
  ∀ r c, s.run = some r → r.current = some c → (s.voice c.voice).phase.isTuning = true

/-- Every note counted in notes_in is in exactly one of its six places (R30), and the current voice of a run is TUNING
(R136). -/
structure State.Balanced (s : State) : Prop where
  notes : ∀ p, s.balanced p
  current : s.currentTuning

/-! ### Release windows (R20) -/

/-- A RELEASED voice whose window is 0. -/
def VoicePhase.zeroWindow : VoicePhase → Bool
  | .released _ _ window => window == 0
  | _ => false

/-- No voice stays RELEASED with a window of 0: such a window expires as soon as it starts (R20, assumption log 7). -/
abbrev State.Settled (s : State) : Prop := ∀ v, (s.voice v).phase.zeroWindow = false

end Machine

end Sys2Proof
end

