-- ==== Sys2Proof/Certificates/Slice0/Obligations.lean ====
section
/-! DEFINITION. The statements for the provers. `Given` holds the hypotheses of the statements, one name for each
clause, so that a test can show a state that meets them. -/

open Sys2Proof Sys2Proof.Machine

/-! ### The step, reset, and the laws that every step keeps -/

/-- MODEL'S CHOICE (assumption log 1): the command at the front of the queue is carried out on the state that holds
the rest of the queue. -/
def Obligations.StepTakesFrontCommand : Prop :=
  ∀ (c : Instr) (rest : List Instr) (s : State),
    s.pending = c :: rest → step s = exec c { s with pending := rest }

/-- The values that reset leaves: voices (1.1), lists and counters (1.5, 1.9), performance records (2.1), the image
(3.1 to 3.3), slots and template (4.2, 4.3), panel and bindings (5.1 to 5.7, 6.1, 6.8), tune engine (7.1, 8.1, 8.7),
glides and the round (9.2, 9.10), links (10.2 to 10.8). State.reset stands for the end of a power-on reset (model's
choice, assumption log 15). -/
def Obligations.ResetStateHoldsStatedValues : Prop :=
  (∀ v, (State.reset.voice v).phase = .idle ∧ (State.reset.voice v).part = 0 ∧ (State.reset.voice v).serial = 0
    ∧ (State.reset.voice v).releaseStamp = 0 ∧ (State.reset.voice v).claim = false
    ∧ (State.reset.voice v).clamped = false
    ∧ (State.reset.voice v).gateLine = false ∧ (State.reset.voice v).dampLine = false)
  ∧ State.reset.serial = 0 ∧ State.reset.deferred = []
  ∧ (∀ p, (State.reset.perfOf p).held = [] ∧ (State.reset.perfOf p).selected = none
    ∧ (State.reset.perfOf p).monoSet = [] ∧ (State.reset.perfOf p).wanted = none
    ∧ (State.reset.perfOf p).hold = false ∧ (State.reset.perfOf p).bend = 8192 ∧ (State.reset.perfOf p).bound = []
    ∧ (State.reset.perfOf p).counters =
        { notesIn := 0, sounded := 0, dropped := 0, refused := 0, cancelled := 0 })
  ∧ (∀ p, (List.finRange 40).map (State.reset.param p) =
      [24, 256, 24, 256, 8192, 8192, 16383, 0, 16383, 0, 0, 0, 0, 8192, 16383, 4096, 12000, 0, 0, 2,
       24, 0, 0, 0, 0, 2, 0, 0, 0, 16, 255, 255, 0, 127, 500, 0, 0, 1, 1, 1])
  ∧ (List.finRange 16).map State.reset.global = [256, 2, 20, 2, 3, 0, 500, 2, 0, 0, 0, 0, 0, 0, 0, 0]
  ∧ (∀ p, State.reset.slotOf p = none)
  ∧ State.reset.template = { l1 := 256, l2 := 512, l3 := 768 }
  ∧ (∀ k, State.reset.control k = { seed := none, motion := .still, direction := .none, reversals := [], noisy := none }
    ∧ State.reset.knob k = none)
  ∧ (∀ i : SwitchId, State.reset.switches[i] = none ∧ State.reset.switchActions[i] = .none)
  ∧ State.reset.scanner.roundNumber = 1 ∧ State.reset.scanner.skipped = 0 ∧ State.reset.scanner.period = some 2
  ∧ State.reset.scanner.round = some { address := 0, phase := .settling }
  ∧ State.reset.measurement = none ∧ State.reset.periodCounter = 0 ∧ State.reset.fsel = 0
  ∧ State.reset.run = none ∧ State.reset.candidate = none ∧ State.reset.retune = none
  ∧ (∀ o, State.reset.cal o = { map := .nominal, lastResult := .none, unstableCount := 0, tuneCount := 0 })
  ∧ (∀ v, (State.reset.glide v).position = 0 ∧ (State.reset.glide v).target = none)
  ∧ State.reset.output.slot = some 0
  ∧ (∀ l, (State.reset.link l).slot = none ∧ (State.reset.link l).inProcess = none ∧ (State.reset.link l).overruns = 0
    ∧ (State.reset.link l).overrunMark = false
    ∧ (State.reset.link l).staging = Vector.replicate 40 none
    ∧ (State.reset.link l).queue.stored =
        [{ kind := .resetDone, subject := 0, value1 := 0, value2 := 15, stamp := 0 }]
    ∧ (State.reset.link l).queue.get = 0 ∧ (State.reset.link l).queue.lost = 0
    ∧ (State.reset.link l).queue.mask = 0x10#8 ∧ (State.reset.link l).queue.watermark = 1
    ∧ State.reset.attention l = true)
  ∧ State.reset.lineUnit =
      { fifo := [], parser := .waitStatus, frameErrors := 0, byteErrors := 0, fifoOverruns := 0, accumulator := 0
        errors := { frame := false, byte := false, overrun := false }, pacing := none }
  ∧ State.reset.timestamp = 0

/-- The reset state meets the laws that every step keeps. -/
def Obligations.ResetMeetsEveryLaw : Prop :=
  State.reset.Bounded ∧ State.reset.InRange ∧ State.reset.Balanced ∧ State.reset.Settled

/-- No command takes a list, a queue, a counter or a glide beyond the bound that the document gives it, from a state
whose parameters lie in their ranges: `State.Bounded` names each of them, and the two lists of the model's own that it
leaves out. -/
def Obligations.StepKeepsCapacities : Prop :=
  ∀ s t : State, s.Bounded → s.InRange → step s = .next t → t.Bounded

/-- No command writes a value outside the range of its descriptor: not PARAM_SET, APPLY, a morph step, MORPH_CANCEL,
a take of the panel nor a STEP_PARAM press. -/
def Obligations.StepKeepsValuesInRange : Prop :=
  ∀ s t : State, s.InRange → step s = .next t → t.InRange

/-- Every note counted in notes_in stays in exactly one of the six places of 1.9, through every command. -/
def Obligations.StepKeepsNoteBalance : Prop :=
  ∀ s t : State, s.Balanced → step s = .next t → t.Balanced

/-- MODEL'S CHOICE of the moment (assumption log 7): after every command no voice stands RELEASED with a release
window of 0. -/
def Obligations.StepKeepsZeroWindowsExpired : Prop :=
  ∀ s t : State, s.Settled → step s = .next t → t.Settled

/-! ### Frames (10.1 to 10.3) -/

/-- Writing the frame of a well-formed command and reading it gives the command back. -/
def Obligations.FrameOfCommandReadsBack : Prop :=
  ∀ (i : Instr) (l : Link) (bytes : List Byte),
    i.wf = true → encodeFrame i = some (l, bytes) → decodeFrame l bytes = i

/-- The command that a frame spells does what the link unit does with the bytes of the frame under the checks of
10.1. -/
def Obligations.CommandOfFrameActsAsFrame : Prop :=
  ∀ (l : Link) (bytes : List Byte) (s : State), exec (decodeFrame l bytes) s = .next (s.frame l bytes)

namespace Sys2Proof.Given

/-- No reset runs and the link is busy. -/
abbrev busy (s : State) (l : Link) : Prop := s.resetRun = none ∧ (s.link l).inProcess.isSome = true

/-- A request frame as bytes: a first byte, and it is not 0x00. -/
abbrev requestFrame (frame : List Byte) : Prop := frame.head?.any (· != 0x00#8) = true

end Sys2Proof.Given

/-- A request frame that ends while its link is busy is discarded, whatever it holds: overrun count and mark are all
that it leaves besides the filler bytes, and REQUEST_BUSY_DISCARD says the same by its length. Every frame that ends
while a reset runs is discarded: 0xFF is shifted out and nothing else changes, neither an overrun count nor a mark.
(That a request row given on a busy link or during a reset is such a frame: assumption log 14.) -/
def Obligations.BusyAndResetFramesAreDiscarded : Prop :=
  (∀ (s : State) (l : Link), Given.busy s l →
      let after (n : Nat) : State := s.setLink l { s.link l with
        shifted := List.replicate n 0xFF#8, overruns := min 65535 ((s.link l).overruns + 1), overrunMark := true }
      (∀ (r : Request) (payload : List Byte), exec (commandOf l payload r) s = .next (after (2 + payload.length)))
      ∧ (∀ frame, Given.requestFrame frame → exec (.unknownRequest l frame) s = .next (after frame.length))
      ∧ ∀ n, 1 ≤ n → exec (.requestBusyDiscard l n) s = .next (after n))
  ∧ ∀ (s : State) (l : Link), s.resetRun.isSome = true →
      let after (n : Nat) : State := s.setLink l { s.link l with shifted := List.replicate n 0xFF#8 }
      (∀ (r : Request) (payload : List Byte), exec (commandOf l payload r) s = .next (after (2 + payload.length)))
      ∧ (∀ frame, Given.requestFrame frame → exec (.unknownRequest l frame) s = .next (after frame.length))
      ∧ (∀ n, 1 ≤ n → exec (.fetch l n) s = .next (after n))
      ∧ ∀ n, 1 ≤ n → exec (.frameDuringReset l n) s = .next (after n)

/-- FETCH shifts out 0xFF, then the held reply, PENDING or NO_REPLY, then 0xFF; it removes a held reply exactly when
all its bytes were shifted out. When processing ends the reply replaces what the slot held, with OVERRUN when the mark
was set; the mark is cleared and the link is no longer busy. (REPLY_READY is the model's end of processing: assumption
log 13. That it leaves a link alone which is not busy is the model's: assumption log 2.) -/
def Obligations.RepliesAreFetchedAndPlaced : Prop :=
  (∀ (s : State) (l : Link) (n : Nat), s.resetRun = none → 1 ≤ n →
      ∃ t, exec (.fetch l n) s = .next t ∧ SameButLinks s t ∧ t.link l.other = s.link l.other ∧
        match (s.link l).inProcess, (s.link l).slot with
        | some _, _ =>
          t.link l = { s.link l with
            shifted := (0xFF#8 :: [0x00#8, 0x08#8, 0x00#8, 0x00#8] ++ List.replicate n 0xFF#8).take n }
        | none, none =>
          t.link l = { s.link l with
            shifted := (0xFF#8 :: [0x00#8, 0x07#8, 0x00#8, 0x00#8] ++ List.replicate n 0xFF#8).take n }
        | none, some r =>
          t.link l = { s.link l with
            shifted := (0xFF#8 :: ([r.echo, r.status.code, byte r.flags.code, byte r.data.length] ++ r.data)
              ++ List.replicate n 0xFF#8).take n
            slot := if 5 + r.data.length ≤ n then none else some r })
  ∧ ∀ (s : State) (l : Link),
      ∃ t, exec (.replyReady l) s = .next t ∧ SameButLinks s t ∧ t.link l.other = s.link l.other ∧
        match (s.link l).inProcess with
        | some r =>
          t.link l = { s.link l with
            slot := some { r with flags := { r.flags with overrun := (s.link l).overrunMark } }
            inProcess := none, overrunMark := false }
        | none => t = s

namespace Sys2Proof.Given

/-- The status of a request whose payload has its length, by the checks of its own rule (R7, R24, R25, R26 to R28,
R39, R44, R47, R55, R59, R67, R69, R83, R99, R103, R114, R137, R154, R155, R192, R193). -/
def statusOf (s : State) (l : Link) (r : Request) (payload : List Byte) : Status :=
  let b (n : Nat) : Nat := (payload.getD n 0x00#8).toNat
  let word (n : Nat) : Nat := b n + 256 * b (n + 1)
  let partMask (n : Nat) : Prop := 1 ≤ n ∧ n ≤ 15
  let check (good : Bool) : Status := if good then .ok else .range
  match r with
  | .keyOn | .keyOff => check (b 0 ≤ 3 ∧ b 1 ≤ 127)
  | .hold => check (partMask (b 0) ∧ b 1 ≤ 1)
  | .bend => check (b 0 ≤ 3)
  | .allOff => check (partMask (b 0))
  | .paramSet => check (b 0 ≤ 3 ∧ b 1 ≤ 39 ∨ b 0 = 4 ∧ b 1 ≤ 15)
  | .paramGet => check (1 ≤ b 2 ∧ (b 0 ≤ 3 ∧ b 1 + b 2 ≤ 40 ∨ b 0 = 4 ∧ b 1 + b 2 ≤ 16))
  | .stageWrite => check (b 0 + (payload.length - 1) / 2 ≤ 40)
  | .apply => check (b 0 ≤ 3 ∧ b 3 ≤ 1)
  | .morphCancel => check (b 0 ≤ 3 ∧ b 1 ≤ 1)
  | .mapKnob => check (b 0 ≤ 127 ∧ (b 1 = 15 ∨ b 1 ≤ 3 ∧ b 2 ≤ 39 ∧ b 3 ≤ 2))
  | .mapSwitch => check (b 0 ≤ 63 ∧ (b 1 ≤ 1 ∨ b 1 = 2 ∧ b 2 ≤ 3 ∧ b 3 ≤ 39 ∨ b 1 = 3 ∧ partMask (b 2) ∧ b 3 ≤ 1
      ∨ b 1 = 4 ∧ partMask (b 2)))
  | .panelRead => check (1 ≤ b 2 ∧ (b 0 = 0 ∧ b 2 ≤ 32 ∧ b 1 + b 2 ≤ 128 ∨ b 0 = 1 ∧ b 1 + b 2 ≤ 64))
  | .tuneStart => if word 0 = 0 ∨ 1 < b 2 then .range else if s.run.isSome then .tuneBusy else .ok
  | .calRead => check (b 0 ≤ 31)
  | .calWrite =>
    if 31 < b 0 ∨ 1 < b 1 then .range
    else if (s.voice (Fin.ofNat 16 (b 0 / 2))).phase.isTuning then .voiceBusy
    else check (b 1 = 0 ∨ b 3 ≤ 7 ∧ b 2 + 3 ≤ b 3 ∧ ∀ j, j < b 3 - b 2 →
      word (4 + 2 * j) + 2048 ≤ word (6 + 2 * j) ∧ word (6 + 2 * j) ≤ word (4 + 2 * j) + 8192)
  | .voiceEnable | .voiceDisable => check (1 ≤ word 0)
  | .voiceRead => check (1 ≤ b 1 ∧ b 0 + b 1 ≤ 16)
  | .noticeAck =>
    if b 0 ≤ 31 ∧ (b 0 + 32 - (s.link l).queue.get.val) % 32 < (s.link l).queue.stored.length then .ok else .badIndex
  | .noticeConfig => check (b 0 ≤ 31)
  | .stageClear | .curveSet | .tuneAbort | .noticeRead | .status | .resetVoices | .resetPanel | .resetDevice => .ok

end Sys2Proof.Given

/-- A request frame that fails the frame length check is refused with LENGTH; one that passes it and names no request
of the catalogue is refused with UNKNOWN; a request whose payload length is not the one of the catalogue, or for
CAL_WRITE not the one that its state and anchors name, is refused with LENGTH. Then `Given.statusOf` says which request
is refused with RANGE, TUNE_BUSY, VOICE_BUSY or BAD_INDEX; any other is OK. A refusal changes no other state. A frame
without a byte changes nothing at all. -/
def Obligations.FailedFrameChecksAreRefused : Prop :=
  (∀ (s : State) (l : Link) (code : Byte) (rest : List Byte), s.ready l → code ≠ 0x00#8 →
    let bad := rest = [] ∨ 250 < (rest.headD 0).toNat ∨ rest.length ≠ 1 + (rest.headD 0).toNat
    ∃ t, exec (.unknownRequest l (code :: rest)) s = .next t ∧
      ((bad → SameButLinks s t ∧ Took s t l (1 + rest.length) (refusal code .length)) ∧
       (¬bad → Request.ofCode code = none →
        SameButLinks s t ∧ Took s t l (1 + rest.length) (refusal code .unknown))))
  ∧ (∀ (s : State) (l : Link), exec (.emptyFrame l) s = .next s)
  ∧ ∀ (s : State) (l : Link) (r : Request) (payload : List Byte), s.ready l →
      let status := if lengthOk r payload = false then Status.length else Given.statusOf s l r payload
      ∃ t, exec (commandOf l payload r) s = .next t ∧
        (status ≠ .ok → SameButLinks s t ∧ Took s t l (2 + payload.length) (refusal r.code status))
        ∧ (status = .ok → r ≠ .resetDevice →
          (t.link l).inProcess.map (fun x => (x.echo, x.status)) = some (r.code, .ok))

/-- Whatever a request is refused for, it changes no state and posts no notice. PARAM_GET, PANEL_READ, CAL_READ,
VOICE_READ and STATUS change nothing but the reply of their own link, on any payload. -/
def Obligations.RefusalsAndReadingsChangeNothing : Prop :=
  (∀ (s t : State) (l : Link) (r : Request) (payload : List Byte) (rep : Reply), s.ready l →
      exec (commandOf l payload r) s = .next t → (t.link l).inProcess = some rep → rep.status ≠ .ok →
      SameButLinks s t ∧ Took s t l (2 + payload.length) (refusal r.code rep.status))
  ∧ ∀ (s : State) (l : Link) (r : Request) (payload : List Byte), s.ready l →
      r ∈ [Request.paramGet, .panelRead, .calRead, .voiceRead, .status] →
      ∃ t rep, exec (commandOf l payload r) s = .next t ∧ SameButLinks s t
        ∧ Took s t l (2 + payload.length) rep ∧ rep.echo = r.code

/-- A request on one link touches nothing of the other link but its notice queue, unless it begins a reset. -/
def Obligations.RequestLeavesOtherLinkAlone : Prop :=
  ∀ (s t : State) (l : Link) (r : Request) (payload : List Byte), r ≠ .resetDevice →
    exec (commandOf l payload r) s = .next t →
    t.link l.other = { s.link l.other with queue := (t.link l.other).queue }

/-! ### Notes (chapters 1 and 2) -/

namespace Sys2Proof.Given

/-- A note of part p and key k passes the filter: the part is enabled, has a budget above 0, and its key range holds
the key. -/
abbrev passesFilter (s : State) (p : PartId) (k : Key) : Prop :=
  s.param p pPartEnable ≠ 0 ∧ s.param p pKeyLow ≤ k.val ∧ k.val ≤ s.param p pKeyHigh ∧ s.param p pMaxVoices ≠ 0

/-- A note of part p and key k waits: a deferred entry or a successor holds it (R8, case d). -/
abbrev waits (s : State) (p : PartId) (k : Key) : Prop :=
  (∃ d ∈ s.deferred, d.part = p ∧ d.key = k)
    ∨ ∃ v, ((s.voice v).phase.successor?.any fun su => su.part == p && su.key == k) = true

/-- A note that passes the filter of a POLY part (R8). -/
abbrev polyNote (s : State) (l : Link) (p : PartId) (k : Key) : Prop :=
  s.ready l ∧ passesFilter s p k ∧ s.param p pVoiceMode = 0 ∧ ¬waits s p k

/-- A note that passes the filter of a POLY part where no voice is GATED on its key. -/
abbrev freshPolyKey (s : State) (l : Link) (p : PartId) (k : Key) : Prop :=
  polyNote s l p k ∧ ∀ v, ¬((s.voice v).gatedFor p = true ∧ (s.voice v).key = k.val)

/-- v is the IDLE voice of the part's mask that is oldest by release stamp, the lowest index at a tie. -/
abbrev oldestIdle (s : State) (p : PartId) (v : VoiceId) : Prop :=
  s.inMask p v = true ∧ (s.voice v).phase = .idle ∧
    ∀ w, s.inMask p w = true → (s.voice w).phase = .idle →
      (w < v → isOlder (s.voice v).releaseStamp (s.voice w).releaseStamp = true)
      ∧ (v < w → isOlder (s.voice w).releaseStamp (s.voice v).releaseStamp = false)

/-- v is the RELEASED voice of the part's mask that is oldest by release start, the lowest index at a tie. -/
abbrev oldestReleased (s : State) (p : PartId) (v : VoiceId) : Prop :=
  (s.voice v).phase.isReleased = true ∧ s.inMask p v = true
    ∧ ∀ w, s.inMask p w = true → (s.voice w).phase.isReleased = true →
      (w < v → isOlder (s.voice v).releaseStart (s.voice w).releaseStart = true)
      ∧ (v < w → isOlder (s.voice w).releaseStart (s.voice v).releaseStart = false)

/-- v is a victim for a note of part p: a GATED voice of its mask, p's own, or below p's budget that of a part whose
load is above its RESERVE (R13). -/
abbrev isVictim (s : State) (p : PartId) (v : VoiceId) : Prop :=
  s.inMask p v = true ∧ (s.voice v).phase.isGated = true
    ∧ ((s.voice v).part = p
      ∨ s.load p < s.param p pMaxVoices ∧ s.param (s.voice v).part pReserve < s.load (s.voice v).part)

/-- STEAL_POLICY of part p prefers victim v to victim w: OLDEST by serial, QUIETEST, LOWEST, HIGHEST, the lower index
at a tie (R13). -/
def prefers (s : State) (p : PartId) (v w : VoiceId) : Prop :=
  let x := s.voice v
  let y := s.voice w
  match s.param p pStealPolicy with
  | 0 => if w < v then isOlder x.serial y.serial = true else isOlder y.serial x.serial = false
  | 1 => x.velocity < y.velocity ∨ (x.velocity = y.velocity ∧ v ≤ w)
  | 2 => x.key < y.key ∨ (x.key = y.key ∧ v ≤ w)
  | _ => y.key < x.key ∨ (x.key = y.key ∧ v ≤ w)

/-- No voice of the part's mask is IDLE or RELEASED, unless the part is at its budget, where they do not count. -/
abbrev noFreeVoice (s : State) (p : PartId) : Prop :=
  s.load p < s.param p pMaxVoices →
    ∀ v, s.inMask p v = true → (s.voice v).phase ≠ .idle ∧ (s.voice v).phase.isReleased = false

/-- A new key of a POLY part below its budget, with v its oldest IDLE voice (R11). -/
abbrev keyOnIdle (s : State) (l : Link) (p : PartId) (k : Key) (v : VoiceId) : Prop :=
  freshPolyKey s l p k ∧ s.load p < s.param p pMaxVoices ∧ oldestIdle s p v

/-- A note of a POLY part where v is the one voice GATED on its key (R9). -/
abbrev keyOnSame (s : State) (l : Link) (p : PartId) (k : Key) (v : VoiceId) (n : Note) (sustained : Bool)
    (pulse : Option Nat) : Prop :=
  (s.voice v).phase = .gated n sustained pulse ∧ (s.voice v).part = p ∧ n.key = k ∧ polyNote s l p k
    ∧ ∀ w, w ≠ v → ¬((s.voice w).gatedFor p = true ∧ (s.voice w).key = k.val)

/-- A note that is filtered (R8). -/
abbrev keyOnFiltered (s : State) (l : Link) (p : PartId) (k : Key) : Prop :=
  s.ready l ∧ (s.param p pPartEnable = 0 ∨ k.val < s.param p pKeyLow ∨ s.param p pKeyHigh < k.val
    ∨ s.param p pMaxVoices = 0 ∨ (s.param p pVoiceMode = 0 ∧ waits s p k))

/-- Below its budget, a part whose mask holds no IDLE voice takes v, its oldest RELEASED voice (R12). -/
abbrev takesReleased (s : State) (p : PartId) (v : VoiceId) : Prop :=
  oldestReleased s p v ∧ s.load p < s.param p pMaxVoices ∧ ∀ w, s.inMask p w = true → (s.voice w).phase ≠ .idle

/-- A new key of a POLY part that takes a RELEASED voice (R12). -/
abbrev keyOnReleased (s : State) (l : Link) (p : PartId) (k : Key) (v : VoiceId) (n : Note) : Prop :=
  (s.voice v).phase.note? = some n ∧ takesReleased s p v ∧ freshPolyKey s l p k

/-- A new key of a POLY part without a free voice, with v the victim that STEAL_POLICY picks (R13). -/
abbrev keyOnSteal (s : State) (l : Link) (p : PartId) (k : Key) (v : VoiceId) (n : Note) : Prop :=
  (s.voice v).phase.note? = some n ∧ isVictim s p v ∧ freshPolyKey s l p k ∧ noFreeVoice s p
    ∧ ∀ w, isVictim s p w → prefers s p v w

/-- A new key of a POLY part without a free voice and without a victim (R14). -/
abbrev keyOnNone (s : State) (l : Link) (p : PartId) (k : Key) : Prop :=
  freshPolyKey s l p k ∧ noFreeVoice s p ∧ ∀ v, ¬isVictim s p v

/-- The first three conditions of R14: the part defers, with a timeout above 0, and a voice of its mask may free soon.
-/
abbrev mayDefer (s : State) (p : PartId) : Prop :=
  s.param p pDeferEnable = 1 ∧ 0 < s.global gDeferTimeout
    ∧ ∃ v, s.inMask p v = true ∧ ((s.voice v).phase.isDamping = true ∨ (s.voice v).phase.isTuning = true)

/-- A note of a MONO or UNISON part that holds keys. -/
abbrev monoKeyOn (s : State) (l : Link) (p : PartId) (k : Key) : Prop :=
  s.ready l ∧ passesFilter s p k ∧ s.param p pVoiceMode ≠ 0 ∧ (s.perfOf p).held ≠ []

/-- The first key of a MONO or UNISON part. -/
abbrev firstKey (s : State) (l : Link) (p : PartId) (k : Key) : Prop :=
  s.ready l ∧ passesFilter s p k ∧ s.param p pVoiceMode ≠ 0 ∧ (s.perfOf p).held = []

/-- A record after the voices that `out` names left its mono set (R41): a set that they empty empties the held-key list
with it. -/
def leftSet (perf : Perf) (out : VoiceId → Bool) : Perf :=
  let set := perf.monoSet.filter fun v => !out v
  if perf.monoSet ≠ [] ∧ set = [] then { perf with held := [], selected := none, monoSet := [], wanted := none }
  else { perf with monoSet := set }

/-- Voice v is a victim for a pick of the mono set of part p, after the voices of `taken` (R35): below the budget none
of p's own, at the budget p's own that were not picked already. -/
abbrev setVictim (s : State) (p : PartId) (taken : List VoiceId) (v : VoiceId) : Prop :=
  isVictim s p v ∧ v ∉ taken ∧ (s.load p < s.param p pMaxVoices → (s.voice v).part ≠ p)

/-- Without a free voice, a pick for the mono set of part p takes v, the victim that STEAL_POLICY picks (R35). -/
abbrev takesVictim (s : State) (p : PartId) (taken : List VoiceId) (v : VoiceId) : Prop :=
  setVictim s p taken v ∧ noFreeVoice s p ∧ ∀ w, setVictim s p taken w → prefers s p v w

/-- The state after an IDLE voice sounds the first key e of part p (R11, R35). -/
def sounds (s : State) (p : PartId) (e : HeldKey) (v : VoiceId) : State :=
  { s with
    serial := s.serial + 1
    voices := s.voices.set v { s.voice v with
      phase := .gated { key := e.key, velocity := e.velocity } false none, part := p, serial := s.serial + 1
      clamped := false }
    glides := s.glides.set v { position := 256 * e.key.val, target := none } }

/-- The state after voice v, which holds a note, was stolen for a note of part p (R15, R41): it damps for DAMP_TIME with
its old note and its successor, which joins p's binding order, and leaves the mono set that it was in. -/
def stolen (s : State) (p : PartId) (su : Successor) (v : VoiceId) : State :=
  { s with
    voices := s.voices.set v { s.voice v with
      phase := match (s.voice v).phase.note? with
        | some n => .damping n (some su) false (s.global gDampTime)
        | none => (s.voice v).phase }
    perf := Vector.ofFn fun q =>
      let left := leftSet (s.perfOf q) (· == v)
      if q = p then { left with bound := left.bound ++ [v] } else left }

/-- `post` holds of the voices picked and the state left when up to so many voices are picked, one at a time, for the
mono set that the first key e of part p obtains, after the voices of `taken` (R35): the oldest IDLE voice sounds at
once, the oldest RELEASED voice or else a victim is stolen with a successor of kind SET, and without one the picking
stops. -/
def obtains (p : PartId) (e : HeldKey) (post : List VoiceId → State → Prop) : Nat → List VoiceId → State → Prop
  | 0, taken, s => post taken s
  | n + 1, taken, s =>
    let su : Successor := { part := p, key := e.key, velocity := e.velocity, source := e.source, kind := .set }
    (∀ v, s.load p < s.param p pMaxVoices → oldestIdle s p v →
      obtains p e post n (taken ++ [v]) (sounds s p e v))
    ∧ (∀ v, takesReleased s p v ∨ takesVictim s p taken v →
      obtains p e post n (taken ++ [v]) (stolen s p su v))
    ∧ (noFreeVoice s p → (∀ v, ¬setVictim s p taken v) → post taken s)

/-- The mono set of a part: no voice twice, each GATED for the part or DAMPING with a SET successor of it. -/
abbrev goodSet (s : State) (p : PartId) : Prop :=
  (s.perfOf p).monoSet.Nodup ∧ ∀ v ∈ (s.perfOf p).monoSet,
    (s.voice v).gatedFor p = true
    ∨ ((s.voice v).phase.successor?.any fun su => su.part == p && su.kind == .set) = true

/-- A MONO or UNISON part with a mono set, a release window above 0, and no zero window anywhere. -/
abbrev setSounds (s : State) (l : Link) (p : PartId) : Prop :=
  s.ready l ∧ s.Settled ∧ s.param p pVoiceMode ≠ 0 ∧ s.param p pReleaseWindow ≠ 0 ∧ goodSet s p

/-- The entry of a held-key list that KEY_PRIORITY selects (R34). -/
def selects (priority : Nat) (held : List HeldKey) (e : HeldKey) : Prop :=
  match priority with
  | 0 => held.getLast? = some e
  | 1 => e ∈ held ∧ ∀ x ∈ held, x ≠ e → e.key < x.key
  | _ => e ∈ held ∧ ∀ x ∈ held, x ≠ e → x.key < e.key

/-- What a part's mono set does when its held-key list becomes `held`, under a KEY_PRIORITY; `perf` is the record with
the list and the selected key as they were. An empty list dissolves the set (R40); a selected key that stays leaves the
voices as they are; another one is followed (R37). The voices of a set take new serials in the order of the set (model's
choice, assumption log 26). -/
def setFollows (s t : State) (p : PartId) (priority : Nat) (held : List HeldKey) (perf : Perf) : Prop :=
  let set := (s.perfOf p).monoSet
  let gated := set.filter fun v => (s.voice v).phase.isGated
  let rests : Prop := t.serial = s.serial ∧ t.glides = s.glides
  (∀ q, q ≠ p → t.perfOf q = s.perfOf q)
  ∧ (∀ v, v ∉ set → t.voice v = s.voice v ∧ t.glide v = s.glide v)
  ∧ (held = [] → rests
    ∧ t.perfOf p = { perf with
        held := [], selected := none, monoSet := [], wanted := none
        bound := perf.bound.filter fun v => !(set.contains v && (s.voice v).phase.isDamping) }
    ∧ ∀ v ∈ set, t.voice v =
        match (s.voice v).phase with
        | .gated n _ _ => { s.voice v with phase := .released n s.timestamp (s.param p pReleaseWindow) }
        | .damping n _ dp timer => { s.voice v with phase := .damping n none dp timer }
        | _ => s.voice v)
  ∧ ∀ e, selects priority held e →
    t.perfOf p = { perf with held, selected := some e.key }
    ∧ (perf.selected = some e.key → rests ∧ t.voices = s.voices)
    ∧ (perf.selected ≠ some e.key →
      t.serial = s.serial + (if s.param p pLegato = 0 then BitVec.ofNat 16 gated.length else 0)
      ∧ ∀ v ∈ set,
        (t.voice v =
          match (s.voice v).phase with
          | .gated n sustained pulse =>
            if s.param p pLegato = 0 then
              { s.voice v with
                phase := .gated { key := e.key, velocity := e.velocity } sustained (some 1000)
                serial := s.serial + BitVec.ofNat 16 (gated.idxOf v + 1), clamped := false }
            else { s.voice v with phase := .gated { n with key := e.key } sustained pulse, clamped := false }
          | .damping n (some su) dp timer =>
            { s.voice v with
              phase := .damping n (some { su with key := e.key, velocity := e.velocity, source := e.source }) dp timer }
          | _ => s.voice v)
        ∧ t.glide v =
          if (s.voice v).phase.isGated = true then
            (if s.param p pGlideRate = 0 ∨ (s.glide v).position = 256 * e.key.val then
              { position := 256 * e.key.val, target := none }
            else { position := (s.glide v).position, target := some (256 * e.key.val) })
          else s.glide v)

/-- What a part's mono set does at a KEY_ON of its selected key with LEGATO 0, whose entry is e (R38); `perf` is the
record with the new list. The voices take new serials in the order of the set (model's choice, assumption log 26). -/
def setRefreshes (s t : State) (p : PartId) (e : HeldKey) (perf : Perf) : Prop :=
  let set := (s.perfOf p).monoSet
  let gated := set.filter fun v => (s.voice v).phase.isGated
  t.perfOf p = perf ∧ (∀ q, q ≠ p → t.perfOf q = s.perfOf q)
  ∧ t.serial = s.serial + BitVec.ofNat 16 gated.length ∧ t.glides = s.glides
  ∧ (∀ v, v ∉ set → t.voice v = s.voice v)
  ∧ ∀ v ∈ set, t.voice v =
      match (s.voice v).phase with
      | .gated n sustained _ =>
        { s.voice v with
          phase := .gated { n with velocity := e.velocity } sustained (some 1000)
          serial := s.serial + BitVec.ofNat 16 (gated.idxOf v + 1) }
      | .damping n (some su) dp timer =>
        { s.voice v with
          phase := .damping n (some { su with velocity := e.velocity, source := e.source }) dp timer }
      | _ => s.voice v

/-- The first GATED voice of (p, k) that is not sustained, in a POLY part. -/
abbrev releasable (s : State) (l : Link) (p : PartId) (k : Key) (v : VoiceId) (n : Note) (pulse : Option Nat) :
    Prop :=
  s.ready l ∧ s.param p pVoiceMode = 0 ∧ (s.voice v).phase = .gated n false pulse ∧ (s.voice v).part = p ∧ n.key = k
    ∧ ∀ w, w < v →
      ¬((s.voice w).gatedFor p = true ∧ (s.voice w).key = k.val ∧ (s.voice w).phase.isSustained = false)

/-- KEY_OFF under hold. -/
abbrev keyOffHeld (s : State) (l : Link) (p : PartId) (k : Key) (v : VoiceId) (n : Note) (pulse : Option Nat) :
    Prop :=
  releasable s l p k v n pulse ∧ (s.perfOf p).hold = true ∧ s.param p pHoldEnable = 1

/-- KEY_OFF without hold, where the part's release window is above 0. -/
abbrev keyOffFree (s : State) (l : Link) (p : PartId) (k : Key) (v : VoiceId) (n : Note) (pulse : Option Nat) :
    Prop :=
  releasable s l p k v n pulse ∧ s.Settled ∧ ¬((s.perfOf p).hold = true ∧ s.param p pHoldEnable = 1)
    ∧ s.param p pReleaseWindow ≠ 0

/-- KEY_OFF of a POLY part where no GATED voice matches that is not sustained. -/
abbrev keyOffSilent (s : State) (l : Link) (p : PartId) (k : Key) : Prop :=
  s.ready l ∧ s.param p pVoiceMode = 0
    ∧ ∀ v, ¬((s.voice v).gatedFor p = true ∧ (s.voice v).key = k.val ∧ (s.voice v).phase.isSustained = false)

/-- KEY_OFF of a POLY part where no voice matches; the deferred entry at a place is the first of (p, k). -/
abbrev keyOffDeferred (s : State) (l : Link) (p : PartId) (k : Key) (place : Nat) (d : Deferred) : Prop :=
  keyOffSilent s l p k ∧ s.deferred[place]? = some d ∧ d.part = p ∧ d.key = k
    ∧ ∀ x ∈ s.deferred.take place, ¬(x.part = p ∧ x.key = k)

/-- KEY_OFF of a POLY part where no voice and no deferred entry matches; v is the first voice with a successor of kind
NOTE for (p, k). -/
abbrev keyOffWaiting (s : State) (l : Link) (p : PartId) (k : Key) (v : VoiceId) (n : Note) (su : Successor)
    (dp : Bool) (timer : Nat) : Prop :=
  (s.voice v).phase = .damping n (some su) dp timer ∧ su.part = p ∧ su.key = k ∧ su.kind = .note
    ∧ keyOffSilent s l p k ∧ (∀ d ∈ s.deferred, ¬(d.part = p ∧ d.key = k))
    ∧ ∀ w, w < v →
      ((s.voice w).phase.successor?.any fun x => x.part == p && x.key == k && x.kind == .note) = false

/-- KEY_OFF of a POLY part where nothing matches. -/
abbrev keyOffNothing (s : State) (l : Link) (p : PartId) (k : Key) : Prop :=
  keyOffSilent s l p k ∧ (∀ d ∈ s.deferred, ¬(d.part = p ∧ d.key = k))
    ∧ ∀ v, ((s.voice v).phase.successor?.any fun su => su.part == p && su.key == k && su.kind == .note) = false

/-- A part mask of 1 to 15, and no zero window. -/
abbrev partMask (s : State) (l : Link) (mask : BitVec 4) : Prop := s.ready l ∧ mask ≠ 0 ∧ s.Settled

/-- The named parts are cleared of their notes (R25): their GATED voices are released, their deferred entries and
successors cancelled, of which the notes are counted, and their held-key lists are emptied; hold and bend stay, and the
other parts as they are. -/
def partsCleared (s t : State) (named : PartId → Bool) : Prop :=
  t.serial = s.serial ∧ t.glides = s.glides ∧ t.deferred = (s.deferred.filter fun d => !named d.part)
  ∧ (∀ v, t.voice v =
      match (s.voice v).phase with
      | .gated n _ _ =>
        if named (s.voice v).part = true then
          { s.voice v with phase := .released n s.timestamp (s.param (s.voice v).part pReleaseWindow) }
        else s.voice v
      | .damping n (some su) dp timer =>
        if named su.part = true then { s.voice v with phase := .damping n none dp timer } else s.voice v
      | _ => s.voice v)
  ∧ ∀ p, t.perfOf p =
      let perf := s.perfOf p
      if named p = true then
        { perf with
          held := [], selected := none, monoSet := [], wanted := none
          counters := { perf.counters with
            cancelled := min 65535 (perf.counters.cancelled + s.deferredOf p + s.noteSuccessorsOf p) }
          bound := perf.bound.filter fun v => !(s.voice v).successorOf p }
      else perf

/-- The named parts have a release window above 0, and no zero window stands open. -/
abbrev opensWindows (s : State) (mask : BitVec 4) : Prop :=
  s.Settled ∧ ∀ p : PartId, mask.getLsbD p.val = true → s.param p pReleaseWindow ≠ 0

/-- ALL_OFF finds nothing of the part (R25). -/
def silent (s : State) (p : PartId) : Bool :=
  (allVoices.all fun v => !((s.voice v).gatedFor p || (s.voice v).successorOf p))
    && (s.deferred.all fun d => d.part != p) && (s.perfOf p).held.isEmpty

/-- HOLD OFF of one POLY part whose hold flag is on, with a release window above 0. -/
abbrev holdOff (s : State) (l : Link) (p : PartId) : Prop :=
  s.ready l ∧ s.Settled ∧ s.param p pVoiceMode = 0 ∧ (s.perfOf p).hold = true ∧ s.param p pReleaseWindow ≠ 0

end Sys2Proof.Given

/-- KEY_ON in a POLY part that finds its voice at once. Below the budget a new key takes the oldest IDLE voice: it goes
GATED on the note with a new serial and without glide. A key that a voice sounds already is retriggered under REUSE: the
voice takes the velocity, a new serial and a pulse of 1 ms, and is sustained no longer. Each is counted in notes_in and
sounded, and nothing else changes. Under NEW that voice is released, and the note goes on as a new note of the state so
left: what it does there is the IDLE clause here and KeyOnStealsDefersOrDrops. A velocity of 0 is taken as 1, one above
127 as 127 with CLAMPED. -/
def Obligations.KeyOnTakesIdleOrSoundingVoice : Prop :=
  ∀ (s : State) (l : Link) (p : PartId) (k : Key) (v : VoiceId) (velocity : Nat), velocity < 256 →
    let given := max 1 (min 127 velocity)
    let command := Instr.keyOn l [byte p, byte k, byte velocity]
    let takes (voice : Voice) (glide : Glide) : Prop :=
      ∃ t, exec command s = .next t
        ∧ t = { s with
            voices := t.voices, serial := s.serial + 1, perf := t.perf, glides := t.glides
            linkA := t.linkA, linkB := t.linkB }
        ∧ t.voice v = { voice with serial := s.serial + 1, clamped := false }
        ∧ (∀ w, w ≠ v → t.voice w = s.voice w)
        ∧ t.glide v = glide ∧ (∀ w, w ≠ v → t.glide w = s.glide w)
        ∧ t.perfOf p = { s.perfOf p with counters := { (s.perfOf p).counters with
            notesIn := min 65535 ((s.perfOf p).counters.notesIn + 1)
            sounded := min 65535 ((s.perfOf p).counters.sounded + 1) } }
        ∧ (∀ q, q ≠ p → t.perfOf q = s.perfOf q)
        ∧ Took s t l 5 (okReply 0x01 (decide (127 < velocity)) false [])
    (Given.keyOnIdle s l p k v →
      takes { s.voice v with phase := .gated { key := k, velocity := given } false none, part := p }
        { position := 256 * k.val, target := none })
    ∧ ∀ n sustained pulse, Given.keyOnSame s l p k v n sustained pulse →
      (s.param p pRetrigger = 0 →
        takes { s.voice v with phase := .gated { n with velocity := given } false (some 1000) } (s.glide v))
      ∧ (s.param p pRetrigger ≠ 0 → s.Settled → s.param p pReleaseWindow ≠ 0 →
        let released : Voice := { s.voice v with phase := .released n s.timestamp (s.param p pReleaseWindow) }
        ∃ t, exec command s = .next t ∧ exec command { s with voices := s.voices.set v released } = .next t)

/-- A note for a disabled part, outside the part's key range, for a part with no budget, or of a POLY part where the
same note waits already, is filtered: it is counted in notes_in and refused, the reply carries NOTHING, and nothing
else changes. -/
def Obligations.KeyOnFilteredIsCountedRefused : Prop :=
  ∀ (s : State) (l : Link) (p : PartId) (k : Key) (velocity : Nat),
    Given.keyOnFiltered s l p k → velocity < 256 →
    ∃ t, exec (.keyOn l [byte p, byte k, byte velocity]) s = .next t
      ∧ t = { s with perf := t.perf, linkA := t.linkA, linkB := t.linkB }
      ∧ t.perfOf p = { s.perfOf p with counters := { (s.perfOf p).counters with
          notesIn := min 65535 ((s.perfOf p).counters.notesIn + 1)
          refused := min 65535 ((s.perfOf p).counters.refused + 1) } }
      ∧ (∀ q, q ≠ p → t.perfOf q = s.perfOf q)
      ∧ Took s t l 5 (okReply 0x01 (decide (127 < velocity)) true [])

/-- KEY_ON of a new key in a POLY part that finds no voice to sound at once. Below the budget, without an IDLE voice,
it steals the RELEASED voice of the mask that is oldest by release start. Without one, or at the budget, it steals the
victim that STEAL_POLICY picks. The voice damps for DAMP_TIME with its old note and with the new one as its successor
of kind NOTE, and leaves the mono set that it was in; a set that it empties empties the held-key list with it. The note
is counted in notes_in only. Without a victim the note joins the deferred list at its end, with the timestamp as its
arrival and DEFER_TIMEOUT, when the part defers, a voice of its mask damps or is TUNING, and the list holds fewer than 8
entries; otherwise it is counted dropped, and NOTE_DROPPED with LIST_FULL or NO_VOICE goes to the subscribers of NOTES.
Nothing else changes. (The victims below the budget: assumption log 21.) -/
def Obligations.KeyOnStealsDefersOrDrops : Prop :=
  ∀ (s : State) (l : Link) (p : PartId) (k : Key) (velocity : Nat), velocity < 256 →
    let given := max 1 (min 127 velocity)
    let command := Instr.keyOn l [byte p, byte k, byte velocity]
    let reply := okReply 0x01 (decide (127 < velocity)) false []
    let perf := s.perfOf p
    let counters : Counters := { perf.counters with notesIn := min 65535 (perf.counters.notesIn + 1) }
    let steals (v : VoiceId) (n : Note) : Prop :=
      ∃ t, exec command s = .next t
        ∧ t = { s with voices := t.voices, perf := t.perf, linkA := t.linkA, linkB := t.linkB }
        ∧ t.voice v = { s.voice v with
            phase := .damping n
              (some { part := p, key := k, velocity := given, source := Source.ofLink l, kind := .note })
              false (s.global gDampTime) }
        ∧ (∀ w, w ≠ v → t.voice w = s.voice w)
        ∧ t.perfOf p = { Given.leftSet perf (· == v) with counters, bound := perf.bound ++ [v] }
        ∧ (∀ q, q ≠ p → t.perfOf q = Given.leftSet (s.perfOf q) (· == v))
        ∧ Took s t l 5 reply
    let drops (reason : Nat) : Prop :=
      let told (u : LinkUnit) : LinkUnit := u.told (u.queue.mask.getLsbD 0)
        { kind := .noteDropped, subject := p, value1 := k, value2 := reason, stamp := s.timestamp }
      ∃ t, exec command s = .next t
        ∧ t = { s with perf := t.perf, linkA := t.linkA, linkB := t.linkB }
        ∧ t.perfOf p = { perf with counters := { counters with dropped := min 65535 (perf.counters.dropped + 1) } }
        ∧ (∀ q, q ≠ p → t.perfOf q = s.perfOf q)
        ∧ t.link l = told ((s.link l).took 5 reply) ∧ t.link l.other = told (s.link l.other)
    (∀ v n, Given.keyOnReleased s l p k v n ∨ Given.keyOnSteal s l p k v n → steals v n)
    ∧ (Given.keyOnNone s l p k →
      (Given.mayDefer s p → s.deferred.length < 8 →
        ∃ t, exec command s = .next t
          ∧ t = { s with
              deferred := s.deferred ++ [{ part := p, key := k, velocity := given, arrival := s.timestamp
                                           timeout := s.global gDeferTimeout }]
              perf := t.perf, linkA := t.linkA, linkB := t.linkB }
          ∧ t.perfOf p = { perf with counters } ∧ (∀ q, q ≠ p → t.perfOf q = s.perfOf q)
          ∧ Took s t l 5 reply)
      ∧ (Given.mayDefer s p → 8 ≤ s.deferred.length → drops 1)
      ∧ (¬Given.mayDefer s p → drops 0))

/-- A note of a MONO or UNISON part that holds keys is stored at the tail of its held-key list: a key held already is
taken from its place, and the oldest of ten keys makes room. The note is counted in notes_in and sounded; the deferred
list and the other parts are not touched. Then the selection is made again. A repeated selected key under LEGATO 0 gives
each GATED voice of the mono set its velocity, a new serial and a pulse, and each SET successor its velocity and source;
another selected key is followed by the set; otherwise the voices stay as they are. (The order of the new serials:
assumption log 26.) -/
def Obligations.MonoKeyOnStoresKeyAtTail : Prop :=
  ∀ (s : State) (l : Link) (p : PartId) (k : Key) (velocity : Nat),
    Given.monoKeyOn s l p k → velocity < 256 →
    let e : HeldKey :=
      { key := k, velocity := max 1 (min 127 velocity), source := Source.ofLink l, sustained := false }
    let perf := s.perfOf p
    let held := if perf.held.any (fun x => x.key == k) = true then perf.held.filter (fun x => x.key != k) ++ [e]
      else if perf.held.length < 10 then perf.held ++ [e] else perf.held.tail ++ [e]
    let stored : Perf := { perf with
      held, counters := { perf.counters with
        notesIn := min 65535 (perf.counters.notesIn + 1), sounded := min 65535 (perf.counters.sounded + 1) } }
    ∃ t, exec (.keyOn l [byte p, byte k, byte velocity]) s = .next t
      ∧ t = { s with
          voices := t.voices, serial := t.serial, perf := t.perf, glides := t.glides
          linkA := t.linkA, linkB := t.linkB }
      ∧ t.perfOf p = { stored with selected := (t.perfOf p).selected }
      ∧ (∀ q, q ≠ p → t.perfOf q = s.perfOf q)
      ∧ Took s t l 5 (okReply 0x01 (decide (127 < velocity)) false [])
      ∧ (Given.goodSet s p → ∀ x, Given.selects (s.param p pKeyPriority) held x →
        let repeated := x.key = k ∧ perf.selected = some k ∧ s.param p pLegato = 0
        (repeated → Given.setRefreshes s t p e stored)
        ∧ (¬repeated → Given.setFollows s t p (s.param p pKeyPriority) held stored))

/-- The first key of a MONO or UNISON part, whose held-key list is empty, obtains the mono set: one voice for MONO, up
to the smaller of UNISON_COUNT and MAX_VOICES for UNISON, picked one at a time as `Given.obtains` says. With a voice
obtained the key is stored, selected and counted sounded, and a set obtained short posts UNISON_SHORT; a key that
obtains no voice is not stored, is counted dropped, and NOTE_DROPPED with NO_VOICE is posted. The notices go to the
subscribers of NOTES. (The victims below the budget: assumption log 21.) -/
def Obligations.FirstKeyObtainsMonoSet : Prop :=
  ∀ (s : State) (l : Link) (p : PartId) (k : Key) (velocity : Nat), Given.firstKey s l p k → velocity < 256 →
    let e : HeldKey :=
      { key := k, velocity := max 1 (min 127 velocity), source := Source.ofLink l, sustained := false }
    let wanted := if s.param p pVoiceMode = 2 then min (s.param p pUnisonCount) (s.param p pMaxVoices) else 1
    let counters (sounds : Bool) : Counters :=
      let c := (s.perfOf p).counters
      { c with
        notesIn := min 65535 (c.notesIn + 1)
        sounded := if sounds then min 65535 (c.sounded + 1) else c.sounded
        dropped := if sounds then c.dropped else min 65535 (c.dropped + 1) }
    ∃ t, exec (.keyOn l [byte p, byte k, byte velocity]) s = .next t
      ∧ Given.obtains p e (fun taken u =>
          let set := allVoices.filter fun v => taken.contains v
          let links (f : LinkUnit → LinkUnit) : Prop :=
            t.link l = f ((s.link l).took 5 (okReply 0x01 (decide (127 < velocity)) false []))
              ∧ t.link l.other = f (s.link l.other)
          let told (yes : Bool) (kind : NoticeKind) (value1 value2 : Nat) (x : LinkUnit) : LinkUnit :=
            x.told (yes && x.queue.mask.getLsbD 0) { kind, subject := p, value1, value2, stamp := s.timestamp }
          t = { u with perf := t.perf, linkA := t.linkA, linkB := t.linkB }
          ∧ (∀ q, q ≠ p → t.perfOf q = u.perfOf q)
          ∧ (set ≠ [] →
            t.perfOf p = { u.perfOf p with
              held := [e], selected := some k, monoSet := set, wanted := some wanted, counters := counters true }
            ∧ links (told (decide (set.length < wanted)) .unisonShort wanted set.length))
          ∧ (set = [] → t.perfOf p = { u.perfOf p with counters := counters false }
            ∧ links (told true .noteDropped k 0))) wanted [] s

/-- KEY_OFF and HOLD OFF of a MONO or UNISON part. A KEY_OFF of a key that is not held, or is sustained already, changes
nothing; under hold it marks the key sustained; otherwise the key leaves the list. HOLD OFF takes every sustained key
out of the list in one change. Then the set is treated once: dissolved when the list is empty, left when the selected
key stays, and otherwise it follows the new key, with a new attack under LEGATO 0 and without one under LEGATO 1. (The
order of the new serials: assumption log 26.) -/
def Obligations.MonoSetFollowsAndDissolves : Prop :=
  ∀ (s : State) (l : Link) (p : PartId), Given.setSounds s l p →
    let perf := s.perfOf p
    let priority := s.param p pKeyPriority
    let frame (t : State) : Prop := t = { s with
      voices := t.voices, serial := t.serial, perf := t.perf, glides := t.glides, linkA := t.linkA, linkB := t.linkB }
    (∀ k : Key,
      let held := perf.held.filter fun x => x.key != k
      let pressed := ∃ x ∈ perf.held, x.key = k
      let plain := ∀ x ∈ perf.held, x.key = k → x.sustained = false
      let kept := perf.hold = true ∧ s.param p pHoldEnable = 1
      (plain → pressed → ¬kept →
        ∃ t, exec (.keyOff l [byte p, byte k]) s = .next t ∧ frame t
          ∧ Given.setFollows s t p priority held perf ∧ Took s t l 4 (okReply 0x02 false false []))
      ∧ (plain → pressed → kept →
        ∃ t, exec (.keyOff l [byte p, byte k]) s = .next t
          ∧ t = { s with perf := t.perf, linkA := t.linkA, linkB := t.linkB }
          ∧ t.perfOf p = { perf with
              held := perf.held.map fun x => if x.key = k then { x with sustained := true } else x }
          ∧ (∀ q, q ≠ p → t.perfOf q = s.perfOf q) ∧ Took s t l 4 (okReply 0x02 false false []))
      ∧ ((∀ x ∈ perf.held, x.key = k → x.sustained = true) →
        ∃ t, exec (.keyOff l [byte p, byte k]) s = .next t ∧ SameButLinks s t
          ∧ Took s t l 4 (okReply 0x02 false true [])))
    ∧ (perf.hold = true → perf.held ≠ [] →
      ∃ t, exec (.hold l [byte (2 ^ p.val), 0x00#8]) s = .next t ∧ frame t
        ∧ Given.setFollows s t p priority (perf.held.filter fun x => !x.sustained) { perf with hold := false }
        ∧ Took s t l 4 (okReply 0x03 false false []))

/-- KEY_OFF in a POLY part acts on the first match. A voice that sounds the note becomes sustained under hold;
otherwise it goes RELEASED with the timestamp as its release start and RELEASE_WINDOW as its window. Without such a
voice the first deferred entry of the note is removed, and without one the first successor of kind NOTE is cancelled
while its voice damps on; each is counted cancelled. Nothing else changes. One that matches none of these is answered
OK with NOTHING and changes nothing. -/
def Obligations.KeyOffReleasesSustainsOrIsIgnored : Prop :=
  ∀ (s : State) (l : Link) (p : PartId) (k : Key),
    let command := Instr.keyOff l [byte p, byte k]
    let perf := s.perfOf p
    let cancelled : Counters := { perf.counters with cancelled := min 65535 (perf.counters.cancelled + 1) }
    let reply := okReply 0x02 false false []
    (∀ v n pulse,
      let leaves (phase : VoicePhase) : Prop :=
        ∃ t, exec command s = .next t
          ∧ t = { s with voices := t.voices, linkA := t.linkA, linkB := t.linkB }
          ∧ t.voice v = { s.voice v with phase }
          ∧ (∀ w, w ≠ v → t.voice w = s.voice w)
          ∧ Took s t l 4 reply
      (Given.keyOffHeld s l p k v n pulse → leaves (.gated n true pulse))
      ∧ (Given.keyOffFree s l p k v n pulse → leaves (.released n s.timestamp (s.param p pReleaseWindow))))
    ∧ (∀ place d, Given.keyOffDeferred s l p k place d →
      ∃ t, exec command s = .next t
        ∧ t = { s with deferred := s.deferred.eraseIdx place, perf := t.perf, linkA := t.linkA, linkB := t.linkB }
        ∧ t.perfOf p = { perf with counters := cancelled } ∧ (∀ q, q ≠ p → t.perfOf q = s.perfOf q)
        ∧ Took s t l 4 reply)
    ∧ (∀ v n su dp timer, Given.keyOffWaiting s l p k v n su dp timer →
      ∃ t, exec command s = .next t
        ∧ t = { s with voices := t.voices, perf := t.perf, linkA := t.linkA, linkB := t.linkB }
        ∧ t.voice v = { s.voice v with phase := .damping n none dp timer } ∧ (∀ w, w ≠ v → t.voice w = s.voice w)
        ∧ t.perfOf p = { perf with counters := cancelled, bound := perf.bound.filter fun w => w != v }
        ∧ (∀ q, q ≠ p → t.perfOf q = s.perfOf q)
        ∧ Took s t l 4 reply)
    ∧ (Given.keyOffNothing s l p k →
      ∃ t, exec command s = .next t ∧ SameButLinks s t ∧ Took s t l 4 (okReply 0x02 false true []))

/-- HOLD ON sets the flag of every named part and changes nothing else. HOLD OFF of a POLY part clears its flag and
releases every sustained voice of the part, whose release stamp takes the timestamp. -/
def Obligations.HoldSetsAndClearsFlags : Prop :=
  (∀ (s : State) (l : Link) (mask : BitVec 4), Given.partMask s l mask →
    ∃ t, exec (.hold l [byte mask.toNat, 0x01#8]) s = .next t
      ∧ t = { s with perf := t.perf, linkA := t.linkA, linkB := t.linkB }
      ∧ (∀ p : PartId, t.perfOf p =
          if mask.getLsbD p.val = true then { s.perfOf p with hold := true } else s.perfOf p)
      ∧ Took s t l 4
          (okReply 0x03 false (allParts.all fun p => !mask.getLsbD p.val || (s.perfOf p).hold) []))
  ∧ ∀ (s : State) (l : Link) (p : PartId), Given.holdOff s l p →
    ∃ t, exec (.hold l [byte (2 ^ p.val), 0x00#8]) s = .next t
      ∧ t = { s with voices := t.voices, perf := t.perf, linkA := t.linkA, linkB := t.linkB }
      ∧ t.perfOf p = { s.perfOf p with hold := false }
      ∧ (∀ q, q ≠ p → t.perfOf q = s.perfOf q)
      ∧ (∀ v, t.voice v =
          match (s.voice v).phase with
          | .gated n true _ =>
            if (s.voice v).part = p then
              { s.voice v with
                phase := .released n s.timestamp (s.param p pReleaseWindow), releaseStamp := s.timestamp }
            else s.voice v
          | _ => s.voice v)
      ∧ Took s t l 4 (okReply 0x03 false false [])

/-- BEND stores its value, at most 16383, with CLAMPED when it was lowered; it posts nothing and changes nothing else.
CURVE_SET stores its three levels, each at most 1024. NOTICE_CONFIG refuses a mask with any of bits 5 to 7; otherwise
it stores the mask with SYSTEM forced on and the watermark in 1 to 32, with CLAMPED where either was changed, stored
notices stay, and the attention line follows the new watermark at once. -/
def Obligations.SettingRequestsStoreClampedValues : Prop :=
  (∀ (s : State) (l : Link) (p : PartId) (x : Nat), s.ready l → x < 65536 →
      ∃ t, exec (.bend l (byte p :: field16 x)) s = .next t
        ∧ t = { s with perf := t.perf, linkA := t.linkA, linkB := t.linkB }
        ∧ t.perfOf p = { s.perfOf p with bend := min 16383 x }
        ∧ (∀ q, q ≠ p → t.perfOf q = s.perfOf q)
        ∧ Took s t l 5 (okReply 0x04 (decide (16383 < x)) false []))
  ∧ (∀ (s : State) (l : Link) (a b c : Nat), s.ready l → a < 65536 → b < 65536 → c < 65536 →
      ∃ t, exec (.curveSet l (field16 a ++ field16 b ++ field16 c)) s = .next t
        ∧ t = { s with
            template := { l1 := min 1024 a, l2 := min 1024 b, l3 := min 1024 c }
            linkA := t.linkA, linkB := t.linkB }
        ∧ Took s t l 8 (okReply 0x16 (decide (1024 < a ∨ 1024 < b ∨ 1024 < c)) false
            (field16 (min 1024 a) ++ field16 (min 1024 b) ++ field16 (min 1024 c))))
  ∧ ∀ (s : State) (l : Link) (mask mark : Byte), s.ready l →
      let q := (s.link l).queue
      let watermark := max 1 (min 32 mark.toNat)
      ∃ t, exec (.noticeConfig l [mask, mark]) s = .next t ∧ SameButLinks s t ∧ t.link l.other = s.link l.other
        ∧ (32 ≤ mask.toNat → Took s t l 4 (refusal 0x52 .range))
        ∧ (mask.toNat < 32 →
          t.link l = { (s.link l).took 4
              (okReply 0x52 (!mask.getLsbD 4 || watermark != mark.toNat) false [mask ||| 0x10#8, byte watermark]) with
            queue := { q with mask := mask ||| 0x10#8, watermark } }
          ∧ t.attention l = decide (watermark ≤ q.stored.length ∨ 0 < q.lost))

/-- After ALL_OFF no voice is GATED for a named part, no successor, deferred entry or held key of it is left, and its
hold flag and bend stand. Where the named parts have a release window above 0, their GATED voices are RELEASED with it,
their deferred entries and successors are cancelled, of which the notes are counted, nothing of the other parts
changes, and the reply carries NOTHING when there was nothing to take. -/
def Obligations.AllOffSilencesNamedParts : Prop :=
  ∀ (s : State) (l : Link) (mask : BitVec 4), s.ready l → mask ≠ 0 →
    ∃ t rep, exec (.allOff l [byte mask.toNat]) s = .next t
      ∧ (∀ p : PartId, mask.getLsbD p.val = true →
          (∀ v, (t.voice v).gatedFor p = false ∧ (t.voice v).successorOf p = false)
          ∧ (∀ d ∈ t.deferred, d.part ≠ p) ∧ (t.perfOf p).held = [])
      ∧ (∀ p, (t.perfOf p).hold = (s.perfOf p).hold ∧ (t.perfOf p).bend = (s.perfOf p).bend)
      ∧ t.params = s.params ∧ t.globals = s.globals ∧ t.calibration = s.calibration ∧ t.knobs = s.knobs
      ∧ TookPosting s t l 3 rep ∧ rep.echo = 0x05#8 ∧ rep.status = .ok
      ∧ (Given.opensWindows s mask →
        t = { s with
          voices := t.voices, deferred := t.deferred, perf := t.perf, linkA := t.linkA, linkB := t.linkB }
        ∧ Given.partsCleared s t (fun p => mask.getLsbD p.val)
        ∧ Took s t l 3 (okReply 0x05 false (allParts.all fun p => !mask.getLsbD p.val || Given.silent s p) []))

/-! ### Parameters, staging and morphs (chapters 3 and 4) -/

namespace Sys2Proof.Given

/-- kv(pos) of a parameter (R104). -/
def knobPosition (i : ParamId) (pos : Nat) : Nat :=
  (descriptor i).min + (((descriptor i).max - (descriptor i).min) * pos + 2047) / 4095

/-- The pickup state that a binding in a mode enters, for its knob value and a reference value (R105). -/
def pickupFor (mode : KnobMode) (kv ref : Nat) : Pickup :=
  match mode with
  | .jump => .live
  | .catch => if kv < ref then .catchUp else if kv = ref then .live else .catchDown
  | .scale => if kv = ref then .live else .scale

/-- A binding after the parameters of part p that `ref` gives a reference value entered their state, with the control at
a reported position (R105, R106). -/
def told (p : PartId) (ref : ParamId → Option Nat) (reported : Nat) (b : KnobBinding) : KnobBinding :=
  match ref b.index with
  | some y =>
    if b.part = p then { b with pickup := pickupFor b.mode (knobPosition b.index reported) y } else b
  | none => b

/-- The reported position of a control, 0 when it is unseeded (R105). -/
def reportedAt (s : State) (k : ControlId) : Nat := ((s.control k).seed.map Seeded.reported).getD 0

/-- The reference value of one parameter. -/
def only (i : ParamId) (y : Nat) (j : ParamId) : Option Nat := if j = i then some y else none

/-- A value in the descriptor range of a parameter (R54). -/
def clamped (i : ParamId) (x : Nat) : Nat := max (descriptor i).min (min (descriptor i).max x)

/-- PARAM_SET of a CONT or STEP parameter that no morph moves. -/
abbrev plainParam (s : State) (l : Link) (p : PartId) (i : ParamId) : Prop :=
  s.ready l ∧ (descriptor i).cls ≠ .struct
    ∧ ∀ m ∈ s.slotOf p, ∀ e ∈ m.entries, e.index ≠ i

/-- PARAM_SET of a STRUCT parameter, in a part whose release window is above 0. -/
abbrev structWrite (s : State) (l : Link) (p : PartId) (i : ParamId) : Prop :=
  s.ready l ∧ s.Settled ∧ s.param p pReleaseWindow ≠ 0 ∧ (descriptor i).cls = .struct
    ∧ ∀ m ∈ s.slotOf p, ∀ e ∈ m.entries, e.index ≠ i

/-- What a PARAM_SET of value x does to the image, the knobs and the links when it stores y (R54 to R57, R106). -/
def paramWritten (s t : State) (l : Link) (p : PartId) (i : ParamId) (x y : Nat) : Prop :=
  t.param p i = y ∧ (∀ q j, ¬(q = p ∧ j = i) → t.param q j = s.param q j)
  ∧ (∀ k, t.knob k = (s.knob k).map (told p (only i y) (reportedAt s k)))
  ∧ t.link l = (s.link l).took 6 (okReply 0x10 (y != x) false ([byte p, byte i] ++ field16 y))
  ∧ t.link l.other = (s.link l.other).told ((s.link l.other).queue.mask.getLsbD 1)
      { kind := .paramChanged, subject := p, value1 := 256 * linkCode l + i, value2 := y, stamp := s.timestamp }

/-- A STRUCT write for which no stage of the reconcile has work: it changes no value, or the parameter has no stage, or
the stage's condition does not hold (R60, R63, R64). -/
def noStage (s : State) (p : PartId) (i : ParamId) (y : Nat) : Prop :=
  y = s.param p i ∨ i ∈ [pStealPolicy, pRetrigger, pUnisonCount, pKeyLow, pKeyHigh]
  ∨ (i = pReserve ∧ y < s.param p i) ∨ (i = pPartEnable ∧ y = 1) ∨ (i = pMaxVoices ∧ y < s.param p i ∧ s.load p ≤ y)
  ∨ (i = pKeyPriority ∧ (s.param p pVoiceMode = 0 ∨ (s.perfOf p).held = []))

/-- A change of VOICE_MODE, or PART_ENABLE from 1 to 0 (R61, R64). -/
def clearsPart (s : State) (p : PartId) (i : ParamId) (y : Nat) : Prop :=
  (i = pVoiceMode ∧ y ≠ s.param p i) ∨ (i = pPartEnable ∧ s.param p i = 1 ∧ y = 0)

/-- The run and the measurement are the same. A voice that is released with a release window of 0 while it carries a
claim goes TUNING within the command, and the head of a run that waits is then taken and measured (R20, R29, R141). -/
def sameTune (s t : State) : Prop :=
  t.run = s.run ∧ t.measurement = s.measurement ∧ t.candidate = s.candidate ∧ t.fsel = s.fsel

/-- The voice table and what moves with it are the same. -/
def sameVoices (s t : State) : Prop :=
  t.voices = s.voices ∧ t.serial = s.serial ∧ t.deferred = s.deferred ∧ t.perf = s.perf ∧ t.glides = s.glides
    ∧ sameTune s t

/-- A part cleared of its notes (R25, R61). -/
abbrev partCleared (s t : State) (p : PartId) : Prop := partsCleared s t (· == p)

/-- The binding order of part p lists its successors, each once, and no other part's mono set holds a voice that counts
for p. -/
abbrev ownRecords (s : State) (p : PartId) : Prop :=
  (s.perfOf p).bound.Nodup ∧ (∀ v, v ∈ (s.perfOf p).bound ↔ (s.voice v).successorOf p = true)
    ∧ ∀ q, q ≠ p → ∀ v ∈ (s.perfOf q).monoSet, (s.voice v).countsFor p = false

/-- A change of a STRUCT parameter for which the offer stage may run (R65). -/
abbrev mayOffer (s : State) (p : PartId) (i : ParamId) (y : Nat) : Prop :=
  ((i = pMaxVoices ∨ i = pReserve) ∧ s.param p i < y) ∨ i = pMaskLo ∨ i = pMaskHi

/-- What the structural entries of an APPLY do (R60, R70). Each is written. Without a change of a value, or where no
stage of the reconcile has work for any change, nothing else of the voices moves. A single change does to the voices
what a PARAM_SET of it does. The run and the measurement stand unless a window of 0 passes. Where VOICE_MODE changes, or
PART_ENABLE goes from 1 to 0, the part is cleared once, whatever else changes with it, as long as no other part's entry
can be served at the offer stage. (PART_ENABLE before KEY_PRIORITY: assumption log 31.) -/
def structStage (s t : State) (l : Link) (p : PartId) : Prop :=
  let written (i : ParamId) (y : Nat) : Prop := (s.link l).staging[i] = some y ∧ (descriptor i).cls = .struct
  let changed (i : ParamId) (y : Nat) : Prop := written i y ∧ y ≠ s.param p i
  (∀ i y, written i y → t.param p i = y)
  ∧ ((∀ i y, written i y → y = s.param p i) → sameVoices s t)
  ∧ (s.Settled → (∀ i y, changed i y → noStage s p i y) → sameVoices s t)
  ∧ (∀ i y, changed i y → (∀ j z, changed j z → j = i) → inRange i y →
    ∃ u, exec (.paramSet l ([byte p, byte i] ++ field16 y)) s = .next u ∧ sameVoices u t)
  ∧ (s.Settled → s.param p pReleaseWindow ≠ 0 → sameTune s t)
  ∧ ∀ i y, changed i y → clearsPart s p i y → s.Settled → s.param p pReleaseWindow ≠ 0 → ownRecords s p →
    (∀ d ∈ s.deferred, d.part = p) ∨ (∀ j z, changed j z → ¬mayOffer s p j z) → partCleared s t p

/-- What every accepted APPLY with apply entries leaves: of the state only the voices, the run and its measurement,
the image, slot p, the bindings and the links may change; the other parts keep their values and slots; the structural
entries have acted, and every bound control was told of its staged value (R70, R84). -/
def applied (s t : State) (l : Link) (p : PartId) : Prop :=
  t = { s with
    voices := t.voices, serial := t.serial, deferred := t.deferred, perf := t.perf, glides := t.glides
    run := t.run, measurement := t.measurement, candidate := t.candidate, fsel := t.fsel
    params := t.params, slots := t.slots, knobs := t.knobs, linkA := t.linkA, linkB := t.linkB }
  ∧ structStage s t l p
  ∧ (∀ q, q ≠ p → t.slotOf q = s.slotOf q ∧ ∀ i, t.param q i = s.param q i)
  ∧ ∀ k, t.knob k = (s.knob k).map (told p (fun i => (s.link l).staging[i]) (reportedAt s k))

/-- The staged value of a CONT or STEP parameter: a morph entry of the next APPLY (R69). -/
def morphStaged (s : State) (l : Link) (i : ParamId) : Option Nat :=
  if (descriptor i).cls = .struct then none else (s.link l).staging[i]

/-- The number of staged entries, and of the structural ones among them (R69). -/
def stagedCounts (s : State) (l : Link) : Nat × Nat :=
  let staged (i : ParamId) : Bool := (s.link l).staging[i].isSome
  ((List.finRange 40).countP staged, (List.finRange 40).countP fun i => staged i && (descriptor i).cls == .struct)

/-- A change of KEY_PRIORITY in a MONO or UNISON part that holds keys (R64). -/
abbrev changesPriority (s : State) (p : PartId) (i : ParamId) (y : Nat) : Prop :=
  i = pKeyPriority ∧ y ≠ s.param p i ∧ s.param p pVoiceMode ≠ 0 ∧ (s.perfOf p).held ≠ [] ∧ goodSet s p

/-- A change of a voice mask byte, with no deferred entry, while only the part's own mono set holds its voices. -/
abbrev changesMask (s : State) (p : PartId) (i : ParamId) (y : Nat) : Prop :=
  (i = pMaskLo ∨ i = pMaskHi) ∧ y ≠ s.param p i ∧ s.deferred = [] ∧ (s.perfOf p).counters.cancelled ≤ 65535
    ∧ ∀ q, q ≠ p → ∀ v ∈ (s.perfOf q).monoSet, (s.voice v).countsFor p = false

/-- MAX_VOICES lowered below the load of a part whose voices are in no mono set and whose binding order lists its
successors (R63). -/
abbrev lowersBudget (s : State) (p : PartId) (i : ParamId) (y : Nat) : Prop :=
  i = pMaxVoices ∧ y < s.param p i ∧ y < s.load p ∧ (s.perfOf p).counters.cancelled ≤ 65535
    ∧ (∀ q, ∀ v ∈ (s.perfOf q).monoSet, (s.voice v).countsFor p = false)
    ∧ (s.perfOf p).bound.Nodup ∧ ∀ v, v ∈ (s.perfOf p).bound ↔ (s.voice v).successorOf p = true

/-- MAX_VOICES or RESERVE raised, while one deferred entry waits (R65). -/
abbrev raisesBudget (s : State) (p : PartId) (i : ParamId) (y : Nat) (d : Deferred) : Prop :=
  (i = pMaxVoices ∨ i = pReserve) ∧ s.param p i < y ∧ s.deferred = [d]

/-- STEAL_POLICY of a part takes voice v before voice w (R13, R63): OLDEST, QUIETEST, LOWEST, HIGHEST, and the lower
index at a tie. Ages are counted from the serial counter. -/
def takesFirst (s : State) (p : PartId) (v w : VoiceId) : Prop :=
  let age (x : VoiceId) : Nat := (s.serial - (s.voice x).serial).toNat
  match s.param p pStealPolicy with
  | 0 => age w < age v ∨ (age w = age v ∧ v < w)
  | 1 => (s.voice v).velocity < (s.voice w).velocity ∨ ((s.voice v).velocity = (s.voice w).velocity ∧ v < w)
  | 2 => (s.voice v).key < (s.voice w).key ∨ ((s.voice v).key = (s.voice w).key ∧ v < w)
  | _ => (s.voice w).key < (s.voice v).key ∨ ((s.voice v).key = (s.voice w).key ∧ v < w)

/-- PARAM_SET of a parameter that is an entry of its part's running morph. -/
abbrev morphingParam (s : State) (l : Link) (p : PartId) (i : ParamId) (m : Morph) : Prop :=
  s.ready l ∧ (descriptor i).cls ≠ .struct ∧ s.slotOf p = some m ∧ (∃ e ∈ m.entries, e.index = i)

/-- At least one staged entry of the link is CONT or STEP. -/
abbrev stagesMorph (s : State) (l : Link) : Prop := s.ready l ∧ ∃ i : ParamId, (morphStaged s l i).isSome = true

/-- Every staged entry of the link is STRUCT, and at least one is present. -/
abbrev stagesStruct (s : State) (l : Link) : Prop :=
  s.ready l ∧ (∃ i : ParamId, (s.link l).staging[i].isSome = true) ∧ ∀ i : ParamId, morphStaged s l i = none

/-- Nothing is staged. -/
abbrev stagesNothing (s : State) (l : Link) : Prop :=
  s.ready l ∧ ∀ i : ParamId, (s.link l).staging[i] = none

/-- A retarget: entries are staged, and the part's slot is MORPHING, with CONT and STEP entries. -/
abbrev retargets (s : State) (l : Link) (p : PartId) (time : Nat) (m : Morph) : Prop :=
  stagesMorph s l ∧ s.slotOf p = some m ∧ (∀ e ∈ m.entries, (descriptor e.index).cls ≠ .struct)
    ∧ 1 ≤ time ∧ time < 65536

/-- At least one staged entry of the link is CONT or STEP, and the part's slot is IDLE. -/
abbrev chainStart (s : State) (l : Link) (p : PartId) (time : Nat) : Prop :=
  stagesMorph s l ∧ s.slotOf p = none ∧ 1 ≤ time ∧ time < 65536

/-- The part's slot is MORPHING, with at most one entry for each parameter. -/
abbrev morphing (s : State) (p : PartId) (m : Morph) : Prop :=
  s.slotOf p = some m ∧ (m.entries.map MorphEntry.index).Nodup

/-- A link that takes requests, and a part whose slot is MORPHING. -/
abbrev cancel (s : State) (l : Link) (p : PartId) (m : Morph) : Prop := s.ready l ∧ morphing s p m

/-- A link that takes requests, and a part whose slot is IDLE. -/
abbrev cancelIdle (s : State) (l : Link) (p : PartId) : Prop := s.ready l ∧ s.slotOf p = none

/-- The step at which elapsed reaches the total time. -/
abbrev lastStep (s : State) (p : PartId) (m : Morph) : Prop := morphing s p m ∧ m.total ≤ m.elapsed + 2

/-- A step before completion. -/
abbrev midStep (s : State) (p : PartId) (m : Morph) : Prop := morphing s p m ∧ m.elapsed + 2 < m.total

/-- A run of values that STAGE_WRITE takes. -/
abbrev stageRun (s : State) (l : Link) (first : Nat) (values : List Nat) : Prop :=
  s.ready l ∧ 1 ≤ values.length ∧ first + values.length ≤ 40 ∧ ∀ x ∈ values, x < 65536

end Sys2Proof.Given

/-- PARAM_SET of a CONT or STEP parameter outside a morph stores the value clamped to the descriptor, tells every knob
bound to the parameter, posts PARAM_CHANGED to the other link when it is subscribed to PARAMS, and changes nothing
else. -/
def Obligations.ParamSetStoresClampedValue : Prop :=
  ∀ (s : State) (l : Link) (p : PartId) (i : ParamId) (x : Nat), Given.plainParam s l p i → x < 65536 →
    ∃ t, exec (.paramSet l ([byte p, byte i] ++ field16 x)) s = .next t
      ∧ t = { s with params := t.params, knobs := t.knobs, linkA := t.linkA, linkB := t.linkB }
      ∧ Given.paramWritten s t l p i x (Given.clamped i x)

/-- PARAM_SET of a global parameter stores the clamped value and posts PARAM_CHANGED with part code 4; a write of
RETUNE_INTERVAL starts the retune timer with that many minutes, or stops it. -/
def Obligations.ParamSetStoresGlobal : Prop :=
  ∀ (s : State) (l : Link) (g : GlobalId) (x : Nat), s.ready l → x < 65536 →
    let y := max globalRanges[g].1 (min globalRanges[g].2 x)
    let told : Notice :=
      { kind := .paramChanged, subject := 4, value1 := 256 * linkCode l + g, value2 := y, stamp := s.timestamp }
    ∃ t, exec (.paramSet l ([0x04#8, byte g] ++ field16 x)) s = .next t
      ∧ t = { s with globals := t.globals, retune := t.retune, linkA := t.linkA, linkB := t.linkB }
      ∧ t.global g = y
      ∧ (∀ h, h ≠ g → t.global h = s.global h)
      ∧ t.retune = (if g = gRetuneInterval then (if y = 0 then none else some y) else s.retune)
      ∧ t.link l = (s.link l).took 6 (okReply 0x10 (y != x) false ([0x04#8, byte g] ++ field16 y))
      ∧ t.link l.other = (s.link l.other).told ((s.link l.other).queue.mask.getLsbD 1) told

/-- STAGE_WRITE clamps each value to the descriptor of its index and stores it; the other entries, the image and the
slots are not touched. -/
def Obligations.StageWriteStoresClampedRun : Prop :=
  ∀ (s : State) (l : Link) (first : Nat) (values : List Nat), Given.stageRun s l first values →
    ∃ t rep, exec (.stageWrite l (byte first :: values.flatMap field16)) s = .next t
      ∧ SameButLinks s t ∧ t.link l.other = s.link l.other
      ∧ t.link l = { (s.link l).took (3 + 2 * values.length) rep with staging := (t.link l).staging }
      ∧ (∀ (i : ParamId) x, first ≤ i.val → values[i.val - first]? = some x →
          (t.link l).staging[i] = some (max (descriptor i).min (min (descriptor i).max x)))
      ∧ (∀ i : ParamId, (i.val < first ∨ first + values.length ≤ i.val) →
          (t.link l).staging[i] = (s.link l).staging[i])
      ∧ rep.status = .ok
      ∧ rep.data = [byte ((List.finRange 40).countP fun i => (t.link l).staging[i].isSome)]

/-- STAGE_CLEAR: a payload of any length is refused with LENGTH; without payload every entry of the link's buffer
becomes absent, with NOTHING when none was present. It writes nothing to the image and posts no notice. -/
def Obligations.StageClearEmptiesBuffer : Prop :=
  ∀ (s : State) (l : Link), s.ready l →
    (∀ payload, payload ≠ [] → ∃ t, exec (.stageClear l payload) s = .next t ∧ SameButLinks s t
      ∧ Took s t l (2 + payload.length) (refusal 0x13 .length))
    ∧ ∃ t, exec (.stageClear l []) s = .next t ∧ SameButLinks s t ∧ t.link l.other = s.link l.other
      ∧ t.link l = { (s.link l).took 2
            (okReply 0x13 false ((List.finRange 40).all fun i => (s.link l).staging[i].isNone) []) with
          staging := Vector.replicate 40 none }

/-- APPLY with CONT or STEP entries and a time above 0 to an IDLE slot starts a chain: each entry starts from its live
value, which is also its prior; no live value of theirs changes, no notice is posted, and the link's buffer is
emptied. A time above 20000 is stored and answered as 20000, with CLAMPED. Structural entries of the same buffer act
as `Given.structStage` says (one order there is the model's: assumption log 31). -/
def Obligations.ApplyStartsMorphChain : Prop :=
  ∀ (s : State) (l : Link) (p : PartId) (time : Nat) (curve : Curve), Given.chainStart s l p time →
    let entries := (List.finRange 40).filterMap fun (i : ParamId) => (Given.morphStaged s l i).map fun x =>
      ({ index := i, start := s.param p i, target := x, prior := s.param p i, switched := false } : MorphEntry)
    let counts := Given.stagedCounts s l
    ∃ t, exec (.apply l ([byte p] ++ field16 time ++ [byte curve.code])) s = .next t ∧ Given.applied s t l p
      ∧ (∀ i, (descriptor i).cls ≠ .struct ∨ (s.link l).staging[i] = none → t.param p i = s.param p i)
      ∧ t.slotOf p = some { origin := l, entries, total := min 20000 time, elapsed := 0, curve, taken := 0 }
      ∧ t.link l = { (s.link l).took 6 (okReply 0x14 (decide (20000 < time)) false
            ([byte p] ++ field16 (min 20000 time) ++ [byte counts.1, byte counts.2, 0x01#8])) with
          staging := Vector.replicate 40 none }
      ∧ t.link l.other = s.link l.other

/-- A PARAM_SET of a STRUCT parameter runs the part reconcile when it changes the value. Where no stage has work, only
the parameter changes. A change of VOICE_MODE, and PART_ENABLE from 1 to 0, releases every GATED voice of the part,
cancels its deferred entries and successors, of which the notes are counted, and empties its held-key list; hold and
bend stay. A change of KEY_PRIORITY selects again, and the mono set follows a new key. (The order of the new serials:
assumption log 26.) -/
def Obligations.StructuralWritesClearOrReselect : Prop :=
  ∀ (s : State) (l : Link) (p : PartId) (i : ParamId) (x : Nat), Given.structWrite s l p i → x < 65536 →
    let y := Given.clamped i x
    let perf := s.perfOf p
    let command := Instr.paramSet l ([byte p, byte i] ++ field16 x)
    (Given.noStage s p i y → ∃ t, exec command s = .next t ∧ Given.paramWritten s t l p i x y
      ∧ t = { s with params := t.params, knobs := t.knobs, linkA := t.linkA, linkB := t.linkB })
    ∧ (Given.clearsPart s p i y → ∃ t, exec command s = .next t ∧ Given.paramWritten s t l p i x y
      ∧ t = { s with
          voices := t.voices, deferred := t.deferred, perf := t.perf, params := t.params, knobs := t.knobs
          linkA := t.linkA, linkB := t.linkB }
      ∧ Given.partCleared s t p)
    ∧ (Given.changesPriority s p i y → ∃ t, exec command s = .next t ∧ Given.paramWritten s t l p i x y
      ∧ t = { s with
          voices := t.voices, serial := t.serial, perf := t.perf, params := t.params, knobs := t.knobs
          glides := t.glides, linkA := t.linkA, linkB := t.linkB }
      ∧ Given.setFollows s t p y perf.held perf)

/-- A change of the voice mask releases the part's GATED voices outside the new mask and cancels its successors there,
and those voices leave its mono set; the others stay. MAX_VOICES lowered below the load brings the load to the new
value: GATED voices of the part are released in the order of STEAL_POLICY, and, when none is left, successors are
cancelled, the newest binding first. MAX_VOICES or RESERVE raised offers the IDLE voices to the deferred list. -/
def Obligations.StructuralWritesFitMaskAndBudget : Prop :=
  ∀ (s : State) (l : Link) (p : PartId) (i : ParamId) (x : Nat), Given.structWrite s l p i → x < 65536 →
    let y := Given.clamped i x
    let perf := s.perfOf p
    let command := Instr.paramSet l ([byte p, byte i] ++ field16 x)
    let ends (v : VoiceId) : Voice :=
      match (s.voice v).phase with
      | .gated n _ _ => { s.voice v with phase := .released n s.timestamp (s.param p pReleaseWindow) }
      | .damping n _ dp timer => { s.voice v with phase := .damping n none dp timer }
      | _ => s.voice v
    let cancelled (of : VoiceId → Bool) : Counters := { perf.counters with
      cancelled := min 65535 (perf.counters.cancelled + (allVoices.filter fun v =>
        of v && (s.voice v).phase.successor?.any fun su => su.part == p && su.kind == .note).length) }
    let frame (t : State) : Prop := t = { s with
      voices := t.voices, perf := t.perf, params := t.params, knobs := t.knobs, linkA := t.linkA, linkB := t.linkB }
    (Given.changesMask s p i y → ∃ t, exec command s = .next t ∧ Given.paramWritten s t l p i x y ∧ frame t
      ∧ let out (v : VoiceId) : Bool := !t.inMask p v && (s.voice v).countsFor p
        (∀ v, t.voice v = if out v = true then ends v else s.voice v)
        ∧ t.perfOf p = { Given.leftSet perf out with
            counters := cancelled out
            bound := perf.bound.filter fun v => !(out v && (s.voice v).successorOf p) }
        ∧ ∀ q, q ≠ p → t.perfOf q = s.perfOf q)
    ∧ (Given.lowersBudget s p i y → ∃ t, exec command s = .next t ∧ Given.paramWritten s t l p i x y ∧ frame t
      ∧ let out (v : VoiceId) : Bool := (s.voice v).countsFor p && !(t.voice v).countsFor p
        t.load p = y
        ∧ (∀ v, t.voice v = if out v = true then ends v else s.voice v)
        ∧ ((∃ v, (s.voice v).successorOf p = true ∧ out v = true) → ∀ v, (t.voice v).gatedFor p = false)
        ∧ ((∀ v, (s.voice v).gatedFor p = true → (s.serial - (s.voice v).serial).toNat ≤ 32767) →
          ∀ v w, (s.voice v).gatedFor p = true → out v = true → (t.voice w).gatedFor p = true →
            Given.takesFirst s p v w)
        ∧ t.perfOf p = { perf with
            bound := perf.bound.take (perf.bound.filter fun v => !out v).length, counters := cancelled out }
        ∧ (∀ v ∈ (t.perfOf p).bound, out v = false)
        ∧ ∀ q, q ≠ p → t.perfOf q = s.perfOf q)
    ∧ ∀ d, Given.raisesBudget s p i y d → ∃ t, exec command s = .next t ∧ Given.paramWritten s t l p i x y
      ∧ ((t.param d.part pMaxVoices ≤ s.load d.part ∨ ∀ v, s.inMask d.part v = true → (s.voice v).phase ≠ .idle) →
        frame t ∧ t.voices = s.voices ∧ t.perf = s.perf)
      ∧ ∀ v, s.load d.part < t.param d.part pMaxVoices → s.inMask d.part v = true → (s.voice v).phase = .idle →
        (∀ w, w < v → s.inMask d.part w = true → (s.voice w).phase ≠ .idle) →
        t = { s with
          voices := t.voices, serial := s.serial + 1, deferred := [], perf := t.perf, params := t.params
          knobs := t.knobs, glides := t.glides, linkA := t.linkA, linkB := t.linkB }
        ∧ t.voice v = { s.voice v with
            phase := .gated { key := d.key, velocity := d.velocity } false none, part := d.part
            serial := s.serial + 1, clamped := false }
        ∧ (∀ w, w ≠ v → t.voice w = s.voice w)
        ∧ t.glide v = { position := 256 * d.key.val, target := none } ∧ (∀ w, w ≠ v → t.glide w = s.glide w)
        ∧ t.perfOf d.part = { s.perfOf d.part with counters := { (s.perfOf d.part).counters with
            sounded := min 65535 ((s.perfOf d.part).counters.sounded + 1) } }
        ∧ ∀ q, q ≠ d.part → t.perfOf q = s.perfOf q

/-- A PARAM_SET of a parameter under a running morph takes its entry out and counts it; when it was the last, APPLIED
with 0 entries goes to the origin and the slot goes IDLE, before PARAM_CHANGED. An APPLY of nothing posts APPLIED with
0 entries. An APPLY of structural entries alone writes them at once, with one reconcile, and posts APPLIED with their
number to its link; a running morph is not touched. An APPLY with time 0 writes all its entries at once, takes the
CONT and STEP ones out of a running morph in the same way, and posts APPLIED with their number to its link. An APPLY
with a time over a running morph retargets it: every entry starts from its live value, the staged ones take their
targets, new ones join, the origin changes, and APPLY_SUPERSEDED goes to the old origin; no live value of theirs
changes. A time above 20000 is taken as 20000, with CLAMPED. What structural entries do is `Given.structStage` (one
order there is the model's: assumption log 31). -/
def Obligations.AppliesActOnRunningMorphs : Prop :=
  ∀ (s : State) (l : Link) (p : PartId),
    let applied (origin : Link) (entries taken : Nat) (who : Link) (u : LinkUnit) : LinkUnit :=
      u.told (who == origin || u.queue.mask.getLsbD 1)
        { kind := .applied, subject := p, value1 := entries, value2 := 256 * linkCode origin + taken
          stamp := s.timestamp }
    let staged := Given.morphStaged s l
    let counts := Given.stagedCounts s l
    let takes (time : Nat) (counts : List Byte) (u : LinkUnit) : LinkUnit :=
      { u.took 6 (okReply 0x14 (decide (20000 < time)) false ([byte p] ++ field16 (min 20000 time) ++ counts)) with
        staging := Vector.replicate 40 none }
    (∀ (i : ParamId) (x : Nat) (m : Morph), Given.morphingParam s l p i m → x < 65536 →
      let y := Given.clamped i x
      let left := m.entries.filter fun e => e.index != i
      let taken := min 255 (m.taken + 1)
      let told (who : Link) (u : LinkUnit) : LinkUnit := if left = [] then applied m.origin 0 taken who u else u
      ∃ t, exec (.paramSet l ([byte p, byte i] ++ field16 x)) s = .next t
        ∧ t = { s with params := t.params, slots := t.slots, knobs := t.knobs, linkA := t.linkA, linkB := t.linkB }
        ∧ t.param p i = y ∧ (∀ q j, ¬(q = p ∧ j = i) → t.param q j = s.param q j)
        ∧ t.slotOf p = (if left = [] then none else some { m with entries := left, taken })
        ∧ (∀ q, q ≠ p → t.slotOf q = s.slotOf q)
        ∧ (∀ k, t.knob k = (s.knob k).map (Given.told p (Given.only i y) (Given.reportedAt s k)))
        ∧ t.link l = told l ((s.link l).took 6 (okReply 0x10 (y != x) false ([byte p, byte i] ++ field16 y)))
        ∧ t.link l.other = (told l.other (s.link l.other)).told ((s.link l.other).queue.mask.getLsbD 1)
            { kind := .paramChanged, subject := p, value1 := 256 * linkCode l + i, value2 := y, stamp := s.timestamp })
    ∧ (∀ (time : Nat) (curve : Curve), Given.stagesNothing s l → time < 65536 →
      ∃ t, exec (.apply l ([byte p] ++ field16 time ++ [byte curve.code])) s = .next t ∧ SameButLinks s t
        ∧ t.link l = applied l 0 0 l (takes time [0x00#8, 0x00#8, byte (bit (s.slotOf p).isSome)] (s.link l))
        ∧ t.link l.other = applied l 0 0 l.other (s.link l.other))
    ∧ (∀ (time : Nat) (curve : Curve), Given.stagesStruct s l → time < 65536 →
      ∃ t, exec (.apply l ([byte p] ++ field16 time ++ [byte curve.code])) s = .next t ∧ Given.applied s t l p
        ∧ (∀ i, (s.link l).staging[i] = none → t.param p i = s.param p i) ∧ t.slotOf p = s.slotOf p
        ∧ t.link l = applied l counts.2 0 l
            (takes time [byte counts.1, byte counts.2, byte (bit (s.slotOf p).isSome)] (s.link l))
        ∧ t.link l.other = applied l counts.2 0 l.other (s.link l.other))
    ∧ (∀ curve : Curve, Given.stagesMorph s l → (∀ m ∈ s.slotOf p, m.taken ≤ 255 ∧ m.entries ≠ []) →
      let slot : Option Morph := (s.slotOf p).map fun m => { m with
        entries := m.entries.filter fun e => (staged e.index).isNone
        taken := min 255 (m.taken + (List.finRange 40).countP fun i =>
          (staged i).isSome && m.entries.any fun e => e.index == i) }
      let ended (who : Link) (u : LinkUnit) : LinkUnit :=
        match slot with
        | some m => if m.entries = [] then applied m.origin 0 m.taken who u else u
        | none => u
      let after := slot.filter fun m => decide (m.entries ≠ [])
      ∃ t, exec (.apply l ([byte p] ++ field16 0 ++ [byte curve.code])) s = .next t ∧ Given.applied s t l p
        ∧ (∀ i, t.param p i = (s.link l).staging[i].getD (s.param p i)) ∧ t.slotOf p = after
        ∧ t.link l = applied l counts.1 0 l
            (ended l (takes 0 [byte counts.1, byte counts.2, byte (bit after.isSome)] (s.link l)))
        ∧ t.link l.other = applied l counts.1 0 l.other (ended l.other (s.link l.other)))
    ∧ ∀ (time : Nat) (curve : Curve) (m : Morph), Given.retargets s l p time m →
      let entries := (List.finRange 40).filterMap fun (i : ParamId) =>
        match m.entries.find? fun e => e.index == i with
        | some e =>
          some ({ e with start := s.param p i, target := (staged i).getD e.target, switched := false } : MorphEntry)
        | none => (staged i).map fun x =>
          ({ index := i, start := s.param p i, target := x, prior := s.param p i, switched := false } : MorphEntry)
      let superseded (who : Link) (u : LinkUnit) : LinkUnit :=
        u.told (who == m.origin)
          { kind := .applySuperseded, subject := p, value1 := entries.length, value2 := linkCode l
            stamp := s.timestamp }
      ∃ t, exec (.apply l ([byte p] ++ field16 time ++ [byte curve.code])) s = .next t ∧ Given.applied s t l p
        ∧ (∀ i, (descriptor i).cls ≠ .struct ∨ (s.link l).staging[i] = none → t.param p i = s.param p i)
        ∧ t.slotOf p = some { origin := l, entries, total := min 20000 time, elapsed := 0, curve, taken := m.taken }
        ∧ t.link l = superseded l (takes time [byte counts.1, byte counts.2, 0x01#8] (s.link l))
        ∧ t.link l.other = superseded l.other (s.link l.other)

/-- MORPH_CANCEL: FREEZE keeps the live values, REVERT writes each entry's prior; every control bound to an entry's
parameter is told the value; MORPH_CANCELLED goes to the origin, the canceller and the subscribers of PARAMS, and the
slot goes IDLE. On an IDLE slot it changes nothing and carries NOTHING. (The data of that reply are the model's reading:
assumption log 12.) -/
def Obligations.MorphCancelStopsChain : Prop :=
  (∀ (s : State) (l : Link) (p : PartId) (m : Morph) (revert : Bool), Given.cancel s l p m →
    let told (who : Link) (u : LinkUnit) : LinkUnit :=
      u.told (who == m.origin || who == l || u.queue.mask.getLsbD 1)
        { kind := .morphCancelled, subject := p, value1 := 256 * bit revert + linkCode l, value2 := m.entries.length
          stamp := s.timestamp }
    ∃ t, exec (.morphCancel l [byte p, byte (bit revert)]) s = .next t
      ∧ t = { s with params := t.params, slots := t.slots, knobs := t.knobs, linkA := t.linkA, linkB := t.linkB }
      ∧ (∀ e ∈ m.entries, t.param p e.index = if revert then e.prior else s.param p e.index)
      ∧ (∀ k, t.knob k = (s.knob k).map (Given.told p (fun i =>
          (m.entries.find? fun e => e.index == i).map fun e => if revert then e.prior else s.param p i)
          (Given.reportedAt s k)))
      ∧ (∀ q j, (q ≠ p ∨ ∀ e ∈ m.entries, e.index ≠ j) → t.param q j = s.param q j)
      ∧ t.slotOf p = none ∧ (∀ q, q ≠ p → t.slotOf q = s.slotOf q)
      ∧ t.link l = told l ((s.link l).took 4
          (okReply 0x15 false false [byte p, byte (bit revert), byte m.entries.length]))
      ∧ t.link l.other = told l.other (s.link l.other))
  ∧ ∀ (s : State) (l : Link) (p : PartId) (revert : Bool), Given.cancelIdle s l p →
    ∃ t, exec (.morphCancel l [byte p, byte (bit revert)]) s = .next t ∧ SameButLinks s t
      ∧ Took s t l 4 (okReply 0x15 false true [byte p, byte (bit revert), 0x00#8])

/-- A morph step. Before completion a CONT entry is written with start + trunc((target - start) × phi / 1024), and a
STEP entry with its start until phi first reaches 512 and with its target from then on, which its switched flag keeps;
nothing else of the slot changes but the elapsed time. At completion every entry is written with its target, every
control bound to an entry's parameter is told the target, APPLIED goes to the origin and the subscribers of PARAMS, and
the slot goes IDLE. -/
def Obligations.MorphStepWritesCurveValues : Prop :=
  (∀ (s : State) (p : PartId) (m : Morph), Given.midStep s p m →
    let x := (m.elapsed + 2) * 1024 / m.total
    let levels : List Int := match m.curve with
      | .linear => [0, 256, 512, 768, 1024]
      | .template => [0, s.template.l1, s.template.l2, s.template.l3, 1024]
    let y0 := levels.getD (x / 256) 0
    let y1 := levels.getD (x / 256 + 1) 0
    let phi : Int := y0 + (y1 - y0) * (x % 256 : Nat) / 256
    ∃ t, exec (.morphStep p) s = .next t
      ∧ t = { s with params := t.params, slots := t.slots }
      ∧ (∀ e ∈ m.entries, (descriptor e.index).cls = .cont →
          t.param p e.index = ((e.start : Int) + (((e.target : Int) - e.start) * phi).tdiv 1024).toNat)
      ∧ (∀ e ∈ m.entries, (descriptor e.index).cls ≠ .cont →
          t.param p e.index = if e.switched = true ∨ 512 ≤ phi then e.target else e.start)
      ∧ (∀ q j, (q ≠ p ∨ ∀ e ∈ m.entries, e.index ≠ j) → t.param q j = s.param q j)
      ∧ t.slotOf p = some { m with
          elapsed := m.elapsed + 2
          entries := m.entries.map fun e =>
            if (descriptor e.index).cls = .cont then e else { e with switched := e.switched || decide (512 ≤ phi) } }
      ∧ ∀ q, q ≠ p → t.slotOf q = s.slotOf q)
  ∧ ∀ (s : State) (p : PartId) (m : Morph), Given.lastStep s p m →
    let told (who : Link) (u : LinkUnit) : LinkUnit :=
      u.told (who == m.origin || u.queue.mask.getLsbD 1)
        { kind := .applied, subject := p, value1 := m.entries.length, value2 := 256 * linkCode m.origin + m.taken
          stamp := s.timestamp }
    ∃ t, exec (.morphStep p) s = .next t
      ∧ t = { s with params := t.params, slots := t.slots, knobs := t.knobs, linkA := t.linkA, linkB := t.linkB }
      ∧ (∀ e ∈ m.entries, t.param p e.index = e.target)
      ∧ (∀ k, t.knob k = (s.knob k).map (Given.told p (fun i =>
          (m.entries.find? fun e => e.index == i).map MorphEntry.target) (Given.reportedAt s k)))
      ∧ (∀ q j, (q ≠ p ∨ ∀ e ∈ m.entries, e.index ≠ j) → t.param q j = s.param q j)
      ∧ t.slotOf p = none ∧ (∀ q, q ≠ p → t.slotOf q = s.slotOf q)
      ∧ ∀ l, t.link l = told l (s.link l)

namespace Sys2Proof.Given

/-- A run of part parameters that PARAM_GET takes. -/
abbrev paramRun (s : State) (l : Link) (first count : Nat) : Prop :=
  s.ready l ∧ first ≤ 39 ∧ 1 ≤ count ∧ first + count ≤ 40

/-- A run of voices that VOICE_READ takes. -/
abbrev voiceRun (s : State) (l : Link) (first count : Nat) : Prop :=
  s.ready l ∧ first ≤ 15 ∧ 1 ≤ count ∧ first + count ≤ 16

/-- A run of global parameters that PARAM_GET takes. -/
abbrev globalRun (s : State) (l : Link) (first count : Nat) : Prop :=
  s.ready l ∧ first ≤ 15 ∧ 1 ≤ count ∧ first + count ≤ 16

/-- A run of controls that PANEL_READ takes. -/
abbrev controlRun (s : State) (l : Link) (first count : Nat) : Prop :=
  s.ready l ∧ first ≤ 127 ∧ 1 ≤ count ∧ count ≤ 32 ∧ first + count ≤ 128

/-- A run of switches that PANEL_READ takes. -/
abbrev switchRun (s : State) (l : Link) (first count : Nat) : Prop :=
  s.ready l ∧ first ≤ 63 ∧ 1 ≤ count ∧ first + count ≤ 64

/-- Voices as a mask of 16 bits (10.3). -/
def voiceMask (vs : List VoiceId) : Nat := (allVoices.map fun v => if v ∈ vs then 2 ^ v.val else 0).sum

/-- The 12 bytes of a voice in VOICE_READ (10.3). -/
def voiceBytes (x : Voice) : List Byte :=
  [byte (match x.phase with
      | .idle => 0 | .gated .. => 1 | .released .. => 2 | .damping .. => 3 | .tuning .. => 4 | .offline .. => 5),
    byte x.part]
  ++ (match x.phase with
      | .gated n _ _ | .released n _ _ | .damping n _ _ _ => [byte n.key, byte n.velocity]
      | _ => [0xFF#8, 0x00#8])
  ++ le16 x.serial.toNat
  ++ [byte ((match x.phase with
        | .gated _ sustained _ => bit sustained
        | .damping _ su disablePending _ => 2 * bit su.isSome + 4 * bit disablePending
        | _ => 0) + 8 * bit x.claim + 16 * bit x.clamped)]
  ++ (match x.phase with
      | .damping _ (some su) _ _ =>
        [byte su.part, byte su.key, byte su.velocity, byte (su.source.code + 16 * su.kind.code)]
      | _ => [0x00#8, 0xFF#8, 0x00#8, 0x00#8])
  ++ [byte (match x.phase with
      | .offline .disabled => 1 | .offline .fault => 2 | _ => 0)]

/-- The 5 bytes of a control in PANEL_READ (10.3). -/
def controlBytes (c : Control) (b : Option KnobBinding) : List Byte :=
  [byte (bit c.seed.isSome + (match c.motion with
      | .still => 0 | .moving _ => 2) + 4 * bit c.noisy.isSome + 16 * (match b.map KnobBinding.pickup with
      | none => 0 | some .live => 1 | some .catchUp => 2 | some .catchDown => 3 | some .scale => 4))]
  ++ (match c.seed with
      | none => [0x00#8, 0x00#8, 0x00#8, 0x00#8]
      | some x => le16 (x.filtered / 16) ++ le16 x.reported)

/-- The 10 bytes of the run record in STATUS (10.3). An absent field is 255; that the absent queue of 16 bits is 255 and
not 65535 is read from R183 and R184 (assumption log 9). -/
def runRecord : Option Run → List Byte
  | none => [0x00#8, 0xFF#8, 0xFF#8, 0xFF#8, 0x00#8, 0xFF#8, 0xFF#8, 0xFF#8, 0xFF#8, 0xFF#8]
  | some r =>
    [byte (1 + bit r.current.isSome), byte r.mode.code, byte (linkOrNone r.requester)] ++ le16 (voiceMask r.queue)
    ++ (match r.current with
        | none => [0xFF#8, 0xFF#8, 0xFF#8]
        | some c => [byte c.voice, byte (2 * c.voice.val + bit c.second), byte c.anchor])
    ++ [byte r.passCount, byte r.failCount]

/-- The 39 bytes of a part in STATUS (10.3), for a held-key list of at most 10 keys. -/
def partBytes (x : Perf) (slot : Option Morph) : List Byte :=
  le16 x.counters.notesIn ++ le16 x.counters.sounded ++ le16 x.counters.dropped ++ le16 x.counters.refused
  ++ le16 x.counters.cancelled ++ [byte (bit x.hold)] ++ le16 x.bend ++ [byte x.held.length]
  ++ x.held.map (fun e => byte e.key) ++ List.replicate (10 - x.held.length) 0xFF#8
  ++ le16 ((List.range 10).map fun n => if x.held[n]?.any HeldKey.sustained = true then 2 ^ n else 0).sum
  ++ [byte ((x.selected.map Fin.val).getD 255)] ++ le16 (voiceMask x.monoSet) ++ [byte (x.wanted.getD 0)]
  ++ (match slot with
      | none => List.replicate 9 0x00#8
      | some m => [0x01#8, byte (linkCode m.origin)] ++ le16 m.total ++ le16 m.elapsed
        ++ [byte m.curve.code, byte m.entries.length, byte m.taken])

/-- STATUS where no held-key list is longer than its 10 places. -/
abbrev statusRead (s : State) (l : Link) : Prop := s.ready l ∧ ∀ p, (s.perfOf p).held.length ≤ 10

end Sys2Proof.Given

/-- What the reading requests return, byte by byte. PARAM_GET: part, first, count, and for each parameter its live value
and its morphing mark, which a global parameter never has. VOICE_READ: 12 bytes for each voice. PANEL_READ: round
number, skipped rounds, and 5 bytes for each control or one for each switch. CAL_READ: state, kept anchors, last
result, tuning mark, counts and P values. STATUS: 183 bytes, the timestamp, the link's own queue state, overruns, the
counts of Link N, the number of deferred entries, the run record and the four part blocks (an absent queue as
assumption log 9 reads it). -/
def Obligations.ReadingRequestsReturnState : Prop :=
  (∀ (s : State) (l : Link) (p : PartId) (first count : Nat), Given.paramRun s l first count →
    ∃ t, exec (.paramGet l [byte p, byte first, byte count]) s = .next t ∧
      Took s t l 5 (okReply 0x11 false false ([byte p, byte first, byte count] ++
        ((List.finRange 40).filter fun i => decide (first ≤ i.val ∧ i.val < first + count)).flatMap fun i =>
          field16 (s.param p i) ++
            [byte (bit ((s.slotOf p).any fun m => m.entries.any fun e => e.index == i))])))
  ∧ (∀ (s : State) (l : Link) (first count : Nat), Given.globalRun s l first count →
    ∃ t, exec (.paramGet l [0x04#8, byte first, byte count]) s = .next t ∧
      Took s t l 5 (okReply 0x11 false false ([0x04#8, byte first, byte count] ++
        ((List.finRange 16).filter fun g => decide (first ≤ g.val ∧ g.val < first + count)).flatMap fun g =>
          field16 (s.global g) ++ [0x00#8])))
  ∧ (∀ (s : State) (l : Link) (first count : Nat), Given.voiceRun s l first count →
    ∃ t, exec (.voiceRead l [byte first, byte count]) s = .next t ∧
      Took s t l 4 (okReply 0x42 false false ([byte first, byte count] ++
        (allVoices.filter fun v => decide (first ≤ v.val ∧ v.val < first + count)).flatMap fun v =>
          Given.voiceBytes (s.voice v))))
  ∧ (∀ (s : State) (l : Link) (first count : Nat),
    let head (selector : Byte) : List Byte :=
      [selector, byte first, byte count] ++ le16 s.scanner.roundNumber.toNat ++ le16 s.scanner.skipped
    (Given.controlRun s l first count →
      ∃ t, exec (.panelRead l [0x00#8, byte first, byte count]) s = .next t ∧
        Took s t l 5 (okReply 0x22 false false (head 0x00#8 ++
          ((List.finRange 128).filter fun k => decide (first ≤ k.val ∧ k.val < first + count)).flatMap fun k =>
            Given.controlBytes (s.control k) (s.knob k))))
    ∧ (Given.switchRun s l first count →
      ∃ t, exec (.panelRead l [0x01#8, byte first, byte count]) s = .next t ∧
        Took s t l 5 (okReply 0x22 false false (head 0x01#8 ++
          ((List.finRange 64).filter fun i => decide (first ≤ i.val ∧ i.val < first + count)).map fun i =>
            match s.switches[i] with
            | none => 0x00#8
            | some x => byte (1 + 2 * bit x.closed)))))
  ∧ (∀ (s : State) (l : Link) (o : OscId), s.ready l →
    ∃ t, exec (.calRead l [byte o]) s = .next t ∧
      let c := s.cal o
      Took s t l 3 (okReply 0x32 false false ([byte o] ++
        (match c.map with
          | .nominal => [0x00#8, 0x00#8, 0x00#8]
          | .calibrated first ps => [0x01#8, byte first, byte (first + ps.length - 1)])
        ++ [byte c.lastResult.code, byte (bit (s.voice (voiceOfOsc o)).phase.isTuning)]
        ++ le16 c.unstableCount ++ le16 c.tuneCount ++ c.map.pitches.flatMap le16)))
  ∧ ∀ (s : State) (l : Link), Given.statusRead s l →
    ∃ t data, exec (.status l []) s = .next t ∧ Took s t l 2 (okReply 0x53 false false data) ∧ data.length = 183
      ∧ data = le16 s.timestamp.toNat
          ++ [byte (s.link l).queue.stored.length, byte (s.link l).queue.lost, (s.link l).queue.mask,
            byte (s.link l).queue.watermark]
          ++ le16 s.linkA.overruns ++ le16 s.linkB.overruns ++ le16 s.lineUnit.frameErrors
          ++ le16 s.lineUnit.byteErrors ++ le16 s.lineUnit.fifoOverruns ++ [byte s.deferred.length]
          ++ Given.runRecord s.run
          ++ allParts.flatMap fun p => Given.partBytes (s.perfOf p) (s.slotOf p)

/-! ### The panel and its bindings (chapters 5 and 6) -/

namespace Sys2Proof.Given

/-- Every switch of the address is unseeded, or stands at the level sampled. -/
abbrev quietSwitches (s : State) (address : Fin 8) (columns : BitVec 8) : Prop :=
  s.scanner.round = some { address, phase := .settling } ∧
    ∀ c : Fin 8, ∀ x ∈ s.switches[switchAt address c], x.closed = columns.getLsbD c.val

/-- One seeded switch of the address, at column c, is sampled at the level that is not its state; every other one is
unseeded or stands at the level sampled. `run` is the run that this sample makes (R96). -/
abbrev bouncing (s : State) (address : Fin 8) (columns : BitVec 8) (c : Fin 8) (x : SwitchSeed) (run : Nat) : Prop :=
  s.scanner.round = some { address, phase := .settling }
    ∧ s.switches[switchAt address c] = some x ∧ x.closed = !columns.getLsbD c.val
    ∧ (∀ d : Fin 8, d ≠ c → ∀ y ∈ s.switches[switchAt address d], y.closed = columns.getLsbD d.val)
    ∧ run = (match x.candidate with
      | some cand => if cand.closed = !x.closed then cand.run + 1 else 1
      | none => 1)

/-- A switch after one sample (R95, R96): an unseeded one takes the level as its state, one that stands at the level has
no candidate, and another one has a candidate of this level, whose run reaches DEBOUNCE_COUNT and makes it the state, or
does not. -/
def sampled (s : State) (level : Bool) (x : Option SwitchSeed) : SwitchSeed :=
  match x with
  | none => { closed := level, candidate := none }
  | some x =>
    let run := match x.candidate with
      | some cand => if cand.closed = level then cand.run + 1 else 1
      | none => 1
    if x.closed = level ∨ s.global gDebounceCount ≤ run then { closed := level, candidate := none }
    else { x with candidate := some { closed := level, run } }

/-- The switch at column c changes its state at this sample. -/
abbrev switching (s : State) (address : Fin 8) (columns : BitVec 8) (c : Fin 8) (x : SwitchSeed) (run : Nat) : Prop :=
  bouncing s address columns c x run ∧ s.global gDebounceCount ≤ run

/-- The binding of a switch event does nothing: no action or REPORT, or a release under STEP_PARAM, ALL_OFF or a LATCHED
HOLD (R115 to R118). -/
def restsAt (a : SwitchAction) (press : Bool) : Prop :=
  match a with
  | .none | .report => True
  | .stepParam _ _ | .allOff _ | .hold _ .latched => press = false
  | .hold _ .momentary => False

/-- The conversion of an unseeded control is in hand. -/
abbrev seeding (s : State) (address : Fin 8) (input : Fin 16) : Prop :=
  s.scanner.round = some { address, phase := .converting input }
    ∧ (s.control (controlAt address input)).seed = none

/-- The conversion of a seeded control is in hand. -/
abbrev converts (s : State) (address : Fin 8) (input : Fin 16) (x : Seeded) : Prop :=
  s.scanner.round = some { address, phase := .converting input }
    ∧ (s.control (controlAt address input)).seed = some x

/-- The deadband of a control (R91): 64 when NOISY, 16 when STILL, 4 when MOVING. -/
def deadband (c : Control) : Nat :=
  if c.noisy.isSome = true then 64 else if c.motion = .still then 16 else 4

/-- The conversion of a seeded control without NOISY is in hand, and its new filtered value leaves the position within
the deadband. -/
abbrev withinDeadband (s : State) (address : Fin 8) (input : Fin 16) (x : Seeded) (filtered : Nat) : Prop :=
  converts s address input x ∧ (s.control (controlAt address input)).noisy = none
    ∧ filtered / 16 ≤ x.reported + deadband (s.control (controlAt address input))
    ∧ x.reported ≤ filtered / 16 + deadband (s.control (controlAt address input))

/-- The conversion of a seeded control is in hand, and its new position lies beyond the deadband. -/
abbrev moves (s : State) (address : Fin 8) (input : Fin 16) (x : Seeded) (filtered : Nat) : Prop :=
  converts s address input x
    ∧ (x.reported + deadband (s.control (controlAt address input)) < filtered / 16
      ∨ filtered / 16 + deadband (s.control (controlAt address input)) < x.reported)

/-- A move that is the control's first, with NOISY clear, not more than 256 away: the noise guard has nothing to do but
to note its direction. -/
abbrev plainMove (s : State) (address : Fin 8) (input : Fin 16) (x : Seeded) (filtered : Nat) : Prop :=
  moves s address input x filtered ∧ (s.control (controlAt address input)).noisy = none
    ∧ (s.control (controlAt address input)).direction = .none
    ∧ filtered / 16 ≤ x.reported + 256 ∧ x.reported ≤ filtered / 16 + 256

/-- A plain move of a control without a binding. -/
abbrev firstMove (s : State) (address : Fin 8) (input : Fin 16) (x : Seeded) (filtered : Nat) : Prop :=
  plainMove s address input x filtered ∧ s.knob (controlAt address input) = none

/-- A move of a bound control. -/
abbrev boundMove (s : State) (address : Fin 8) (input : Fin 16) (x : Seeded) (filtered : Nat) (b : KnobBinding) :
    Prop :=
  moves s address input x filtered ∧ s.knob (controlAt address input) = some b

/-- A move of a control without a binding, whose noise guard may act. -/
abbrev guardedMove (s : State) (address : Fin 8) (input : Fin 16) (x : Seeded) (filtered : Nat) : Prop :=
  moves s address input x filtered ∧ s.knob (controlAt address input) = none

/-- A conversion of a NOISY control that raises no move event. -/
abbrev quietNoisy (s : State) (address : Fin 8) (input : Fin 16) (x : Seeded) (filtered quiet : Nat) : Prop :=
  converts s address input x ∧ (s.control (controlAt address input)).noisy = some quiet
    ∧ filtered / 16 ≤ x.reported + 64 ∧ x.reported ≤ filtered / 16 + 64

/-- A conversion touches no other control's record, and the scan round goes on, to the next input, the next address or
the end (R86). -/
def roundGoesOn (s t : State) (address : Fin 8) (input : Fin 16) : Prop :=
  (∀ c, c ≠ controlAt address input → t.control c = s.control c)
  ∧ t.scanner.roundNumber = s.scanner.roundNumber ∧ t.scanner.period = s.scanner.period
  ∧ t.scanner.skipped = s.scanner.skipped
  ∧ t.scanner.round =
      (if input.val = 15 then
        (if address.val = 7 then none else some { address := address + 1, phase := .settling })
      else some { address, phase := .converting (input + 1) })

/-- What a conversion without a write leaves alone besides its own control: only the scan round goes on. -/
def scanGoesOn (s t : State) (address : Fin 8) (input : Fin 16) : Prop :=
  t = { s with
    params := t.params, controls := t.controls, knobs := t.knobs, scanner := t.scanner
    linkA := t.linkA, linkB := t.linkB }
  ∧ roundGoesOn s t address input

/-- What the noise guard makes of a control's record at a move from p0 to p1 (R93, R94): the reversal list, the quiet
count, absent when NOISY is clear, and the state of the CONTROL_NOISY that it posts, if any. NOISY clear: a move of
more than 256 empties the list; a reversal drops the entries older than 31 rounds and adds this round, and the sixth
entry sets NOISY with an empty list and a count of 0. NOISY set: a move of more than 256 clears it and empties the
list, a reversal starts the count again, and any other move adds 1 to it, which clears NOISY at 1000. -/
def guarded (s : State) (c : Control) (p0 p1 : Nat) : List Stamp × Option Nat × Option Bool :=
  let large := p0 + 256 < p1 ∨ p1 + 256 < p0
  let reversal := (c.direction = .up ∧ p1 ≤ p0) ∨ (c.direction = .down ∧ p0 < p1)
  let round := s.scanner.roundNumber
  let list := c.reversals.filter (fun e => decide ((round - e).toNat ≤ 31)) ++ [round]
  match c.noisy with
  | none =>
    if large then ([], none, none)
    else if reversal then (if 6 ≤ list.length then ([], some 0, some true) else (list, none, none))
    else (c.reversals, none, none)
  | some n =>
    if large then ([], none, some false)
    else if reversal then (c.reversals, some 0, none)
    else if 1000 ≤ n + 1 then (c.reversals, none, some false)
    else (c.reversals, some (n + 1), none)

/-- A control's record after a move to p1: reported, MOVING with STILL_TIMEOUT, the direction of the move, and what the
noise guard made of it (R91). -/
def movedControl (s : State) (c : Control) (x : Seeded) (filtered : Nat) : Control :=
  let p1 := filtered / 16
  { seed := some { filtered, reported := p1 }, motion := .moving (s.global gStillTimeout)
    direction := if x.reported < p1 then .up else .down, reversals := (guarded s c x.reported p1).1
    noisy := (guarded s c x.reported p1).2.1 }

/-- A link after CONTROL_NOISY, when it is posted (R98). -/
def noisyTold (s : State) (k : ControlId) (reported : Nat) (set : Option Bool) (u : LinkUnit) : LinkUnit :=
  match set with
  | some yes => u.told (u.queue.mask.getLsbD 2)
      { kind := .controlNoisy, subject := k, value1 := bit yes, value2 := reported, stamp := s.timestamp }
  | none => u

/-- The filtered value after a conversion with value r (R90). -/
abbrev filters (s : State) (x : Seeded) (r : BitVec 12) (filtered : Nat) : Prop :=
  (filtered : Int) = x.filtered + (16 * (r.toNat : Int) - x.filtered) / 2 ^ s.global gKnobFilter

/-- CONTROL_MOVED (R98). -/
def movedNotice (s : State) (k : ControlId) (x : Seeded) (p1 : Nat) : Notice :=
  { kind := .controlMoved, subject := k, value1 := p1, value2 := x.reported, stamp := s.timestamp }

/-- PARAM_CHANGED with source PANEL (R57). -/
def panelWrote (s : State) (p : PartId) (i : ParamId) (y : Nat) : Notice :=
  { kind := .paramChanged, subject := p, value1 := 256 * 3 + i.val, value2 := y, stamp := s.timestamp }

/-- The entry of a parameter in the running morph of its part. -/
def entryOf (s : State) (p : PartId) (i : ParamId) : Option MorphEntry :=
  (s.slotOf p).bind fun m => m.entries.find? fun e => e.index == i

/-- The slot of a part after a parameter left its morph and was counted (R82); the slot is as it was when the
parameter is no entry of it. -/
def slotWithout (s : State) (p : PartId) (i : ParamId) : Option Morph :=
  (s.slotOf p).map fun m =>
    if (entryOf s p i).isSome then
      { m with entries := m.entries.filter fun e => e.index != i, taken := min 255 (m.taken + 1) }
    else m

/-- What a write of y by the panel does to the image, the slots and the voices (R82, R111, R116): it is stored, the
parameter leaves a running morph, whose chain ends when it has no entry left, and a STRUCT parameter that changes its
value does to the voices, the run and the measurement what a PARAM_SET of that value does. -/
def panelWrites (s t : State) (p : PartId) (i : ParamId) (y : Nat) : Prop :=
  t.param p i = y ∧ (∀ q j, ¬(q = p ∧ j = i) → t.param q j = s.param q j)
  ∧ t.slotOf p = (if (entryOf s p i).isSome then (slotWithout s p i).filter fun m => decide (m.entries ≠ [])
      else s.slotOf p)
  ∧ (∀ q, q ≠ p → t.slotOf q = s.slotOf q)
  ∧ ((descriptor i).cls ≠ .struct ∨ y = s.param p i → sameVoices s t)
  ∧ (s.Settled → s.param p pReleaseWindow ≠ 0 → sameTune s t)
  ∧ ((descriptor i).cls = .struct → inRange i y → ∀ l, s.ready l →
    ∃ u, exec (.paramSet l ([byte p, byte i] ++ field16 y)) s = .next u ∧ sameVoices u t)

/-- A link after a write by the panel: APPLIED with 0 entries when the write ended a chain, to its origin and the
subscribers of PARAMS, and then PARAM_CHANGED to the subscribers (R57, R82, R85). -/
def panelTold (s : State) (p : PartId) (i : ParamId) (y : Nat) (l : Link) (u : LinkUnit) : LinkUnit :=
  let subscribed := u.queue.mask.getLsbD 1
  let ended : LinkUnit :=
    match slotWithout s p i with
    | some m => u.told ((entryOf s p i).isSome && m.entries.isEmpty && (l == m.origin || subscribed))
        { kind := .applied, subject := p, value1 := 0, value2 := 256 * linkCode m.origin + m.taken
          stamp := s.timestamp }
    | none => u
  ended.told subscribed (panelWrote s p i y)

/-- The scan period timer runs. -/
abbrev periodRuns (s : State) : Prop := s.scanner.period.isSome = true

/-- A switch action whose part mask, if it has one, names a part. -/
abbrev namesPart (a : SwitchAction) : Prop :=
  match a with
  | .hold mask _ => mask ≠ 0
  | .allOff mask => mask ≠ 0
  | _ => True

end Sys2Proof.Given

/-- MAP_KNOB replaces the binding of one control whole: with target NONE it is removed, with a part it enters its
pickup state against the live value. The reply tells the old binding and the new pickup state; no parameter is written
and no notice posted. MAP_SWITCH replaces the binding of one switch with the action that its payload names, and tells
the old one. -/
def Obligations.BindingRequestsReplaceOneBinding : Prop :=
  (∀ (s : State) (l : Link) (k : ControlId), s.ready l →
      let old : List Byte := match s.knob k with
        | some b => [byte b.part, byte b.index, byte b.mode.code]
        | none => [0x0F#8, 0x00#8, 0x00#8]
      (∀ x y : Byte, ∃ t, exec (.mapKnob l [byte k, 0x0F#8, x, y]) s = .next t
        ∧ t = { s with knobs := t.knobs, linkA := t.linkA, linkB := t.linkB }
        ∧ t.knob k = none ∧ (∀ c, c ≠ k → t.knob c = s.knob c)
        ∧ Took s t l 6 (okReply 0x20 false false ([byte k] ++ old ++ [0x00#8])))
      ∧ ∀ (p : PartId) (i : ParamId) (mode : KnobMode),
        let pickup := Given.pickupFor mode (Given.knobPosition i (Given.reportedAt s k)) (s.param p i)
        ∃ t, exec (.mapKnob l [byte k, byte p, byte i, byte mode.code]) s = .next t
          ∧ t = { s with knobs := t.knobs, linkA := t.linkA, linkB := t.linkB }
          ∧ t.knob k = some { part := p, index := i, mode, pickup } ∧ (∀ c, c ≠ k → t.knob c = s.knob c)
          ∧ Took s t l 6 (okReply 0x20 false false ([byte k] ++ old ++ [byte pickup.code])))
  ∧ ∀ (s : State) (l : Link) (i : SwitchId) (a : SwitchAction), s.ready l → Given.namesPart a →
      ∃ t, exec (.mapSwitch l (byte i :: actionBytes a)) s = .next t
        ∧ t = { s with switchActions := t.switchActions, linkA := t.linkA, linkB := t.linkB }
        ∧ t.switchActions[i] = a ∧ (∀ j : SwitchId, j ≠ i → t.switchActions[j] = s.switchActions[j])
        ∧ Took s t l 6 (okReply 0x21 false false (byte i :: actionBytes s.switchActions[i]))

/-- At each expiry the period timer is started again with SCAN_PERIOD as it stands; with no round running a round with
the next number starts, otherwise the expiry is skipped and counted. RESET_PANEL makes every control and switch record
unseeded, abandons the running round and starts a new one at once; bindings, period timer and skipped-round counter
stay. (That the mux address stands at 0 with the new round: assumption log 16.) -/
def Obligations.ScanRoundsStartOrAreSkipped : Prop :=
  (∀ s : State, Given.periodRuns s →
      exec .scanPeriodExpiry s = .next { s with scanner :=
        match s.scanner.round with
        | none => { s.scanner with
            period := some (s.global gScanPeriod), roundNumber := s.scanner.roundNumber + 1
            round := some { address := 0, phase := .settling }, msel := 0 }
        | some _ => { s.scanner with
            period := some (s.global gScanPeriod), skipped := min 65535 (s.scanner.skipped + 1) } })
  ∧ ∀ (s : State) (l : Link), s.ready l →
      ∃ t, exec (.resetPanel l []) s = .next t
        ∧ t = { s with
            controls := t.controls, switches := t.switches
            scanner := { s.scanner with
              roundNumber := s.scanner.roundNumber + 1, round := some { address := 0, phase := .settling }, msel := 0 }
            linkA := t.linkA, linkB := t.linkB }
        ∧ (∀ k, t.control k =
            { seed := none, motion := .still, direction := .none, reversals := [], noisy := none })
        ∧ (∀ i : SwitchId, t.switches[i] = none)
        ∧ Took s t l 2 (okReply 0x61 false false [])

/-- At the end of a settle the eight switches of the address are sampled: an unseeded one takes the level of its
column as its state, one that stands at the level drops its candidate, and neither raises an event. One that differs
takes or continues a candidate; when its run reaches DEBOUNCE_COUNT its state changes. Then its binding acts (no action
and REPORT do nothing; STEP_PARAM at a press writes the next value with the panel as its writer; HOLD and ALL_OFF do
what the requests HOLD and ALL_OFF do, a LATCHED press toggles each flag on its own), and after that SWITCH_CHANGED is
posted to the subscribers of PANEL. Conversions begin with input 0. The operand of the command is the model's
(assumption log 16), and so is the order of columns (assumption log 27): what a sample does to the switch records is
said for all eight, what it does besides where at most one switch changes. -/
def Obligations.SettledAddressSamplesSwitches : Prop :=
  ∀ (s : State) (address : Fin 8) (columns : BitVec 8),
    let scanner : Scanner := { s.scanner with round := some { address, phase := .converting 0 } }
    let others (t : State) : Prop :=
      t.scanner = scanner ∧ ∀ i : SwitchId, (∀ c, i ≠ switchAt address c) → t.switches[i] = s.switches[i]
    (s.scanner.round = some { address, phase := .settling } →
      ∃ t, exec (.scanAddressSettled columns) s = .next t ∧ others t
        ∧ ∀ c : Fin 8, t.switches[switchAt address c]
            = some (Given.sampled s (columns.getLsbD c.val) s.switches[switchAt address c]))
    ∧ (Given.quietSwitches s address columns →
      ∃ t, exec (.scanAddressSettled columns) s = .next t
        ∧ t = { s with switches := t.switches, scanner } ∧ others t
        ∧ ∀ c : Fin 8, t.switches[switchAt address c] = some { closed := columns.getLsbD c.val, candidate := none })
    ∧ ∀ (c : Fin 8) (x : SwitchSeed) (run : Nat),
      let i := switchAt address c
      let press := columns.getLsbD c.val
      let samples (t : State) (seed : SwitchSeed) : Prop :=
        others t ∧ t.switches[i] = some seed
        ∧ ∀ d : Fin 8, d ≠ c →
          t.switches[switchAt address d] = some { closed := columns.getLsbD d.val, candidate := none }
      let changed (u : LinkUnit) : LinkUnit := u.told (u.queue.mask.getLsbD 2)
        { kind := .switchChanged, subject := i, value1 := bit press, value2 := s.scanner.roundNumber.toNat
          stamp := s.timestamp }
      (Given.bouncing s address columns c x run → run < s.global gDebounceCount →
        ∃ t, exec (.scanAddressSettled columns) s = .next t ∧ t = { s with switches := t.switches, scanner }
          ∧ samples t { closed := x.closed, candidate := some { closed := press, run } })
      ∧ (Given.switching s address columns c x run →
        ∃ t, exec (.scanAddressSettled columns) s = .next t ∧ samples t { closed := press, candidate := none }
          ∧ (Given.restsAt s.switchActions[i] press →
            t = { s with switches := t.switches, scanner, linkA := t.linkA, linkB := t.linkB }
            ∧ ∀ l, t.link l = changed (s.link l))
          ∧ (∀ p j, s.switchActions[i] = .stepParam p j → press = true →
            let y := if s.param p j < (descriptor j).max then s.param p j + 1 else (descriptor j).min
            t = { s with
              voices := t.voices, serial := t.serial, deferred := t.deferred, perf := t.perf, glides := t.glides
              run := t.run, measurement := t.measurement, candidate := t.candidate, fsel := t.fsel
              params := t.params, slots := t.slots, knobs := t.knobs, switches := t.switches, scanner
              linkA := t.linkA, linkB := t.linkB }
            ∧ Given.panelWrites s t p j y
            ∧ (∀ k, t.knob k = (s.knob k).map (Given.told p (Given.only j y) (Given.reportedAt s k)))
            ∧ ∀ l, t.link l = changed (Given.panelTold s p j y l (s.link l)))
          ∧ (∀ mask, s.switchActions[i] = .hold mask .momentary → mask ≠ 0 → ∀ l, s.ready l →
            ∃ u, exec (.hold l [byte mask.toNat, byte (bit press)]) s = .next u
              ∧ t = { u with switches := t.switches, scanner, linkA := t.linkA, linkB := t.linkB }
              ∧ ∀ k, t.link k = changed (s.link k))
          ∧ (∀ mask, s.switchActions[i] = .hold mask .latched → press = true →
            (∀ p, (t.perfOf p).hold = ((s.perfOf p).hold != mask.getLsbD p.val))
            ∧ ∀ on, mask ≠ 0 → (∀ p : PartId, mask.getLsbD p.val = true → (s.perfOf p).hold = !on) →
              ∀ l, s.ready l → ∃ u, exec (.hold l [byte mask.toNat, byte (bit on)]) s = .next u
                ∧ t = { u with switches := t.switches, scanner, linkA := t.linkA, linkB := t.linkB }
                ∧ ∀ k, t.link k = changed (s.link k))
          ∧ ∀ mask, s.switchActions[i] = .allOff mask → press = true → mask ≠ 0 → ∀ l, s.ready l →
            ∃ u, exec (.allOff l [byte mask.toNat]) s = .next u
              ∧ t = { u with switches := t.switches, scanner, linkA := t.linkA, linkB := t.linkB }
              ∧ ∀ k, t.link k = changed (s.link k))

/-- A conversion with value r. An unseeded control is seeded with filtered r × 16 and reported r, and its binding
enters its pickup state against the live value of its parameter. A seeded control whose position stays within the
deadband only moves its filter. One that leaves the deadband (here: without a binding, as its first move, not beyond
256) takes the position as reported, becomes MOVING with STILL_TIMEOUT, and CONTROL_MOVED goes to the subscribers of
PANEL. Which control a conversion belongs to is read from the scanner (model's: assumption log 16). -/
def Obligations.ConversionUpdatesControl : Prop :=
  ∀ (s : State) (address : Fin 8) (input : Fin 16) (r : BitVec 12),
    let k := controlAt address input
    (Given.seeding s address input → ∃ t, exec (.controlConversion r) s = .next t
      ∧ Given.scanGoesOn s t address input ∧ t.params = s.params
      ∧ t.control k = { s.control k with seed := some { filtered := 16 * r.toNat, reported := r.toNat } }
      ∧ t.knob k = (s.knob k).map (fun b => { b with
          pickup := Given.pickupFor b.mode (Given.knobPosition b.index r.toNat) (s.param b.part b.index) })
      ∧ (∀ c, c ≠ k → t.knob c = s.knob c)
      ∧ (∀ l, t.link l = s.link l))
    ∧ ∀ (x : Seeded) (filtered : Nat), Given.filters s x r filtered →
      (Given.withinDeadband s address input x filtered →
        ∃ t, exec (.controlConversion r) s = .next t ∧ Given.scanGoesOn s t address input ∧ t.params = s.params
        ∧ t.control k = { s.control k with seed := some { filtered, reported := x.reported } }
        ∧ (∀ l, t.link l = s.link l) ∧ t.knobs = s.knobs)
      ∧ (Given.firstMove s address input x filtered → ∃ t, exec (.controlConversion r) s = .next t
        ∧ Given.scanGoesOn s t address input ∧ t.params = s.params
        ∧ t.control k = { s.control k with
            seed := some { filtered, reported := filtered / 16 }
            motion := .moving (s.global gStillTimeout)
            direction := if x.reported < filtered / 16 then .up else .down }
        ∧ (∀ l, t.link l = (s.link l).told ((s.link l).queue.mask.getLsbD 2)
            (Given.movedNotice s k x (filtered / 16)))
        ∧ t.knobs = s.knobs)

/-- A move of a bound control, to position p1. LIVE writes kv(p1). CATCH_UP and CATCH_DOWN write kv(p1) and go LIVE
when it has reached the live value, or in a running morph its entry's target, from below or above; otherwise nothing
is written. SCALE writes v + trunc((E - v) × (p1 - p0) / (K - p0)), and goes LIVE when that is kv(p1). A write has the
panel as its writer, and takes the parameter out of a running morph; one that finds the value there outside a morph is
not carried out. Each link hears CONTROL_NOISY when the noise guard acts, APPLIED when a chain ended, PARAM_CHANGED,
CONTROL_TAKEN when the control went LIVE, and then CONTROL_MOVED. Which control a conversion belongs to is read from
the scanner (model's: assumption log 16). -/
def Obligations.BoundMovesTakeTheParameter : Prop :=
  ∀ (s : State) (address : Fin 8) (input : Fin 16) (r : BitVec 12) (x : Seeded) (filtered : Nat) (b : KnobBinding),
    Given.filters s x r filtered → Given.boundMove s address input x filtered b →
    let k := controlAt address input
    let p := b.part
    let i := b.index
    let p1 := filtered / 16
    let v := s.param p i
    let kv := Given.knobPosition i p1
    let entry := Given.entryOf s p i
    let reference := (entry.map MorphEntry.target).getD v
    let noisy := Given.noisyTold s k p1 (Given.guarded s (s.control k) x.reported p1).2.2
    let moved (u : LinkUnit) : LinkUnit := u.told (u.queue.mask.getLsbD 2) (Given.movedNotice s k x p1)
    let taken (y : Nat) (live : Bool) (u : LinkUnit) : LinkUnit :=
      u.told (u.queue.mask.getLsbD 2 && (live && b.pickup != .live))
        { kind := .controlTaken, subject := k, value1 := 256 * p.val + i.val, value2 := y, stamp := s.timestamp }
    let control (t : State) : Prop :=
      t = { s with
        voices := t.voices, serial := t.serial, deferred := t.deferred, perf := t.perf, glides := t.glides
        run := t.run, measurement := t.measurement, candidate := t.candidate, fsel := t.fsel
        params := t.params, slots := t.slots, controls := t.controls, knobs := t.knobs, scanner := t.scanner
        linkA := t.linkA, linkB := t.linkB }
      ∧ Given.roundGoesOn s t address input ∧ t.control k = Given.movedControl s (s.control k) x filtered
    let unwritten (t : State) : Prop := t.params = s.params ∧ t.slots = s.slots ∧ Given.sameVoices s t
    let stays : Prop := ∃ t, exec (.controlConversion r) s = .next t ∧ control t ∧ unwritten t ∧ t.knobs = s.knobs
      ∧ ∀ l, t.link l = moved (noisy (s.link l))
    let takes (y : Nat) (live : Bool) : Prop :=
      let writes : Bool := y != v || entry.isSome
      let told (reported : Nat) (b : KnobBinding) : KnobBinding :=
        if writes then Given.told p (Given.only i y) reported b else b
      ∃ t, exec (.controlConversion r) s = .next t ∧ control t
        ∧ (writes = true → Given.panelWrites s t p i y) ∧ (writes = false → unwritten t)
        ∧ (∀ c, c ≠ k → t.knob c = (s.knob c).map (told (Given.reportedAt s c)))
        ∧ t.knob k = some (if live then { b with pickup := .live } else told p1 b)
        ∧ ∀ l, t.link l =
            moved (taken y live ((if writes then Given.panelTold s p i y l else id) (noisy (s.link l))))
    match b.pickup with
    | .live => takes kv true
    | .catchUp => if reference ≤ kv then takes kv true else stays
    | .catchDown => if kv ≤ reference then takes kv true else stays
    | .scale =>
      let e : Int := if x.reported < p1 then (descriptor i).max else (descriptor i).min
      let last : Int := if x.reported < p1 then 4095 else 0
      let y := ((v : Int) + ((e - v) * ((p1 : Int) - x.reported)).tdiv (last - x.reported)).toNat
      takes y (y == kv)

/-- The noise guard acts as `Given.guarded` says, here at a move of a control without a binding; CONTROL_NOISY goes to
the subscribers of PANEL before CONTROL_MOVED. A conversion of a NOISY control that raises no move adds 1 to its quiet
count, which clears NOISY at 1000 with CONTROL_NOISY. (Which control a conversion belongs to: assumption log 16.) -/
def Obligations.NoiseGuardCountsReversals : Prop :=
  ∀ (s : State) (address : Fin 8) (input : Fin 16) (r : BitVec 12) (x : Seeded) (filtered : Nat),
    Given.filters s x r filtered →
    let k := controlAt address input
    let c := s.control k
    let p1 := filtered / 16
    (Given.guardedMove s address input x filtered →
      ∃ t, exec (.controlConversion r) s = .next t ∧ Given.scanGoesOn s t address input ∧ t.params = s.params
        ∧ t.knobs = s.knobs ∧ t.control k = Given.movedControl s c x filtered
        ∧ ∀ l, t.link l = (Given.noisyTold s k p1 (Given.guarded s c x.reported p1).2.2 (s.link l)).told
            ((s.link l).queue.mask.getLsbD 2) (Given.movedNotice s k x p1))
    ∧ ∀ n, Given.quietNoisy s address input x filtered n →
      ∃ t, exec (.controlConversion r) s = .next t ∧ Given.scanGoesOn s t address input ∧ t.params = s.params
        ∧ t.knobs = s.knobs
        ∧ t.control k = { c with
            seed := some { filtered, reported := x.reported }, noisy := if 1000 ≤ n + 1 then none else some (n + 1) }
        ∧ ∀ l, t.link l =
            Given.noisyTold s k x.reported (if 1000 ≤ n + 1 then some false else none) (s.link l)

namespace Sys2Proof.Given

/-- The control is MOVING. -/
abbrev movingControl (s : State) (k : ControlId) (timer : Nat) : Prop := (s.control k).motion = .moving timer

/-- The measurement settles. -/
abbrev settling (s : State) (m : Measurement) : Prop := s.measurement = some m ∧ m.phase = .settle

/-- A retrigger pulse runs on a GATED voice. -/
abbrev pulsing (s : State) (v : VoiceId) (n : Note) (sustained : Bool) (pulse : Nat) : Prop :=
  (s.voice v).phase = .gated n sustained (some pulse)

end Sys2Proof.Given

/-- Four timers that write one field. The still timer makes its control STILL; the settle timer makes the measurement
PROBE_WAIT and starts the edge timer with 250 ms; the end of a retrigger pulse returns the gate line high; a
millisecond raises the timestamp by 1, wrapping. Nothing else changes. -/
def Obligations.FieldTimersWriteOneField : Prop :=
  (∀ (s : State) (k : ControlId) (timer : Nat), Given.movingControl s k timer →
    ∃ t, exec (.stillTimeoutExpiry k) s = .next t ∧ t = { s with controls := t.controls }
      ∧ t.control k = { s.control k with motion := .still } ∧ ∀ c, c ≠ k → t.control c = s.control c)
  ∧ (∀ (s : State) (m : Measurement), Given.settling s m →
    exec .settleExpiry s = .next { s with measurement := some { m with phase := .probeWait, timer := 250 } })
  ∧ (∀ (s : State) (v : VoiceId) (n : Note) (sustained : Bool) (pulse : Nat), Given.pulsing s v n sustained pulse →
    ∃ t, exec (.retriggerPulseEnd v) s = .next t ∧ t = { s with voices := t.voices }
      ∧ t.voice v = { s.voice v with phase := .gated n sustained none }
      ∧ (s.voice v).gateLine = false ∧ (t.voice v).gateLine = true
      ∧ ∀ w, w ≠ v → t.voice w = s.voice w)
  ∧ ∀ s : State, s.resetRun = none → exec .timestampTick s = .next { s with timestamp := s.timestamp + 1 }

/-! ### The tune engine (chapters 7 and 8) -/

namespace Sys2Proof.Given

/-- The voices of a mask that a TUNE_START queues (R137). -/
def tuneQueue (s : State) (mask : Nat) : List VoiceId :=
  allVoices.filter fun v => mask.testBit v.val &&
    match (s.voice v).phase with
    | .offline .disabled | .damping _ _ true _ => false
    | _ => true

/-- No run exists, and no voice of the mask is TUNING. -/
abbrev noTuning (s : State) (mask : Nat) : Prop :=
  s.run = none ∧ 0 < mask ∧ mask < 65536
    ∧ ∀ v : VoiceId, mask.testBit v.val = true → (s.voice v).phase.isTuning = false

/-- A TUNE_START without a run. -/
abbrev tuneFree (s : State) (l : Link) (mask : Nat) : Prop := s.ready l ∧ noTuning s mask

/-- A TUNE_START while a run exists. -/
abbrev tuneTwice (s : State) (l : Link) (mask : Nat) : Prop :=
  s.ready l ∧ s.run.isSome = true ∧ 0 < mask ∧ mask < 65536

/-- A run that is WAITING while no voice is TUNING. -/
abbrev waitingRun (s : State) (l : Link) (r : Run) : Prop :=
  s.ready l ∧ s.run = some r ∧ r.current = none ∧ ∀ v, (s.voice v).phase.isTuning = false

/-- No run exists. -/
abbrev noRun (s : State) (l : Link) : Prop := s.ready l ∧ s.run = none

/-- A CAL_WRITE of an oscillator whose voice is not TUNING. -/
abbrev calFree (s : State) (l : Link) (o : OscId) : Prop :=
  s.ready l ∧ (s.voice (voiceOfOsc o)).phase.isTuning = false

/-- P values of four or more anchors, of which neighbours lie 2048 to 8192 apart. -/
abbrev goodMap (first last : Nat) (ps : List Nat) : Prop :=
  last ≤ 7 ∧ first + 3 ≤ last ∧ ps.length = last + 1 - first ∧ (∀ x ∈ ps, x < 65536)
    ∧ ∀ x ∈ ps.zip ps.tail, x.1 + 2048 ≤ x.2 ∧ x.2 ≤ x.1 + 8192

/-- A calibrated CAL_WRITE that passes its checks. -/
abbrev calWrite (s : State) (l : Link) (o : OscId) (first last : Nat) (ps : List Nat) : Prop :=
  calFree s l o ∧ goodMap first last ps

/-- A measurement in a phase. -/
abbrev measuring (s : State) (m : Measurement) (phase : MeasurePhase) : Prop :=
  s.measurement = some m ∧ m.phase = phase

/-- An edge at most 250 ms after the one before. -/
abbrev inTime (ticks : Nat) : Prop := 2 ≤ ticks ∧ ticks ≤ 4000000

/-- An edge closes a probe. -/
abbrev closesProbe (s : State) (m : Measurement) (ticks : Nat) : Prop :=
  measuring s m .probe ∧ s.periodCounter = 0 ∧ inTime ticks

/-- An edge inside a count. -/
abbrev insideCount (s : State) (m : Measurement) (ticks c1 n periods : Nat) : Prop :=
  measuring s m (.count c1 n periods) ∧ inTime ticks ∧ s.periodCounter + ticks < 16777215 ∧ periods + 1 < n

/-- An edge closes a count that is not stable, at attempt 1 or 2. -/
abbrev unstableClose (s : State) (m : Measurement) (ticks c1 n periods : Nat) : Prop :=
  measuring s m (.count c1 n periods) ∧ inTime ticks ∧ s.periodCounter + ticks < 16777215 ∧ n ≤ periods + 1
    ∧ m.attempt < 3 ∧ n * c1 < ((s.periodCounter + ticks : Nat) - (n * c1 : Nat) : Int).natAbs * 16

/-- The run measures an anchor below 7 of its current oscillator, whose candidate is open. -/
abbrev anchorRuns (s : State) (m : Measurement) (r : Run) (c : Current) (cand : CalCandidate) : Prop :=
  s.measurement = some m ∧ s.run = some r ∧ r.current = some c ∧ s.candidate = some cand ∧ m.anchor = c.anchor
    ∧ c.anchor.val < 7

/-- An edge closes a count of an anchor below 7. -/
abbrev closesCount (s : State) (m : Measurement) (r : Run) (c : Current) (cand : CalCandidate)
    (ticks c1 n periods : Nat) : Prop :=
  anchorRuns s m r c cand ∧ m.phase = .count c1 n periods ∧ inTime ticks ∧ s.periodCounter + ticks < 16777215
    ∧ n ≤ periods + 1

/-- An anchor below 7 ended with a result: its entry is written, and the next anchor starts, with its own code on both
pitch channels of the voice (R123, R133). -/
def nextAnchor (s t : State) (m : Measurement) (r : Run) (c : Current) (cand : CalCandidate) (res : AnchorResult) :
    Prop :=
  t = { s with
    voices := t.voices, measurement := t.measurement, periodCounter := t.periodCounter
    fsel := oscOf c.voice c.second, run := t.run, candidate := t.candidate, calibration := t.calibration }
  ∧ t.candidate = some { cand with entries := cand.entries.set m.anchor (some res) }
  ∧ t.run = some { r with current := some { c with anchor := c.anchor + 1 } }
  ∧ t.measurement = some
      { voice := c.voice, osc := oscOf c.voice c.second, anchor := c.anchor + 1, attempt := 1, phase := .settle
        timer := 20 }
  ∧ t.voice c.voice = { s.voice c.voice with phase := .tuning (2048 + 8192 * (c.anchor.val + 1)) }
  ∧ ∀ v, v ≠ c.voice → t.voice v = s.voice v

/-- The edge timer runs while the run measures an anchor below 7. -/
abbrev edgeRuns (s : State) (m : Measurement) (r : Run) (c : Current) (cand : CalCandidate) : Prop :=
  anchorRuns s m r c cand ∧ m.phase ≠ .settle

/-- A count runs while the run measures an anchor below 7. -/
abbrev counting (s : State) (m : Measurement) (r : Run) (c : Current) (cand : CalCandidate)
    (c1 n periods : Nat) : Prop :=
  anchorRuns s m r c cand ∧ m.phase = .count c1 n periods

/-- The last anchor of the current oscillator ends with a result: DEAD at the expiry of the edge timer; at the edge that
closes a count, PASSED or OUT_OF_RANGE when it is stable, and UNSTABLE at attempt 3 when it is not (R127, R129,
R131). -/
def lastAnchor (s : State) (m : Measurement) (res : AnchorResult) : Instr → Prop
  | .edgeTimerExpiry => m.phase ≠ .settle ∧ res = .dead
  | .finEdge ticks =>
    match m.phase with
    | .count c1 n periods =>
      inTime ticks ∧ s.periodCounter + ticks < 16777215 ∧ n ≤ periods + 1
        ∧ (if ((s.periodCounter + ticks : Nat) - (n * c1 : Nat) : Int).natAbs * 16 ≤ n * c1 then
            res = (let pitch : Int := 64205 + 3072 * Nat.log2 n - logUnit (s.periodCounter + ticks)
              if 0 ≤ pitch ∧ pitch ≤ 65535 then .passed pitch.toNat else .outOfRange)
          else m.attempt = 3 ∧ res = .unstable)
    | _ => False
  | _ => False

/-- The run measures anchor 7 of its current oscillator, whose candidate is open, and the anchor ends at a command. -/
abbrev decides (s : State) (m : Measurement) (r : Run) (c : Current) (cand : CalCandidate) (res : AnchorResult)
    (cmd : Instr) : Prop :=
  s.measurement = some m ∧ s.run = some r ∧ r.current = some c ∧ s.candidate = some cand ∧ m.anchor = 7
    ∧ c.anchor.val = 7 ∧ cand.osc = oscOf c.voice c.second ∧ m.osc = cand.osc ∧ lastAnchor s m res cmd

/-- Span (a, a + 1) of a candidate is good (R143). -/
def goodSpan (es : Vector (Option AnchorResult) 8) (a : Nat) : Prop :=
  match es[a]?, es[a + 1]? with
  | some (some (.passed p)), some (some (.passed q)) => p + 2048 ≤ q ∧ q ≤ p + 8192
  | _, _ => False

/-- The spans (f, f + 1) to (f + n - 1, f + n) are a chain of good spans (R143). -/
def chain (es : Vector (Option AnchorResult) 8) (f n : Nat) : Prop := ∀ j, j < n → goodSpan es (f + j)

/-- The chain of n spans from anchor f is the kept run: the longest, the lowest at a tie (R143). -/
def keptRun (es : Vector (Option AnchorResult) 8) (f n : Nat) : Prop :=
  1 ≤ n ∧ f + n ≤ 7 ∧ chain es f n
    ∧ ∀ g k, g + k ≤ 7 → chain es g k → k ≤ n ∧ (k = n → 1 ≤ k → f ≤ g)

/-- The decision of a candidate with these entries (R144): result and map, for an oscillator whose map stands at
`old`. -/
def decision (es : Vector (Option AnchorResult) 8) (old : CalMap) (result : CalResult) (map : CalMap) : Prop :=
  (∃ f, f ≤ 4 ∧ ∃ n, n ≤ 7 ∧ 3 ≤ n ∧ keptRun es f n ∧ result = .pass
    ∧ map = .calibrated f ((List.range (n + 1)).map fun j =>
        match es[f + j]? with
        | some (some (.passed p)) => p
        | _ => 0))
  ∨ ((∀ f, f ≤ 4 → ¬chain es f 3) ∧ map = old
    ∧ result = (if es.toList.all (· == some .dead) then .noSignal
        else if es.toList.any (· == some .dead) then .dead
        else if es.toList.any (· == some .unstable) then .unstable
        else .shortRun))

/-- The run after an oscillator was decided (R144). -/
def counted (r : Run) (result : CalResult) : Run :=
  if result = .pass then { r with passCount := r.passCount + 1 } else { r with failCount := r.failCount + 1 }

/-- TUNE_VOICE_DONE: the results of both oscillators, each with the number of anchors that its record keeps (R156). -/
def voiceDone (t : State) (v : VoiceId) (a b : CalResult) (stamp : Stamp) : Notice :=
  let value (second : Bool) (result : CalResult) : Nat := 256 * result.code +
    match (t.cal (oscOf v second)).map with
    | .nominal => 0
    | .calibrated _ ps => ps.length
  { kind := .tuneVoiceDone, subject := v, value1 := value false a, value2 := value true b, stamp }

/-- TUNE_RUN_DONE (R156). -/
def runDone (r : Run) (aborted : Bool) (stamp : Stamp) : Notice :=
  { kind := .tuneRunDone, subject := linkOrNone r.requester, value1 := 256 * r.passCount + r.failCount
    value2 := bit aborted, stamp }

/-- VOICE_OFFLINE of a voice that returns to FAULT, with the oscillators that gave NO_SIGNAL (R156). -/
def voiceFault (v : VoiceId) (a b : Bool) (stamp : Stamp) : Notice :=
  { kind := .voiceOffline, subject := v, value1 := 2, value2 := bit a + 2 * bit b, stamp }

/-- A voice that the tune engine hands back (R29), to OFFLINE with FAULT or to IDLE. -/
def handedBack (s : State) (v : VoiceId) (fault : Bool) : Voice :=
  if fault then { s.voice v with phase := .offline .fault, claim := false }
  else { s.voice v with phase := .idle, claim := false, releaseStamp := s.timestamp }

/-- What the voice's end does next (R145): the queue is empty, or a BACKGROUND head is IDLE or sounds, or a FOREGROUND
head is TUNING or still damps. -/
inductive Next where
  | ends
  | measures (h : VoiceId) (rest : List VoiceId)
  | waits (h : VoiceId)
deriving DecidableEq, Repr

/-- The next of a run whose current voice was v. -/
def nextIs (s : State) (r : Run) (v : VoiceId) : Next → Prop
  | .ends => r.queue = []
  | .measures h rest => r.queue = h :: rest ∧ h ≠ v
      ∧ ((r.mode = .background ∧ (s.voice h).phase = .idle)
        ∨ (r.mode = .foreground ∧ (s.voice h).phase.isTuning = true))
  | .waits h => r.queue.head? = some h ∧ h ≠ v
      ∧ ((r.mode = .background ∧ ((s.voice h).phase.isGated = true ∨ (s.voice h).phase.isReleased = true))
        ∨ (r.mode = .foreground ∧ (s.voice h).phase.isDamping = true))

/-- The voice of a run is interrupted while it is measured; no other voice is TUNING and no deferred entry waits. -/
abbrev interrupts (s : State) (l : Link) (r : Run) (c : Current) : Prop :=
  s.ready l ∧ s.run = some r ∧ r.current = some c ∧ s.deferred = []
    ∧ ∀ v, (s.voice v).phase.isTuning = true ↔ v = c.voice

/-- A voice that waits in the queue of a run that measures another one. -/
abbrev queued (s : State) (l : Link) (r : Run) (c : Current) (v : VoiceId) : Prop :=
  s.ready l ∧ s.run = some r ∧ r.current = some c ∧ c.voice ≠ v ∧ v ∈ r.queue
    ∧ ((s.voice v).phase = .idle ∨ (s.voice v).phase.isTuning = true)

/-- The retune timer runs while a run exists. -/
abbrev retuneBusy (s : State) : Prop := s.retune.isSome = true ∧ s.run.isSome = true

/-- The retune timer runs, and no run exists. -/
abbrev retuneFree (s : State) : Prop := s.retune.isSome = true ∧ noTuning s 65535

/-- The state after the voices that `out` names, each DAMPING from now on or without its successor, were taken from
their notes (R19, R26, R41, R140): each leaves its mono set, and a cancelled successor its binding order; a note among
them is counted cancelled. -/
def notesTaken (s t : State) (out : VoiceId → Bool) : Prop :=
  ∀ p, t.perfOf p = { leftSet (s.perfOf p) out with
      counters := { (s.perfOf p).counters with cancelled := (t.perfOf p).counters.cancelled }
      bound := (s.perfOf p).bound.filter fun v => !(out v && (s.voice v).successorOf p) }
    ∧ ((s.perfOf p).counters.cancelled ≤ 65535 → (t.perfOf p).counters.cancelled =
        min 65535 ((s.perfOf p).counters.cancelled + (allVoices.filter fun v =>
          out v && (s.voice v).phase.successor?.any fun su => su.part == p && su.kind == .note).length))

/-- Voice h is measured at anchor 0 of its OSC-A. -/
def measuresFirst (t : State) (h : VoiceId) : Prop :=
  t.measurement = some
    { voice := h, osc := oscOf h false, anchor := 0, attempt := 1, phase := .settle, timer := 40 }
  ∧ t.fsel = oscOf h false
  ∧ t.candidate = some { osc := oscOf h false, entries := Vector.replicate 8 none }

/-- A run is created over a queue that is not empty, with its claims (R137 to R141): BACKGROUND claims the head,
FOREGROUND every voice. An IDLE or FAULT voice goes TUNING at once with its from-fault mark, and when it is the head, it
is measured; a sounding one keeps its claim while it plays, and in FOREGROUND damps without a successor. -/
def runCreated (s t : State) (mode : RunMode) (requester : Option Link) (queue : List VoiceId) : Prop :=
  let enters (v : VoiceId) : Bool :=
    match (s.voice v).phase with
    | .idle | .offline .fault => true
    | _ => false
  let claims := match mode with
    | .background => queue.take 1
    | .foreground => queue
  let first := queue.head?.filter enters
  t = { s with
    voices := t.voices, perf := t.perf, glides := t.glides, run := t.run, measurement := t.measurement, fsel := t.fsel
    candidate := t.candidate, retune := t.retune, linkA := t.linkA, linkB := t.linkB }
  ∧ t.run = some { mode, requester
                   queue := if first.isSome then queue.tail else queue
                   current := first.map fun h => { voice := h, second := false, anchor := 0, aResult := none }
                   marks := (claims.filter enters).map fun v => (v, (s.voice v).phase.isOffline)
                   passCount := 0, failCount := 0 }
  ∧ (∀ v ∈ claims,
      (t.voice v =
        match (s.voice v).phase, mode with
        | .idle, _ | .offline .fault, _ => { s.voice v with phase := .tuning 2048, claim := true }
        | .gated n _ _, .foreground | .released n _ _, .foreground =>
          { s.voice v with phase := .damping n none false (s.global gDampTime), claim := true }
        | .damping n _ dp timer, .foreground => { s.voice v with phase := .damping n none dp timer, claim := true }
        | _, _ => { s.voice v with claim := true })
      ∧ t.glide v = if enters v then { s.glide v with target := none } else s.glide v)
  ∧ (∀ v, v ∉ claims → t.voice v = s.voice v ∧ t.glide v = s.glide v)
  ∧ (mode = .background → t.perf = s.perf)
  ∧ (mode = .foreground → notesTaken s t fun v => queue.contains v && !enters v)
  ∧ match first with
    | some h => measuresFirst t h
    | none => t.measurement = s.measurement ∧ t.fsel = s.fsel ∧ t.candidate = s.candidate

end Sys2Proof.Given

/-- TUNE_START queues the voices of its mask, but for those that are OFFLINE with DISABLED or damp with disable pending.
With an empty queue nothing happens, and the reply carries NOTHING; otherwise a run is created with its claims, as
`Given.runCreated` says. A TUNE_START while a run exists is refused with TUNE_BUSY. Expiry of the retune timer: with a
run it is skipped; without one a BACKGROUND run of requester NONE is created over all voices that can be queued. In
either case the timer is started again with RETUNE_INTERVAL, or stands stopped when that is 0 (assumption log 18; the
data of the reply with an empty queue: log 12). -/
def Obligations.RunsAreCreated : Prop :=
  (∀ (s : State) (l : Link) (mask : Nat),
      let queue := Given.tuneQueue s mask
      (Given.tuneFree s l mask → ∀ mode : RunMode,
        let command := Instr.tuneStart l (field16 mask ++ [byte mode.code])
        let reply := okReply 0x30 false (decide (queue = [])) ([byte mode.code] ++ le16 (Given.voiceMask queue))
        ∃ t, exec command s = .next t ∧ Took s t l 5 reply ∧ (queue = [] → SameButLinks s t)
          ∧ (queue ≠ [] → Given.runCreated s t mode (some l) queue ∧ t.retune = s.retune))
      ∧ (Given.tuneTwice s l mask → ∀ foreground : Bool,
        ∃ t, exec (.tuneStart l (field16 mask ++ [byte (bit foreground)])) s = .next t ∧ SameButLinks s t
          ∧ Took s t l 5 (refusal 0x30 .tuneBusy)))
  ∧ ∀ s : State,
      let timer := if s.global gRetuneInterval = 0 then none else some (s.global gRetuneInterval)
      let queue := Given.tuneQueue s 65535
      (Given.retuneBusy s → exec .retuneTimerExpiry s = .next { s with retune := timer })
      ∧ (Given.retuneFree s → ∃ t, exec .retuneTimerExpiry s = .next t ∧ t.retune = timer
        ∧ (queue = [] → t = { s with retune := timer })
        ∧ (queue ≠ [] → Given.runCreated s t .background none queue ∧ t.linkA = s.linkA ∧ t.linkB = s.linkB))

/-- TUNE_ABORT without a run changes nothing and carries NOTHING, with counts that are free values (assumption log
11). On a run that is WAITING with no voice TUNING it clears every claim, removes the run and posts TUNE_RUN_DONE with
aborted 1 to the requester and the subscribers of TUNE. -/
def Obligations.TuneAbortEndsRun : Prop :=
  (∀ (s : State) (l : Link), Given.noRun s l →
    ∃ t, exec (.tuneAbort l []) s = .next t ∧ SameButLinks s t
      ∧ Took s t l 2 (okReply 0x31 false true [Config.passWithoutRun, Config.failWithoutRun]))
  ∧ ∀ (s : State) (l : Link) (r : Run), Given.waitingRun s l r →
    let told (who : Link) (u : LinkUnit) : LinkUnit :=
      u.told (r.requester == some who || u.queue.mask.getLsbD 3)
        { kind := .tuneRunDone, subject := linkOrNone r.requester, value1 := 256 * r.passCount + r.failCount
          value2 := 1, stamp := s.timestamp }
    ∃ t, exec (.tuneAbort l []) s = .next t
      ∧ t = { s with voices := t.voices, run := none, linkA := t.linkA, linkB := t.linkB }
      ∧ (∀ v, t.voice v = { s.voice v with claim := false })
      ∧ t.link l = told l ((s.link l).took 2 (okReply 0x31 false false [byte r.passCount, byte r.failCount]))
      ∧ t.link l.other = told l.other (s.link l.other)

/-- CAL_WRITE replaces the map of one record: NOMINAL, or CALIBRATED with its first kept anchor and P values. Last
result and counts stay, and nothing else changes. -/
def Obligations.CalWriteReplacesMap : Prop :=
  ∀ (s : State) (l : Link) (o : OscId),
    let stores (payload : List Byte) (m : CalMap) : Prop :=
      ∃ t, exec (.calWrite l payload) s = .next t
        ∧ t = { s with calibration := t.calibration, linkA := t.linkA, linkB := t.linkB }
        ∧ t.cal o = { s.cal o with map := m } ∧ (∀ q, q ≠ o → t.cal q = s.cal q)
        ∧ Took s t l (2 + payload.length) (okReply 0x33 false false [])
    (Given.calFree s l o → stores [byte o, 0x00#8] .nominal)
    ∧ ∀ (first last : Nat) (ps : List Nat), Given.calWrite s l o first last ps →
      stores ([byte o, 0x01#8, byte first, byte last] ++ ps.flatMap field16) (.calibrated first ps)

/-- Edges of FIN. In PROBE_WAIT an edge clears the counter and opens the probe; after an unstable attempt, whose
closing edge restarted the edge timer, one less than 2 ticks later is not seen (the model's reading: assumption log
3). In PROBE it gives C1 and N, the smallest power of two from 1 to 256 with N × C1 at or above 65536, or 256 when
there is none. In COUNT it adds a period. An unstable count raises the unstable count; at attempt 1 or 2 it returns to
PROBE_WAIT, and at attempt 3 the anchor ends UNSTABLE. A stable count gives P = 64205 + 3072 × log2 N - LOG(C): the
anchor ends PASSED with P in 0 to 65535, and OUT_OF_RANGE below 0. An anchor below 7 that ends has its entry written,
and the next anchor starts. The operand of FIN_EDGE is the model's (assumption log 3). -/
def Obligations.FinEdgeDrivesMeasurement : Prop :=
  ∀ (s : State) (m : Measurement) (ticks : Nat),
    (Given.measuring s m .probeWait → ticks ≤ 4000000 → (m.attempt = 1 ∨ 2 ≤ ticks) →
      exec (.finEdge ticks) s = .next { s with
        periodCounter := 0, measurement := some { m with phase := .probe, timer := 250 } })
    ∧ (Given.measuring s m .probeWait → 1 < m.attempt → ticks < 2 → exec (.finEdge ticks) s = .next s)
    ∧ (Given.closesProbe s m ticks → ∃ k, k ≤ 8 ∧ (65536 ≤ 2 ^ k * ticks ∨ k = 8) ∧ (∀ j, j < k → 2 ^ j * ticks < 65536)
      ∧ exec (.finEdge ticks) s = .next { s with
        periodCounter := 0, measurement := some { m with phase := .count ticks (2 ^ k) 0, timer := 250 } })
    ∧ (∀ c1 n periods, Given.insideCount s m ticks c1 n periods →
      exec (.finEdge ticks) s = .next { s with
        periodCounter := s.periodCounter + ticks
        measurement := some { m with phase := .count c1 n (periods + 1), timer := 250 } })
    ∧ (∀ c1 n periods, Given.unstableClose s m ticks c1 n periods →
      ∃ t, exec (.finEdge ticks) s = .next t
        ∧ t = { s with
            periodCounter := s.periodCounter + ticks
            measurement := some { m with attempt := m.attempt + 1, phase := .probeWait, timer := 250 }
            calibration := t.calibration }
        ∧ t.cal m.osc = { s.cal m.osc with unstableCount := min 65535 ((s.cal m.osc).unstableCount + 1) }
        ∧ ∀ o, o ≠ m.osc → t.cal o = s.cal o)
    ∧ ∀ r c cand c1 n periods, Given.closesCount s m r c cand ticks c1 n periods →
      let count := s.periodCounter + ticks
      let stable := ((count : Int) - (n * c1 : Nat)).natAbs * 16 ≤ n * c1
      let pitch : Int := 64205 + 3072 * Nat.log2 n - logUnit count
      let ends (res : AnchorResult) (unstable : Nat) : Prop :=
        ∃ t, exec (.finEdge ticks) s = .next t ∧ Given.nextAnchor s t m r c cand res ∧ t.periodCounter = count
          ∧ t.cal m.osc = { s.cal m.osc with unstableCount := unstable } ∧ ∀ o, o ≠ m.osc → t.cal o = s.cal o
      (stable → 0 ≤ pitch → pitch ≤ 65535 → ends (.passed pitch.toNat) (s.cal m.osc).unstableCount)
      ∧ (stable → pitch < 0 → ends .outOfRange (s.cal m.osc).unstableCount)
      ∧ (¬stable → m.attempt = 3 → ends .unstable (min 65535 ((s.cal m.osc).unstableCount + 1)))

/-- An anchor ends DEAD at the expiry of the edge timer in PROBE_WAIT, PROBE or COUNT, and when the period counter
saturates in COUNT: its entry is written, and the next anchor starts with its own code on both pitch channels of the
voice. -/
def Obligations.DeadAnchorStartsNext : Prop :=
  ∀ (s : State) (m : Measurement) (r : Run) (c : Current) (cand : CalCandidate),
    let starts (t : State) : Prop := Given.nextAnchor s t m r c cand .dead ∧ t.calibration = s.calibration
    (Given.edgeRuns s m r c cand → ∃ t, exec .edgeTimerExpiry s = .next t ∧ starts t)
    ∧ ∀ c1 n periods, Given.counting s m r c cand c1 n periods →
      ∃ t, exec .periodCounterSaturation s = .next t ∧ starts t ∧ t.periodCounter = 16777215

/-- At the end of anchor 7 the oscillator is decided. With a kept run of three or more spans its record becomes
CALIBRATED with the anchors of that run, and the result is PASS; otherwise the map stays and the result is NO_SIGNAL,
DEAD, UNSTABLE or SHORT_RUN. Last result, tune count and the run's counts follow, and the unstable count when the anchor
ends UNSTABLE. After OSC-A, OSC-B is opened and measured from anchor 0. (The operand of FIN_EDGE: assumption log 3.) -/
def Obligations.LastAnchorDecidesOscillator : Prop :=
  ∀ (s : State) (m : Measurement) (r : Run) (c : Current) (cand : CalCandidate) (res : AnchorResult) (cmd : Instr),
    Given.decides s m r c cand res cmd →
    let o := oscOf c.voice c.second
    ∃ t, exec cmd s = .next t
      ∧ Given.decision (cand.entries.set 7 (some res)) (s.cal o).map (t.cal o).lastResult (t.cal o).map
      ∧ (t.cal o).unstableCount =
          (if res = .unstable then min 65535 ((s.cal o).unstableCount + 1) else (s.cal o).unstableCount)
      ∧ (t.cal o).tuneCount = min 65535 ((s.cal o).tuneCount + 1)
      ∧ (∀ x, x ≠ o → t.cal x = s.cal x)
      ∧ (c.second = false →
        t = { s with
          voices := t.voices, measurement := t.measurement, periodCounter := t.periodCounter
          fsel := oscOf c.voice true, run := t.run, candidate := t.candidate, calibration := t.calibration }
        ∧ t.run = some { Given.counted r (t.cal o).lastResult with
            current := some { c with second := true, anchor := 0, aResult := some (t.cal o).lastResult } }
        ∧ t.measurement = some
            { voice := c.voice, osc := oscOf c.voice true, anchor := 0, attempt := 1, phase := .settle, timer := 40 }
        ∧ t.candidate = some { osc := oscOf c.voice true, entries := Vector.replicate 8 none }
        ∧ t.voice c.voice = { s.voice c.voice with phase := .tuning 2048 }
        ∧ ∀ v, v ≠ c.voice → t.voice v = s.voice v)

/-- After OSC-B is decided the voice is handed back, OFFLINE with FAULT when an oscillator gave NO_SIGNAL and IDLE
otherwise; VOICE_OFFLINE and TUNE_VOICE_DONE go to the subscribers of TUNE. Then the run ends with TUNE_RUN_DONE,
aborted 0, when the queue is empty; else the claim passes to the new head in BACKGROUND, and a head that is TUNING is
measured at once. (No deferred entry waits here. That the next head is measured in the same step: assumption log 29;
the operand of FIN_EDGE: log 3.) -/
def Obligations.VoiceEndPassesRunOn : Prop :=
  ∀ (s : State) (m : Measurement) (r : Run) (c : Current) (cand : CalCandidate) (res : AnchorResult) (cmd : Instr)
    (next : Given.Next),
    Given.decides s m r c cand res cmd → c.second = true → s.deferred = [] → Given.nextIs s r c.voice next →
    ∃ t, exec cmd s = .next t ∧
      let v := c.voice
      let a := c.aResult.getD .none
      let b := (t.cal (oscOf v true)).lastResult
      let fault : Bool := a == .noSignal || b == .noSignal
      let done := Given.counted r b
      let marks := r.marks.filter fun x => x.1 != v
      let tune (u : LinkUnit) (yes : Bool) (n : Notice) : LinkUnit := u.told (yes && u.queue.mask.getLsbD 3) n
      let told (u : LinkUnit) : LinkUnit :=
        tune (tune u fault (Given.voiceFault v (a == .noSignal) (b == .noSignal) s.timestamp)) true
          (Given.voiceDone t v a b s.timestamp)
      t = { s with
        voices := t.voices, measurement := t.measurement, periodCounter := t.periodCounter, fsel := t.fsel
        run := t.run, candidate := t.candidate, calibration := t.calibration, glides := t.glides
        linkA := t.linkA, linkB := t.linkB }
      ∧ t.voice v = Given.handedBack s v fault
      ∧ (∀ w, w ≠ v → (t.glide w).position = (s.glide w).position)
      ∧ match next with
        | .ends =>
          t.run = none ∧ t.measurement = none ∧ t.candidate = none ∧ t.fsel = s.fsel
          ∧ (∀ w, w ≠ v → t.voice w = s.voice w)
          ∧ ∀ l, t.link l = (told (s.link l)).told (done.requester == some l || (s.link l).queue.mask.getLsbD 3)
              (Given.runDone done false s.timestamp)
        | .measures h rest =>
          t.run = some { done with
            queue := rest, current := some { voice := h, second := false, anchor := 0, aResult := none }
            marks := if r.mode = .background then marks ++ [(h, false)] else marks }
          ∧ t.measurement = some
              { voice := h, osc := oscOf h false, anchor := 0, attempt := 1, phase := .settle, timer := 40 }
          ∧ t.fsel = oscOf h false
          ∧ t.candidate = some { osc := oscOf h false, entries := Vector.replicate 8 none }
          ∧ t.voice h = { s.voice h with
              phase := .tuning 2048, claim := if r.mode = .background then true else (s.voice h).claim }
          ∧ (∀ w, w ≠ v → w ≠ h → t.voice w = s.voice w) ∧ ∀ l, t.link l = told (s.link l)
        | .waits h =>
          t.run = some { done with current := none, marks } ∧ t.measurement = none ∧ t.candidate = none
          ∧ t.fsel = s.fsel
          ∧ t.voice h = { s.voice h with claim := if r.mode = .background then true else (s.voice h).claim }
          ∧ (∀ w, w ≠ v → w ≠ h → t.voice w = s.voice w) ∧ ∀ l, t.link l = told (s.link l)

/-- A run that is interrupted. TUNE_ABORT while a voice is measured, and no other is TUNING: the measurement is
abandoned, the current oscillator takes ABORTED as its last result, and the voice is handed back, OFFLINE with FAULT
when its A result is NO_SIGNAL or its from-fault mark is yes; every claim is cleared; VOICE_OFFLINE, TUNE_VOICE_DONE and
TUNE_RUN_DONE with aborted 1 are posted. VOICE_DISABLE of the current voice, with an empty queue, sends it OFFLINE with
DISABLED instead, and the run ends with aborted 0. VOICE_DISABLE of a queued IDLE or waiting TUNING voice takes it out
of the queue and posts nothing. (Where an abandoned count leaves the period counter is a free value: assumption
log 4.) -/
def Obligations.RunIsInterrupted : Prop :=
  ∀ (s : State) (l : Link) (r : Run) (c : Current),
    let v := c.voice
    let o := oscOf v c.second
    let a : CalResult := if c.second then c.aResult.getD .none else .aborted
    let stops (t : State) : Prop := t = { s with
        voices := t.voices, measurement := none, periodCounter := t.periodCounter, freeIndex := t.freeIndex
        run := none, candidate := none, calibration := t.calibration, glides := t.glides
        linkA := t.linkA, linkB := t.linkB }
      ∧ t.cal o = { s.cal o with lastResult := .aborted } ∧ (∀ x, x ≠ o → t.cal x = s.cal x)
      ∧ (∀ w, w ≠ v → t.glide w = s.glide w) ∧ (t.glide v).position = (s.glide v).position
    let tune (yes : Bool) (n : Notice) (u : LinkUnit) : LinkUnit := u.told (yes && u.queue.mask.getLsbD 3) n
    let ended (aborted : Bool) (who : Link) (u : LinkUnit) : LinkUnit :=
      u.told (r.requester == some who || u.queue.mask.getLsbD 3) (Given.runDone r aborted s.timestamp)
    (Given.interrupts s l r c →
      let noSignal : Bool := c.second && c.aResult == some .noSignal
      let fault : Bool := noSignal || r.marks.any fun x => x.1 == v && x.2
      let told (who : Link) (u : LinkUnit) : LinkUnit :=
        ended true who (tune true (Given.voiceDone s v a .aborted s.timestamp)
          (tune fault (Given.voiceFault v noSignal false s.timestamp) u))
      ∃ t, exec (.tuneAbort l []) s = .next t ∧ stops t
        ∧ t.voice v = Given.handedBack s v fault
        ∧ (∀ w, w ≠ v → t.voice w = { s.voice w with claim := false })
        ∧ t.link l = told l ((s.link l).took 2 (okReply 0x31 false false [byte r.passCount, byte r.failCount]))
        ∧ t.link l.other = told l.other (s.link l.other))
    ∧ (Given.interrupts s l r c → r.queue = [] →
      let told (who : Link) (u : LinkUnit) : LinkUnit :=
        ended false who (tune true (Given.voiceDone s v a .aborted s.timestamp) u)
      ∃ t, exec (.voiceDisable l (field16 (2 ^ v.val))) s = .next t ∧ stops t
        ∧ t.voice v = { s.voice v with phase := .offline .disabled, claim := false }
        ∧ (∀ w, w ≠ v → t.voice w = s.voice w)
        ∧ t.link l = told l ((s.link l).took 4 (okReply 0x41 false false []))
        ∧ t.link l.other = told l.other (s.link l.other))
    ∧ ∀ w, Given.queued s l r c w →
      ∃ t, exec (.voiceDisable l (field16 (2 ^ w.val))) s = .next t
        ∧ t = { s with
            voices := t.voices, glides := t.glides, linkA := t.linkA, linkB := t.linkB
            run := some { r with
              queue := r.queue.filter fun x => x != w, marks := r.marks.filter fun x => x.1 != w } }
        ∧ t.voice w = { s.voice w with phase := .offline .disabled, claim := false }
        ∧ (∀ x, x ≠ w → t.voice x = s.voice x ∧ t.glide x = s.glide x)
        ∧ Took s t l 4 (okReply 0x41 false false [])

/-! ### Voice commands and the timers of a voice (chapter 1) -/

namespace Sys2Proof.Given

/-- A voice mask above 0, and no deferred entry. -/
abbrev enabling (s : State) (l : Link) (mask : Nat) : Prop :=
  s.ready l ∧ 0 < mask ∧ mask < 65536 ∧ s.deferred = []

/-- A voice mask above 0, and no run. -/
abbrev disabling (s : State) (l : Link) (mask : Nat) : Prop :=
  s.ready l ∧ 0 < mask ∧ mask < 65536 ∧ s.run = none

/-- A voice that damps with a successor. -/
abbrev dampsToNote (s : State) (v : VoiceId) (n : Note) (su : Successor) (dp : Bool) (timer : Nat) : Prop :=
  (s.voice v).phase = .damping n (some su) dp timer

/-- A voice that damps without a successor. -/
abbrev dampsOut (s : State) (v : VoiceId) (n : Note) (dp : Bool) (timer : Nat) : Prop :=
  (s.voice v).phase = .damping n none dp timer

/-- A RELEASED voice. -/
abbrev fading (s : State) (v : VoiceId) (n : Note) (start : Stamp) (window : Nat) : Prop :=
  (s.voice v).phase = .released n start window

/-- A deferred entry that an IDLE voice v can serve (R23). -/
abbrev canServe (s : State) (v : VoiceId) (d : Deferred) : Prop :=
  s.inMask d.part v = true ∧ s.load d.part < s.param d.part pMaxVoices

/-- The voice carries no claim, and it can serve no deferred entry. -/
abbrev unclaimed (s : State) (v : VoiceId) : Prop :=
  (s.voice v).claim = false ∧ ∀ d ∈ s.deferred, ¬canServe s v d

/-- The voice carries no claim, and the deferred entry at a place is the oldest that it can serve. -/
abbrev served (s : State) (v : VoiceId) (place : Nat) (d : Deferred) : Prop :=
  (s.voice v).claim = false ∧ s.deferred[place]? = some d ∧ canServe s v d
    ∧ ∀ x ∈ s.deferred.take place, ¬canServe s v x

/-- The voice carries a claim, and the run measures another voice, or waits for a head that is another voice. -/
abbrev claimed (s : State) (v : VoiceId) (r : Run) : Prop :=
  (s.voice v).claim = true ∧ s.run = some r
    ∧ (r.current.isSome = true ∨ ∀ h ∈ r.queue.head?, h ≠ v ∧ (s.voice h).phase.isTuning = false)

/-- The voice carries a claim, and is the head of a run that waits. -/
abbrev claimedHead (s : State) (v : VoiceId) (r : Run) (rest : List VoiceId) : Prop :=
  (s.voice v).claim = true ∧ s.run = some r ∧ r.current = none ∧ r.queue = v :: rest

/-- What becomes of a voice that would be IDLE (R18, R20, R23, R29, R141). Without a claim it goes IDLE, and serves the
oldest deferred entry that it can. With one it goes TUNING, with a from-fault mark of no, and the head of a run that
waits is taken and measured at once. -/
def freed (s t : State) (v : VoiceId) : Prop :=
  let tuning : Voice := { s.voice v with phase := .tuning 2048 }
  let leaves (voice : Voice) (glide : Glide) : Prop :=
    t.voice v = voice ∧ (∀ w, w ≠ v → t.voice w = s.voice w) ∧ t.glide v = glide ∧ ∀ w, w ≠ v → t.glide w = s.glide w
  let rests : Glide := { s.glide v with target := none }
  (unclaimed s v → t = { s with voices := t.voices, glides := t.glides }
    ∧ leaves { s.voice v with phase := .idle, releaseStamp := s.timestamp } rests)
  ∧ (∀ place d, served s v place d →
    t = { s with
      voices := t.voices, serial := s.serial + 1, deferred := s.deferred.eraseIdx place, perf := t.perf
      glides := t.glides }
    ∧ leaves { s.voice v with
          phase := .gated { key := d.key, velocity := d.velocity } false none, part := d.part
          serial := s.serial + 1, releaseStamp := s.timestamp, clamped := false }
        { position := 256 * d.key.val, target := none }
    ∧ t.perfOf d.part = { s.perfOf d.part with counters := { (s.perfOf d.part).counters with
        sounded := min 65535 ((s.perfOf d.part).counters.sounded + 1) } }
    ∧ ∀ q, q ≠ d.part → t.perfOf q = s.perfOf q)
  ∧ (∀ r, claimed s v r →
    t = { s with
      voices := t.voices, glides := t.glides, run := some { r with marks := r.marks ++ [(v, false)] } }
    ∧ leaves tuning rests)
  ∧ ∀ r rest, claimedHead s v r rest →
    t = { s with
      voices := t.voices, glides := t.glides, measurement := t.measurement, fsel := t.fsel, candidate := t.candidate
      run := some { r with
        queue := rest, current := some { voice := v, second := false, anchor := 0, aResult := none }
        marks := r.marks ++ [(v, false)] } }
    ∧ leaves tuning rests ∧ measuresFirst t v

/-- A run that is WAITING. -/
abbrev runWaits (s : State) (l : Link) (r : Run) : Prop := s.ready l ∧ s.run = some r ∧ r.current = none

/-- A run that is MEASURING. -/
abbrev runMeasures (s : State) (l : Link) (r : Run) (c : Current) : Prop :=
  s.ready l ∧ s.run = some r ∧ r.current = some c

end Sys2Proof.Given

/-- VOICE_ENABLE brings every named OFFLINE voice to IDLE with the timestamp as its release stamp, and clears disable
pending on a DAMPING one; NOTHING when no named voice changed. Parameters, calibration and every other voice stay. -/
def Obligations.VoiceEnableReturnsVoices : Prop :=
  ∀ (s : State) (l : Link) (mask : Nat), Given.enabling s l mask →
    ∃ t, exec (.voiceEnable l (field16 mask)) s = .next t
      ∧ t = { s with voices := t.voices, glides := t.glides, linkA := t.linkA, linkB := t.linkB }
      ∧ (∀ v, mask.testBit v.val = true → t.voice v =
          match (s.voice v).phase with
          | .offline _ => { s.voice v with phase := .idle, releaseStamp := s.timestamp }
          | .damping n su true timer => { s.voice v with phase := .damping n su false timer }
          | _ => s.voice v)
      ∧ (∀ v, mask.testBit v.val = false → t.voice v = s.voice v)
      ∧ (∀ v, (t.glide v).position = (s.glide v).position)
      ∧ (∀ v, (s.voice v).phase.isOffline = false → t.glide v = s.glide v)
      ∧ Took s t l 4 (okReply 0x40 false
          (allVoices.all fun v => !(mask.testBit v.val && decide (t.voice v ≠ s.voice v))
            && !(mask.testBit v.val && (s.voice v).phase.isOffline)) [])

/-- VOICE_DISABLE while no run exists: an IDLE, TUNING or FAULT voice goes OFFLINE with reason DISABLED; a GATED or
RELEASED one goes DAMPING for DAMP_TIME with disable pending and no successor; a DAMPING one loses its successor,
which is counted cancelled when it is a note, keeps its timer and takes disable pending. Each loses its claim, and one
that sounded or waited leaves its mono set; a set that is emptied so empties the held-key list with it. -/
def Obligations.VoiceDisableTakesVoicesOut : Prop :=
  ∀ (s : State) (l : Link) (mask : Nat), Given.disabling s l mask →
    ∃ t, exec (.voiceDisable l (field16 mask)) s = .next t
      ∧ t = { s with
          voices := t.voices, perf := t.perf, glides := t.glides, linkA := t.linkA, linkB := t.linkB }
      ∧ (∀ v, mask.testBit v.val = true → t.voice v =
          match (s.voice v).phase with
          | .idle | .tuning _ | .offline .fault => { s.voice v with phase := .offline .disabled, claim := false }
          | .gated n _ _ | .released n _ _ =>
            { s.voice v with phase := .damping n none true (s.global gDampTime), claim := false }
          | .damping n _ false timer => { s.voice v with phase := .damping n none true timer, claim := false }
          | .damping _ _ true _ | .offline .disabled => s.voice v)
      ∧ (∀ v, mask.testBit v.val = false → t.voice v = s.voice v)
      ∧ (∀ v, (t.glide v).position = (s.glide v).position)
      ∧ Given.notesTaken s t (fun v => mask.testBit v.val &&
          match (s.voice v).phase with
          | .gated _ _ _ | .released _ _ _ | .damping _ _ false _ => true
          | _ => false)
      ∧ Took s t l 4 (okReply 0x41 false
          (allVoices.all fun v => !mask.testBit v.val ||
            match (s.voice v).phase with
            | .damping _ _ true _ | .offline .disabled => true
            | _ => false) [])

/-- Damp expiry. With a successor the voice goes GATED on it with a new serial, and glides toward it from where it
stands; a note is counted sounded. Without one it goes OFFLINE when disable is pending; otherwise it is freed as
`Given.freed` says: IDLE, sounding a deferred entry, or TUNING under its claim. On a voice that is not DAMPING it is
not taken. (The last clause is the model's: assumption log 2.) -/
def Obligations.DampExpiryEndsDamping : Prop :=
  ∀ (s : State) (v : VoiceId),
    (∀ n su dp timer, Given.dampsToNote s v n su dp timer →
      ∃ t, exec (.dampExpiry v) s = .next t
        ∧ t = { s with voices := t.voices, serial := s.serial + 1, perf := t.perf, glides := t.glides }
        ∧ t.voice v = { s.voice v with
            phase := .gated { key := su.key, velocity := su.velocity } false none, part := su.part
            serial := s.serial + 1, clamped := false }
        ∧ (∀ w, w ≠ v → t.voice w = s.voice w)
        ∧ t.glide v =
            (if s.param su.part pGlideRate = 0 ∨ (s.glide v).position = 256 * su.key.val then
              { position := 256 * su.key.val, target := none }
            else { position := (s.glide v).position, target := some (256 * su.key.val) })
        ∧ (∀ w, w ≠ v → t.glide w = s.glide w)
        ∧ t.perfOf su.part = { s.perfOf su.part with
            bound := (s.perfOf su.part).bound.filter (· != v)
            counters := if su.kind = .note then
                { (s.perfOf su.part).counters with
                  sounded := min 65535 ((s.perfOf su.part).counters.sounded + 1) }
              else (s.perfOf su.part).counters }
        ∧ ∀ q, q ≠ su.part → t.perfOf q = s.perfOf q)
    ∧ (∀ n timer, Given.dampsOut s v n true timer →
      ∃ t, exec (.dampExpiry v) s = .next t ∧ t = { s with voices := t.voices, glides := t.glides }
        ∧ t.voice v = { s.voice v with phase := .offline .disabled } ∧ (∀ w, w ≠ v → t.voice w = s.voice w)
        ∧ t.glide v = { s.glide v with target := none } ∧ ∀ w, w ≠ v → t.glide w = s.glide w)
    ∧ (∀ n timer, Given.dampsOut s v n false timer →
      ∃ t, exec (.dampExpiry v) s = .next t ∧ Given.freed s t v)
    ∧ ((s.voice v).phase.isDamping = false → exec (.dampExpiry v) s = .next s)

/-- Release-window expiry frees a RELEASED voice as `Given.freed` says: it goes IDLE, sounds the oldest deferred entry
that it can serve, or goes TUNING when it carries a claim, and is measured at once when it is the head of a run that
waits. The timeout of a deferred entry removes it, counts it dropped and posts NOTE_DROPPED with reason TIMEOUT to the
subscribers of NOTES. An expiry on a voice that is not RELEASED is not taken (model's: assumption log 2), and the
timeout names the entry by its place (model's: log 22). -/
def Obligations.WindowAndDeferralExpiries : Prop :=
  (∀ (s : State) (v : VoiceId) (n : Note) (start : Stamp) (window : Nat), Given.fading s v n start window →
    ∃ t, exec (.releaseWindowExpiry v) s = .next t ∧ Given.freed s t v)
  ∧ (∀ (s : State) (v : VoiceId), (s.voice v).phase.isReleased = false → exec (.releaseWindowExpiry v) s = .next s)
  ∧ ∀ (s : State) (place : Fin 8) (d : Deferred), s.deferred[place.val]? = some d →
    ∃ t, exec (.deferTimeout place) s = .next t
      ∧ t = { s with
          deferred := s.deferred.eraseIdx place.val, perf := t.perf, linkA := t.linkA, linkB := t.linkB }
      ∧ t.perfOf d.part = { s.perfOf d.part with counters := { (s.perfOf d.part).counters with
          dropped := min 65535 ((s.perfOf d.part).counters.dropped + 1) } }
      ∧ (∀ q, q ≠ d.part → t.perfOf q = s.perfOf q)
      ∧ ∀ l, t.link l = (s.link l).told ((s.link l).queue.mask.getLsbD 0)
          { kind := .noteDropped, subject := d.part, value1 := d.key, value2 := 2, stamp := s.timestamp }

/-- RESET_VOICES brings every voice that is not OFFLINE to IDLE, empties the deferred list and the held-key lists,
clears hold flags, bends and counters, and sets each glide to its target; serials, parameters, calibration maps,
bindings and notices stay. A run is ended with TUNE_RUN_DONE, aborted; while a voice is measured, the measurement is
abandoned, the current oscillator takes ABORTED as its last result, and TUNE_VOICE_DONE goes before it to the
subscribers of TUNE. (Where an abandoned count leaves the period counter is a free value: assumption log 4.) -/
def Obligations.ResetVoicesRestsVoices : Prop :=
  ∀ (s : State) (l : Link),
    let reply := okReply 0x60 false false []
    let rests (t : State) : Prop :=
      (∀ v, t.voice v =
          if (s.voice v).phase.isOffline = true then s.voice v
          else { s.voice v with phase := .idle, releaseStamp := s.timestamp, claim := false, clamped := false })
      ∧ (∀ p, t.perfOf p =
          { held := [], selected := none, monoSet := [], wanted := none, hold := false, bend := 8192
            counters := { notesIn := 0, sounded := 0, dropped := 0, refused := 0, cancelled := 0 }, bound := [] })
      ∧ ∀ v, t.glide v = { position := (s.glide v).target.getD (s.glide v).position, target := none }
    let frame (t : State) : Prop := t = { s with
      voices := t.voices, deferred := [], perf := t.perf, glides := t.glides, run := none
      linkA := t.linkA, linkB := t.linkB }
    let ended (r : Run) (who : Link) (u : LinkUnit) : LinkUnit :=
      u.told (r.requester == some who || u.queue.mask.getLsbD 3) (Given.runDone r true s.timestamp)
    (Given.noRun s l → ∃ t, exec (.resetVoices l []) s = .next t ∧ frame t ∧ rests t ∧ Took s t l 2 reply)
    ∧ (∀ r, Given.runWaits s l r →
      ∃ t, exec (.resetVoices l []) s = .next t ∧ frame t ∧ rests t
        ∧ t.link l = ended r l ((s.link l).took 2 reply) ∧ t.link l.other = ended r l.other (s.link l.other))
    ∧ ∀ r c, Given.runMeasures s l r c →
      let o := oscOf c.voice c.second
      let told (who : Link) (u : LinkUnit) : LinkUnit :=
        ended r who (u.told (u.queue.mask.getLsbD 3)
          (Given.voiceDone s c.voice (if c.second then c.aResult.getD .none else .aborted) .aborted s.timestamp))
      ∃ t, exec (.resetVoices l []) s = .next t
        ∧ t = { s with
            voices := t.voices, deferred := [], perf := t.perf, glides := t.glides, run := none, measurement := none
            candidate := none, periodCounter := t.periodCounter, freeIndex := t.freeIndex
            calibration := t.calibration, linkA := t.linkA, linkB := t.linkB }
        ∧ rests t
        ∧ t.cal o = { s.cal o with lastResult := .aborted } ∧ (∀ x, x ≠ o → t.cal x = s.cal x)
        ∧ t.link l = told l ((s.link l).took 2 reply) ∧ t.link l.other = told l.other (s.link l.other)

/-! ### Notice queues (10.5) -/

/-- R191. NOTICE_READ returns first slot, count, lost count and the stored notices in order from get, and then zeroes
the lost count; nothing else of the queue, of the links or of the part changes. R192. NOTICE_ACK of a slot that holds no
stored notice is answered BAD_INDEX and changes nothing; of a stored slot it removes every notice from get to that slot,
and returns the fill after. The lost count is not touched. -/
def Obligations.NoticesAreReadAndAcknowledged : Prop :=
  (∀ (s : State) (l : Link) (max : Byte), s.ready l →
      let q := (s.link l).queue
      let most := if max = 0x00#8 then 1 else if 16 < max.toNat then 16 else max.toNat
      let count := min most q.stored.length
      ∃ t, exec (.noticeRead l [max]) s = .next t ∧ SameButLinks s t ∧ t.link l.other = s.link l.other
        ∧ t.link l = { (s.link l).took 3
            (okReply 0x50 (most != max.toNat) (decide (count = 0 ∧ q.lost = 0))
              ([byte q.get, byte count, byte q.lost] ++ (q.stored.take count).flatMap Notice.bytes)) with
            queue := { q with lost := 0 } })
  ∧ ∀ (s : State) (l : Link) (i : Byte), s.ready l →
      let q := (s.link l).queue
      let place := (i.toNat + 32 - q.get.val) % 32
      let stored := i.toNat ≤ 31 ∧ 0 < q.stored.length ∧ place < q.stored.length
      ∃ t, exec (.noticeAck l [i]) s = .next t ∧ SameButLinks s t ∧ t.link l.other = s.link l.other
        ∧ (¬stored → Took s t l 3 (refusal 0x51 .badIndex))
        ∧ (stored → t.link l = { (s.link l).took 3
              (okReply 0x51 false false [byte (q.stored.length - (place + 1))]) with
            queue := { q with stored := q.stored.drop (place + 1), get := Fin.ofNat 32 (i.toNat + 1) } })

/-! ### Reset (10.8) -/

namespace Sys2Proof.Given

/-- A reset runs, and RSTB is high. -/
abbrev resetDue (s : State) (cause : ResetCause) (timer : Nat) : Prop :=
  s.resetRun = some (cause, timer) ∧ s.rstb = true

/-- RSTB is low, and the reset runs. -/
abbrev rstbLow (s : State) (cause : ResetCause) (timer : Nat) : Prop :=
  s.resetRun = some (cause, timer) ∧ s.rstb = false

end Sys2Proof.Given

/-- RESET_DEVICE and RSTB low begin a reset: every record stands at its reset value, scanner and refresh round stop,
the requests in process are abandoned, both attention lines are released; the sample-and-hold codes stay. The rise of
RSTB starts its 2 ms again. At its end the part stands as State.reset says, with RESET_DONE in each queue, and both
attention lines are asserted. That the records are cleared at the begin and again at the end, and that State.reset is
the end, is the model's reading (assumption log 15). That RSTB low during a RESET_DEVICE makes RESET_DONE tell power-on
is the model's choice (assumption log 30). -/
def Obligations.ResetBeginsAndEnds : Prop :=
  let queue (stored : List Notice) : NoticeQueue := { stored, get := 0, lost := 0, mask := 0x10#8, watermark := 1 }
  let begun (s t : State) (cause : ResetCause) (rstb : Bool) : Prop :=
    t = { State.reset with
      pending := s.pending, freeIndex := s.freeIndex
      scanner := { roundNumber := 0, skipped := 0, period := none, round := none, msel := s.scanner.msel }
      output := { s.output with slot := none }
      linkA := t.linkA, linkB := t.linkB, rstb, resetRun := some (cause, 2) }
  (∀ (s : State) (l : Link), s.ready l → ∃ t, exec (.resetDevice l []) s = .next t ∧ begun s t (.device l) s.rstb
    ∧ t.link l = { State.reset.link l with queue := queue [], shifted := [0xFF#8, 0xFF#8] }
    ∧ t.link l.other = { State.reset.link l.other with queue := queue [], shifted := (s.link l.other).shifted }
    ∧ ∀ k, t.attention k = false)
  ∧ (∀ s : State, ∃ t, exec .powerOnReset s = .next t ∧ begun s t .powerOn false
    ∧ (∀ k, t.link k = { State.reset.link k with queue := queue [], shifted := (s.link k).shifted })
    ∧ ∀ k, t.attention k = false)
  ∧ (∀ (s : State) (cause : ResetCause) (timer : Nat), Given.rstbLow s cause timer →
    exec .rstbRelease s = .next { s with rstb := true, resetRun := some (cause, 2) }
    ∧ exec .resetEnd s = .next s)
  ∧ ∀ (s : State) (cause : ResetCause) (timer : Nat), Given.resetDue s cause timer →
    let done : Notice :=
      { kind := .resetDone, subject := 0
        value1 := match cause with
          | .powerOn => 0
          | .device _ => 1
        value2 := match cause with
          | .powerOn => 15
          | .device l => linkCode l
        stamp := 0 }
    ∃ t, exec .resetEnd s = .next t
      ∧ t = { State.reset with
          pending := s.pending, freeIndex := s.freeIndex, output := { s.output with slot := some 0 }
          linkA := t.linkA, linkB := t.linkB }
      ∧ (∀ k, t.link k = { State.reset.link k with queue := queue [done], shifted := (s.link k).shifted })
      ∧ ∀ k, t.attention k = true

/-! ### Link N (10.4) -/

namespace Sys2Proof.Given

/-- No reset runs, and the FIFO has room. -/
abbrev fifoRoom (s : State) : Prop := s.resetRun = none ∧ s.lineUnit.fifo.length < 16

/-- No reset runs, and the FIFO is full. -/
abbrev fifoFull (s : State) : Prop := s.resetRun = none ∧ 16 ≤ s.lineUnit.fifo.length

/-- The parser stands in a state with a byte at the head of the FIFO. -/
abbrev lineAt (s : State) (parser : ParserState) (x : LineByte) (rest : List LineByte) : Prop :=
  s.lineUnit.parser = parser ∧ s.lineUnit.fifo = x :: rest

/-- A bad byte is taken. -/
abbrev badByte (s : State) (b : Byte) (rest : List LineByte) : Prop :=
  s.lineUnit.fifo = { good := false, value := b } :: rest

/-- A status byte that names a kind of frame: kind 1 to 5, and bits 3 and 2 are 0 (R185, R187). -/
abbrev namesKind (b : Byte) : Prop := 1 ≤ b.toNat / 16 % 8 ∧ b.toNat / 16 % 8 ≤ 5 ∧ b.toNat / 4 % 4 = 0

/-- A part after an error of a kind, where Link N otherwise stands as u (R188, R189): counted, accumulated, and, when
the pacing timer is stopped, posted to both links. A saturated counter's error is accumulated and posted too
(assumption log 23). -/
def afterError (kind : LineErrorKind) (u : LineUnit) (s : State) : State :=
  let counted : LineUnit :=
    match kind with
    | .frame => { u with
        frameErrors := min 65535 (u.frameErrors + 1), errors := { u.errors with frame := true } }
    | .byte => { u with byteErrors := min 65535 (u.byteErrors + 1), errors := { u.errors with byte := true } }
    | .overrun => { u with
        fifoOverruns := min 65535 (u.fifoOverruns + 1), errors := { u.errors with overrun := true } }
  let count := min 65535 (u.accumulator + 1)
  let e := counted.errors
  let told (x : LinkUnit) : LinkUnit := x.told u.pacing.isNone
    { kind := .lineError, subject := bit e.frame + 2 * bit e.byte + 4 * bit e.overrun, value1 := count, value2 := 0
      stamp := s.timestamp }
  { s with
    lineUnit := if u.pacing.isNone then
        { counted with
          accumulator := 0, errors := { frame := false, byte := false, overrun := false }, pacing := some 1000 }
      else { counted with accumulator := count }
    linkA := told s.linkA, linkB := told s.linkB }

/-- The pacing timer runs. -/
abbrev paced (s : State) : Prop := s.lineUnit.pacing.isSome = true

end Sys2Proof.Given

/-- A byte on NRX joins the FIFO at its tail while it holds fewer than 16, and is lost and counted when it is full; a
reset takes no byte. The parser takes the head: a status byte of kind NOTE_ON 1, NOTE_OFF 2 or BEND 5 starts a frame,
one of kind HOLD_ON 3 or HOLD_OFF 4 is a whole frame and sets the hold flag of its part as HOLD does; the first data
byte of NOTE_ON and BEND is held, the second completes it; NOTE_OFF is complete with its one byte. A data byte without
a frame and an invalid status byte are frame errors; a status byte inside a frame is a frame error, and is then taken
as in WAIT_STATUS; a bad byte is a byte error that abandons the frame. LINE_ERROR is posted at an error while the
pacing timer is stopped, and at its expiry when errors have been accumulated. (That a byte during a reset is lost is
the model's reading, assumption log 15; that an error counts although its counter is saturated, assumption log 23.) -/
def Obligations.LineBytesReachTheParser : Prop :=
  (∀ (s : State) (good : Bool) (b : Byte),
    (Given.fifoRoom s → exec (.linkNByte good b) s =
      .next { s with lineUnit := { s.lineUnit with fifo := s.lineUnit.fifo ++ [{ good, value := b }] } })
    ∧ (Given.fifoFull s → exec (.linkNByte good b) s = .next (Given.afterError .overrun s.lineUnit s))
    ∧ (s.resetRun.isSome = true → exec (.linkNByte good b) s = .next s))
  ∧ (∀ (s : State) (p : PartId) (rest : List LineByte),
    let status (kind : Nat) : Byte := byte (128 + 16 * kind + p.val)
    let line (x : ParserState) : LineUnit := { s.lineUnit with fifo := rest, parser := x }
    (∀ kind ∈ [1, 2, 5], Given.lineAt s .waitStatus { good := true, value := status kind } rest →
      exec .parseByte s = .next { s with lineUnit := line (.data1 (status kind)) })
    ∧ (∀ on : Bool, Given.lineAt s .waitStatus { good := true, value := status (if on then 3 else 4) } rest →
      ∀ l, s.ready l → ∃ u, exec (.hold l [byte (2 ^ p.val), byte (bit on)]) s = .next u
        ∧ exec .parseByte s = .next { u with
            lineUnit := line .waitStatus, linkA := { s.linkA with queue := u.linkA.queue }
            linkB := { s.linkB with queue := u.linkB.queue } })
    ∧ ∀ b : Byte, b.toNat < 128 →
      (∀ kind ∈ [1, 5], Given.lineAt s (.data1 (status kind)) { good := true, value := b } rest →
        exec .parseByte s = .next { s with lineUnit := line (.data2 (status kind) b) })
      ∧ (Given.lineAt s (.data1 (status 2)) { good := true, value := b } rest →
        exec .parseByte s = .next (({ s with lineUnit := line .waitStatus }).keyOff p (lineKey b)).1)
      ∧ ∀ first : Byte, first.toNat < 128 →
        (Given.lineAt s (.data2 (status 5) first) { good := true, value := b } rest →
          ∃ t, exec .parseByte s = .next t ∧ t = { s with perf := t.perf, lineUnit := line .waitStatus }
            ∧ t.perfOf p = { s.perfOf p with bend := first.toNat + 128 * b.toNat }
            ∧ ∀ q, q ≠ p → t.perfOf q = s.perfOf q)
        ∧ (Given.lineAt s (.data2 (status 1) first) { good := true, value := b } rest →
          exec .parseByte s =
            .next (({ s with lineUnit := line .waitStatus }).giveNote p (lineKey first) b.toNat .line).1))
  ∧ (∀ (s : State) (b : Byte) (rest : List LineByte),
    let line : LineUnit := { s.lineUnit with fifo := rest, parser := .waitStatus }
    (Given.lineAt s .waitStatus { good := true, value := b } rest → (b.toNat < 128 ∨ ¬Given.namesKind b) →
      exec .parseByte s = .next (Given.afterError .frame line s))
    ∧ (∀ parser, parser ≠ .waitStatus → Given.lineAt s parser { good := true, value := b } rest → 128 ≤ b.toNat →
      let failed := Given.afterError .frame { s.lineUnit with parser := .waitStatus } s
      ∃ t, exec .parseByte s = .next t ∧ exec .parseByte failed = .next t)
    ∧ (Given.badByte s b rest → exec .parseByte s = .next (Given.afterError .byte line s)))
  ∧ ∀ s : State, Given.paced s →
    (s.lineUnit.accumulator = 0 → exec .lineErrorTimerExpiry s =
      .next { s with lineUnit := { s.lineUnit with pacing := none } })
    ∧ (0 < s.lineUnit.accumulator → ∃ t, exec .lineErrorTimerExpiry s = .next t
      ∧ t = { s with
          lineUnit := { s.lineUnit with
            accumulator := 0, errors := { frame := false, byte := false, overrun := false }, pacing := some 1000 }
          linkA := t.linkA, linkB := t.linkB }
      ∧ ∀ l, t.link l = (s.link l).told true
          { kind := .lineError
            subject := bit s.lineUnit.errors.frame + 2 * bit s.lineUnit.errors.byte + 4 * bit s.lineUnit.errors.overrun
            value1 := s.lineUnit.accumulator, value2 := 0, stamp := s.timestamp })

/-! ### Output engine (chapter 9) -/

namespace Sys2Proof.Given

/-- A glide runs. -/
abbrev gliding (s : State) (v : VoiceId) (target : Nat) : Prop := (s.glide v).target = some target

/-- The refresh round stands at channel c of voice v. -/
abbrev slotOfVoice (s : State) (n : ChannelId) (v : VoiceId) (c : Nat) : Prop :=
  s.output.slot = some n ∧ n.val = 13 * v.val + c ∧ c < 13

/-- The round stands at a pitch channel of a voice that is not TUNING, whose oscillator's record is NOMINAL or keeps
anchors with P values that rise (R152). -/
abbrev mappedSlot (s : State) (n : ChannelId) (v : VoiceId) (second : Bool) : Prop :=
  slotOfVoice s n v (bit second) ∧ (s.voice v).phase.isTuning = false
    ∧ match (s.cal (oscOf v second)).map with
      | .nominal => True
      | .calibrated _ ps => 2 ≤ ps.length ∧ ∀ x ∈ ps.zip ps.tail, x.1 < x.2

/-- The round stands at a pitch channel of a voice of a POLY or MONO part with a NOMINAL record. -/
abbrev pitchSlot (s : State) (n : ChannelId) (v : VoiceId) (second : Bool) : Prop :=
  slotOfVoice s n v (bit second) ∧ (s.voice v).phase.isTuning = false
    ∧ (s.cal (oscOf v second)).map = .nominal ∧ s.param (s.voice v).part pVoiceMode ≠ 2

/-- The target pitch T of an oscillator of a voice (R159), with the unison offset of R42. -/
def targetPitch (s : State) (v : VoiceId) (second : Bool) : Int :=
  let p := (s.voice v).part
  let set := (s.perfOf p).monoSet
  let u : Int := set.length
  let i : Int := set.idxOf v
  let offset : Int :=
    if (s.voice v).phase.isGated = true ∧ s.param p pVoiceMode = 2 ∧ v ∈ set ∧ 2 ≤ set.length then
      ((2 * i - (u - 1)) * s.param p pUnisonSpread).tdiv (u - 1)
    else 0
  (s.glide v).position + 256 * ((s.param p pTranspose : Int) - 24)
    + 256 * ((s.param p (if second then pOscBCoarse else pOscACoarse) : Int) - 24)
    + ((s.param p (if second then pOscBFine else pOscAFine) : Int) - 256)
    + ((((s.perfOf p).bend : Int) - 8192) * (s.param p pBendRange : Int) * 256).tdiv 8192
    + ((s.global gMasterTune : Int) - 256) + offset

/-- The code of a clamped target through a record, before its own clamp (R164 to R166): 2 × T, or the code of the span
j that holds it, the first span below and the last span above. -/
def mapsTo (m : CalMap) (t : Int) (code : Int) : Prop :=
  match m with
  | .nominal => code = 2 * t
  | .calibrated first ps =>
    ∀ j, j < 7 → ∀ p q : Nat, ps[j]? = some p → ps[j + 1]? = some q →
      (j = 0 ∨ (p : Int) ≤ t) → (j + 2 = ps.length ∨ t < q) →
      code = 2048 + 8192 * ((first + j : Nat) : Int) + (2 * ((t - p) * 8192) + ((q : Int) - p)) / (2 * ((q : Int) - p))

end Sys2Proof.Given

/-- A glide step moves the position GLIDE_RATE toward the target, or onto it, where the glide stops. A slot writes the
code of its channel and goes on to the next: 4 times the parameter on the plain and the global channels, the override
on the pitch channels of a TUNING voice, 2 times the target pitch through a NOMINAL record, and 0 on the amplifier
channel of a TUNING or OFFLINE voice. -/
def Obligations.GlideStepsAndOutputSlots : Prop :=
  (∀ (s : State) (v : VoiceId) (target : Nat), Given.gliding s v target →
    let rate := s.param (s.voice v).part pGlideRate
    let pos := (s.glide v).position
    ∃ t, exec (.glideStep v) s = .next t ∧ t = { s with glides := t.glides }
      ∧ (∀ w, w ≠ v → t.glide w = s.glide w)
      ∧ t.glide v =
          (if rate = 0 ∨ ((target : Int) - pos).natAbs ≤ rate then { position := target, target := none }
          else { position := if pos < target then pos + rate else pos - rate, target := some target }))
  ∧ ∀ (s : State) (n : ChannelId),
    let drives (code : Nat) : Prop := exec .outputSlot s = .next { s with output :=
      { slot := some (n + 1), channels := s.output.channels.set n code, dac := code, sha := n } }
    (∀ g : GlobalId, s.output.slot = some n → n.val = 200 + g.val → 8 ≤ g.val → drives (4 * s.global g))
    ∧ ∀ v : VoiceId,
      (∀ c i, (c, i) ∈ [(2, pPwA), (3, pPwB), (4, pMixA), (5, pMixB), (7, pResonance), (8, pEnvAttack), (9, pEnvDecay),
          (10, pEnvSustain), (11, pEnvRelease)] →
        Given.slotOfVoice s n v c → drives (4 * s.param (s.voice v).part i))
      ∧ (∀ c override, Given.slotOfVoice s n v c → c < 2 → (s.voice v).phase = .tuning override → drives override)
      ∧ (Given.slotOfVoice s n v 12 →
          ((s.voice v).phase.isTuning = true ∨ (s.voice v).phase.isOffline = true) → drives 0)
      ∧ ∀ second, Given.pitchSlot s n v second →
        let p := (s.voice v).part
        let pitch : Int := (s.glide v).position + 256 * ((s.param p pTranspose : Int) - 24)
          + 256 * ((s.param p (if second then pOscBCoarse else pOscACoarse) : Int) - 24)
          + ((s.param p (if second then pOscBFine else pOscAFine) : Int) - 256)
          + ((((s.perfOf p).bend : Int) - 8192) * (s.param p pBendRange : Int) * 256).tdiv 8192
          + ((s.global gMasterTune : Int) - 256)
        0 ≤ pitch → pitch ≤ 32767 → drives (2 * pitch.toNat)

/-- Slots of the channels that follow a voice's note. Channel 6 carries the cutoff with its key and velocity terms, with
key 60 and velocity 0 for a voice that holds none. Channel 12 of a voice that is not TUNING or OFFLINE carries the
amplifier level. A pitch channel carries the target pitch, unison offset included, clamped and mapped through the
NOMINAL or CALIBRATED record; a clamp on a voice that holds a key sets its clamp flag, and PITCH_CLAMPED goes to the
subscribers of NOTES when the flag was no. (The stage of a double clamp: assumption log 17.) -/
def Obligations.SlotsMapPitchAndLevels : Prop :=
  ∀ (s : State) (n : ChannelId) (v : VoiceId),
    let p := (s.voice v).part
    let key : Int := ((s.voice v).phase.note?.map fun x => x.key.val).getD 60
    let velocity : Int := ((s.voice v).phase.note?.map Note.velocity).getD 0
    let clamp (x : Int) : Nat := (max 0 (min 65535 x)).toNat
    let slot (code : Nat) : Output :=
      { slot := some (n + 1), channels := s.output.channels.set n code, dac := code, sha := n }
    (Given.slotOfVoice s n v 6 → exec .outputSlot s = .next { s with output := slot (clamp
      (4 * s.param p pCutoff + 2 * (key - 60) * s.param p pFltKeytrack
        + velocity * s.param p pFltVelocity * 4 / 127)) })
    ∧ (Given.slotOfVoice s n v 12 → (s.voice v).phase.isTuning = false → (s.voice v).phase.isOffline = false →
      let base : Int :=
        4 * s.param p pVcaLevel * (16383 * 127 - s.param p pVcaVelocity * (127 - velocity)) / (16383 * 127)
      let accent : Int := s.param p pModDepth * s.param p pModVelocity * velocity / (16383 * 127)
      exec .outputSlot s = .next { s with output := slot (clamp (base + base * accent / 65536)) })
    ∧ ∀ second, Given.mappedSlot s n v second →
      let pitch := Given.targetPitch s v second
      ∃ t, exec .outputSlot s = .next t ∧ ∃ raw : Int,
        Given.mapsTo (s.cal (oscOf v second)).map (clamp pitch) raw ∧ t.output = slot (clamp raw) ∧
        let clamped : Bool := decide (pitch < 0 ∨ raw < 0 ∨ 65535 < raw) && (s.voice v).phase.note?.isSome
        let stage : Nat := if pitch < 0 then 0 else if raw < 0 then 1 else 2
        t = { s with voices := t.voices, output := t.output, linkA := t.linkA, linkB := t.linkB }
        ∧ t.voice v = { s.voice v with clamped := (s.voice v).clamped || clamped }
        ∧ (∀ w, w ≠ v → t.voice w = s.voice w)
        ∧ ∀ l, t.link l = (s.link l).told
            (clamped && (!(s.voice v).clamped && (s.link l).queue.mask.getLsbD 0))
            { kind := .pitchClamped, subject := v, value1 := 256 * p.val + key.toNat
              value2 := 256 * bit second + stage, stamp := s.timestamp }
end

