-- ==== Sys2Proof/Laws/State.lean ====
section
/-! SUPPORT. The small lemmas of the record updates of State: what each setter leaves in each field and in each
accessor, and what an accessor reads after its own setter. Later proofs cite these and unfold no record update. -/

namespace Sys2Proof.Machine

/-! #### setVoice -/

@[simp] theorem State.setVoice_pending (v : VoiceId) (x : Voice) (s : State) : (s.setVoice v x).pending = s.pending := rfl
@[simp] theorem State.setVoice_freeIndex (v : VoiceId) (x : Voice) (s : State) : (s.setVoice v x).freeIndex = s.freeIndex := rfl
@[simp] theorem State.setVoice_serial (v : VoiceId) (x : Voice) (s : State) : (s.setVoice v x).serial = s.serial := rfl
@[simp] theorem State.setVoice_deferred (v : VoiceId) (x : Voice) (s : State) : (s.setVoice v x).deferred = s.deferred := rfl
@[simp] theorem State.setVoice_perf (v : VoiceId) (x : Voice) (s : State) : (s.setVoice v x).perf = s.perf := rfl
@[simp] theorem State.setVoice_params (v : VoiceId) (x : Voice) (s : State) : (s.setVoice v x).params = s.params := rfl
@[simp] theorem State.setVoice_globals (v : VoiceId) (x : Voice) (s : State) : (s.setVoice v x).globals = s.globals := rfl
@[simp] theorem State.setVoice_slots (v : VoiceId) (x : Voice) (s : State) : (s.setVoice v x).slots = s.slots := rfl
@[simp] theorem State.setVoice_template (v : VoiceId) (x : Voice) (s : State) : (s.setVoice v x).template = s.template := rfl
@[simp] theorem State.setVoice_controls (v : VoiceId) (x : Voice) (s : State) : (s.setVoice v x).controls = s.controls := rfl
@[simp] theorem State.setVoice_switches (v : VoiceId) (x : Voice) (s : State) : (s.setVoice v x).switches = s.switches := rfl
@[simp] theorem State.setVoice_scanner (v : VoiceId) (x : Voice) (s : State) : (s.setVoice v x).scanner = s.scanner := rfl
@[simp] theorem State.setVoice_knobs (v : VoiceId) (x : Voice) (s : State) : (s.setVoice v x).knobs = s.knobs := rfl
@[simp] theorem State.setVoice_switchActions (v : VoiceId) (x : Voice) (s : State) : (s.setVoice v x).switchActions = s.switchActions := rfl
@[simp] theorem State.setVoice_measurement (v : VoiceId) (x : Voice) (s : State) : (s.setVoice v x).measurement = s.measurement := rfl
@[simp] theorem State.setVoice_periodCounter (v : VoiceId) (x : Voice) (s : State) : (s.setVoice v x).periodCounter = s.periodCounter := rfl
@[simp] theorem State.setVoice_fsel (v : VoiceId) (x : Voice) (s : State) : (s.setVoice v x).fsel = s.fsel := rfl
@[simp] theorem State.setVoice_run (v : VoiceId) (x : Voice) (s : State) : (s.setVoice v x).run = s.run := rfl
@[simp] theorem State.setVoice_candidate (v : VoiceId) (x : Voice) (s : State) : (s.setVoice v x).candidate = s.candidate := rfl
@[simp] theorem State.setVoice_calibration (v : VoiceId) (x : Voice) (s : State) : (s.setVoice v x).calibration = s.calibration := rfl
@[simp] theorem State.setVoice_retune (v : VoiceId) (x : Voice) (s : State) : (s.setVoice v x).retune = s.retune := rfl
@[simp] theorem State.setVoice_glides (v : VoiceId) (x : Voice) (s : State) : (s.setVoice v x).glides = s.glides := rfl
@[simp] theorem State.setVoice_output (v : VoiceId) (x : Voice) (s : State) : (s.setVoice v x).output = s.output := rfl
@[simp] theorem State.setVoice_linkA (v : VoiceId) (x : Voice) (s : State) : (s.setVoice v x).linkA = s.linkA := rfl
@[simp] theorem State.setVoice_linkB (v : VoiceId) (x : Voice) (s : State) : (s.setVoice v x).linkB = s.linkB := rfl
@[simp] theorem State.setVoice_lineUnit (v : VoiceId) (x : Voice) (s : State) : (s.setVoice v x).lineUnit = s.lineUnit := rfl
@[simp] theorem State.setVoice_timestamp (v : VoiceId) (x : Voice) (s : State) : (s.setVoice v x).timestamp = s.timestamp := rfl
@[simp] theorem State.setVoice_rstb (v : VoiceId) (x : Voice) (s : State) : (s.setVoice v x).rstb = s.rstb := rfl
@[simp] theorem State.setVoice_resetRun (v : VoiceId) (x : Voice) (s : State) : (s.setVoice v x).resetRun = s.resetRun := rfl
@[simp] theorem State.setVoice_perfOf (v : VoiceId) (x : Voice) (q : PartId) (s : State) :
    (s.setVoice v x).perfOf q = s.perfOf q := rfl
@[simp] theorem State.setVoice_param (v : VoiceId) (x : Voice) (q : PartId) (j : ParamId) (s : State) :
    (s.setVoice v x).param q j = s.param q j := rfl
@[simp] theorem State.setVoice_global (v : VoiceId) (x : Voice) (h : GlobalId) (s : State) :
    (s.setVoice v x).global h = s.global h := rfl
@[simp] theorem State.setVoice_slotOf (v : VoiceId) (x : Voice) (q : PartId) (s : State) :
    (s.setVoice v x).slotOf q = s.slotOf q := rfl
@[simp] theorem State.setVoice_glide (v : VoiceId) (x : Voice) (w : VoiceId) (s : State) :
    (s.setVoice v x).glide w = s.glide w := rfl
@[simp] theorem State.setVoice_control (v : VoiceId) (x : Voice) (c : ControlId) (s : State) :
    (s.setVoice v x).control c = s.control c := rfl
@[simp] theorem State.setVoice_knob (v : VoiceId) (x : Voice) (c : ControlId) (s : State) :
    (s.setVoice v x).knob c = s.knob c := rfl
@[simp] theorem State.setVoice_cal (v : VoiceId) (x : Voice) (c : OscId) (s : State) :
    (s.setVoice v x).cal c = s.cal c := rfl
@[simp] theorem State.setVoice_link (v : VoiceId) (x : Voice) (m : Link) (s : State) :
    (s.setVoice v x).link m = s.link m := rfl
@[simp] theorem State.setVoice_inReset (v : VoiceId) (x : Voice) (s : State) :
    (s.setVoice v x).inReset = s.inReset := rfl

/-! #### setPhase -/

@[simp] theorem State.setPhase_pending (v : VoiceId) (x : VoicePhase) (s : State) : (s.setPhase v x).pending = s.pending := rfl
@[simp] theorem State.setPhase_freeIndex (v : VoiceId) (x : VoicePhase) (s : State) : (s.setPhase v x).freeIndex = s.freeIndex := rfl
@[simp] theorem State.setPhase_serial (v : VoiceId) (x : VoicePhase) (s : State) : (s.setPhase v x).serial = s.serial := rfl
@[simp] theorem State.setPhase_deferred (v : VoiceId) (x : VoicePhase) (s : State) : (s.setPhase v x).deferred = s.deferred := rfl
@[simp] theorem State.setPhase_perf (v : VoiceId) (x : VoicePhase) (s : State) : (s.setPhase v x).perf = s.perf := rfl
@[simp] theorem State.setPhase_params (v : VoiceId) (x : VoicePhase) (s : State) : (s.setPhase v x).params = s.params := rfl
@[simp] theorem State.setPhase_globals (v : VoiceId) (x : VoicePhase) (s : State) : (s.setPhase v x).globals = s.globals := rfl
@[simp] theorem State.setPhase_slots (v : VoiceId) (x : VoicePhase) (s : State) : (s.setPhase v x).slots = s.slots := rfl
@[simp] theorem State.setPhase_template (v : VoiceId) (x : VoicePhase) (s : State) : (s.setPhase v x).template = s.template := rfl
@[simp] theorem State.setPhase_controls (v : VoiceId) (x : VoicePhase) (s : State) : (s.setPhase v x).controls = s.controls := rfl
@[simp] theorem State.setPhase_switches (v : VoiceId) (x : VoicePhase) (s : State) : (s.setPhase v x).switches = s.switches := rfl
@[simp] theorem State.setPhase_scanner (v : VoiceId) (x : VoicePhase) (s : State) : (s.setPhase v x).scanner = s.scanner := rfl
@[simp] theorem State.setPhase_knobs (v : VoiceId) (x : VoicePhase) (s : State) : (s.setPhase v x).knobs = s.knobs := rfl
@[simp] theorem State.setPhase_switchActions (v : VoiceId) (x : VoicePhase) (s : State) : (s.setPhase v x).switchActions = s.switchActions := rfl
@[simp] theorem State.setPhase_measurement (v : VoiceId) (x : VoicePhase) (s : State) : (s.setPhase v x).measurement = s.measurement := rfl
@[simp] theorem State.setPhase_periodCounter (v : VoiceId) (x : VoicePhase) (s : State) : (s.setPhase v x).periodCounter = s.periodCounter := rfl
@[simp] theorem State.setPhase_fsel (v : VoiceId) (x : VoicePhase) (s : State) : (s.setPhase v x).fsel = s.fsel := rfl
@[simp] theorem State.setPhase_run (v : VoiceId) (x : VoicePhase) (s : State) : (s.setPhase v x).run = s.run := rfl
@[simp] theorem State.setPhase_candidate (v : VoiceId) (x : VoicePhase) (s : State) : (s.setPhase v x).candidate = s.candidate := rfl
@[simp] theorem State.setPhase_calibration (v : VoiceId) (x : VoicePhase) (s : State) : (s.setPhase v x).calibration = s.calibration := rfl
@[simp] theorem State.setPhase_retune (v : VoiceId) (x : VoicePhase) (s : State) : (s.setPhase v x).retune = s.retune := rfl
@[simp] theorem State.setPhase_glides (v : VoiceId) (x : VoicePhase) (s : State) : (s.setPhase v x).glides = s.glides := rfl
@[simp] theorem State.setPhase_output (v : VoiceId) (x : VoicePhase) (s : State) : (s.setPhase v x).output = s.output := rfl
@[simp] theorem State.setPhase_linkA (v : VoiceId) (x : VoicePhase) (s : State) : (s.setPhase v x).linkA = s.linkA := rfl
@[simp] theorem State.setPhase_linkB (v : VoiceId) (x : VoicePhase) (s : State) : (s.setPhase v x).linkB = s.linkB := rfl
@[simp] theorem State.setPhase_lineUnit (v : VoiceId) (x : VoicePhase) (s : State) : (s.setPhase v x).lineUnit = s.lineUnit := rfl
@[simp] theorem State.setPhase_timestamp (v : VoiceId) (x : VoicePhase) (s : State) : (s.setPhase v x).timestamp = s.timestamp := rfl
@[simp] theorem State.setPhase_rstb (v : VoiceId) (x : VoicePhase) (s : State) : (s.setPhase v x).rstb = s.rstb := rfl
@[simp] theorem State.setPhase_resetRun (v : VoiceId) (x : VoicePhase) (s : State) : (s.setPhase v x).resetRun = s.resetRun := rfl
@[simp] theorem State.setPhase_perfOf (v : VoiceId) (x : VoicePhase) (q : PartId) (s : State) :
    (s.setPhase v x).perfOf q = s.perfOf q := rfl
@[simp] theorem State.setPhase_param (v : VoiceId) (x : VoicePhase) (q : PartId) (j : ParamId) (s : State) :
    (s.setPhase v x).param q j = s.param q j := rfl
@[simp] theorem State.setPhase_global (v : VoiceId) (x : VoicePhase) (h : GlobalId) (s : State) :
    (s.setPhase v x).global h = s.global h := rfl
@[simp] theorem State.setPhase_slotOf (v : VoiceId) (x : VoicePhase) (q : PartId) (s : State) :
    (s.setPhase v x).slotOf q = s.slotOf q := rfl
@[simp] theorem State.setPhase_glide (v : VoiceId) (x : VoicePhase) (w : VoiceId) (s : State) :
    (s.setPhase v x).glide w = s.glide w := rfl
@[simp] theorem State.setPhase_control (v : VoiceId) (x : VoicePhase) (c : ControlId) (s : State) :
    (s.setPhase v x).control c = s.control c := rfl
@[simp] theorem State.setPhase_knob (v : VoiceId) (x : VoicePhase) (c : ControlId) (s : State) :
    (s.setPhase v x).knob c = s.knob c := rfl
@[simp] theorem State.setPhase_cal (v : VoiceId) (x : VoicePhase) (c : OscId) (s : State) :
    (s.setPhase v x).cal c = s.cal c := rfl
@[simp] theorem State.setPhase_link (v : VoiceId) (x : VoicePhase) (m : Link) (s : State) :
    (s.setPhase v x).link m = s.link m := rfl
@[simp] theorem State.setPhase_inReset (v : VoiceId) (x : VoicePhase) (s : State) :
    (s.setPhase v x).inReset = s.inReset := rfl

/-! #### setClaim -/

@[simp] theorem State.setClaim_pending (v : VoiceId) (x : Bool) (s : State) : (s.setClaim v x).pending = s.pending := rfl
@[simp] theorem State.setClaim_freeIndex (v : VoiceId) (x : Bool) (s : State) : (s.setClaim v x).freeIndex = s.freeIndex := rfl
@[simp] theorem State.setClaim_serial (v : VoiceId) (x : Bool) (s : State) : (s.setClaim v x).serial = s.serial := rfl
@[simp] theorem State.setClaim_deferred (v : VoiceId) (x : Bool) (s : State) : (s.setClaim v x).deferred = s.deferred := rfl
@[simp] theorem State.setClaim_perf (v : VoiceId) (x : Bool) (s : State) : (s.setClaim v x).perf = s.perf := rfl
@[simp] theorem State.setClaim_params (v : VoiceId) (x : Bool) (s : State) : (s.setClaim v x).params = s.params := rfl
@[simp] theorem State.setClaim_globals (v : VoiceId) (x : Bool) (s : State) : (s.setClaim v x).globals = s.globals := rfl
@[simp] theorem State.setClaim_slots (v : VoiceId) (x : Bool) (s : State) : (s.setClaim v x).slots = s.slots := rfl
@[simp] theorem State.setClaim_template (v : VoiceId) (x : Bool) (s : State) : (s.setClaim v x).template = s.template := rfl
@[simp] theorem State.setClaim_controls (v : VoiceId) (x : Bool) (s : State) : (s.setClaim v x).controls = s.controls := rfl
@[simp] theorem State.setClaim_switches (v : VoiceId) (x : Bool) (s : State) : (s.setClaim v x).switches = s.switches := rfl
@[simp] theorem State.setClaim_scanner (v : VoiceId) (x : Bool) (s : State) : (s.setClaim v x).scanner = s.scanner := rfl
@[simp] theorem State.setClaim_knobs (v : VoiceId) (x : Bool) (s : State) : (s.setClaim v x).knobs = s.knobs := rfl
@[simp] theorem State.setClaim_switchActions (v : VoiceId) (x : Bool) (s : State) : (s.setClaim v x).switchActions = s.switchActions := rfl
@[simp] theorem State.setClaim_measurement (v : VoiceId) (x : Bool) (s : State) : (s.setClaim v x).measurement = s.measurement := rfl
@[simp] theorem State.setClaim_periodCounter (v : VoiceId) (x : Bool) (s : State) : (s.setClaim v x).periodCounter = s.periodCounter := rfl
@[simp] theorem State.setClaim_fsel (v : VoiceId) (x : Bool) (s : State) : (s.setClaim v x).fsel = s.fsel := rfl
@[simp] theorem State.setClaim_run (v : VoiceId) (x : Bool) (s : State) : (s.setClaim v x).run = s.run := rfl
@[simp] theorem State.setClaim_candidate (v : VoiceId) (x : Bool) (s : State) : (s.setClaim v x).candidate = s.candidate := rfl
@[simp] theorem State.setClaim_calibration (v : VoiceId) (x : Bool) (s : State) : (s.setClaim v x).calibration = s.calibration := rfl
@[simp] theorem State.setClaim_retune (v : VoiceId) (x : Bool) (s : State) : (s.setClaim v x).retune = s.retune := rfl
@[simp] theorem State.setClaim_glides (v : VoiceId) (x : Bool) (s : State) : (s.setClaim v x).glides = s.glides := rfl
@[simp] theorem State.setClaim_output (v : VoiceId) (x : Bool) (s : State) : (s.setClaim v x).output = s.output := rfl
@[simp] theorem State.setClaim_linkA (v : VoiceId) (x : Bool) (s : State) : (s.setClaim v x).linkA = s.linkA := rfl
@[simp] theorem State.setClaim_linkB (v : VoiceId) (x : Bool) (s : State) : (s.setClaim v x).linkB = s.linkB := rfl
@[simp] theorem State.setClaim_lineUnit (v : VoiceId) (x : Bool) (s : State) : (s.setClaim v x).lineUnit = s.lineUnit := rfl
@[simp] theorem State.setClaim_timestamp (v : VoiceId) (x : Bool) (s : State) : (s.setClaim v x).timestamp = s.timestamp := rfl
@[simp] theorem State.setClaim_rstb (v : VoiceId) (x : Bool) (s : State) : (s.setClaim v x).rstb = s.rstb := rfl
@[simp] theorem State.setClaim_resetRun (v : VoiceId) (x : Bool) (s : State) : (s.setClaim v x).resetRun = s.resetRun := rfl
@[simp] theorem State.setClaim_perfOf (v : VoiceId) (x : Bool) (q : PartId) (s : State) :
    (s.setClaim v x).perfOf q = s.perfOf q := rfl
@[simp] theorem State.setClaim_param (v : VoiceId) (x : Bool) (q : PartId) (j : ParamId) (s : State) :
    (s.setClaim v x).param q j = s.param q j := rfl
@[simp] theorem State.setClaim_global (v : VoiceId) (x : Bool) (h : GlobalId) (s : State) :
    (s.setClaim v x).global h = s.global h := rfl
@[simp] theorem State.setClaim_slotOf (v : VoiceId) (x : Bool) (q : PartId) (s : State) :
    (s.setClaim v x).slotOf q = s.slotOf q := rfl
@[simp] theorem State.setClaim_glide (v : VoiceId) (x : Bool) (w : VoiceId) (s : State) :
    (s.setClaim v x).glide w = s.glide w := rfl
@[simp] theorem State.setClaim_control (v : VoiceId) (x : Bool) (c : ControlId) (s : State) :
    (s.setClaim v x).control c = s.control c := rfl
@[simp] theorem State.setClaim_knob (v : VoiceId) (x : Bool) (c : ControlId) (s : State) :
    (s.setClaim v x).knob c = s.knob c := rfl
@[simp] theorem State.setClaim_cal (v : VoiceId) (x : Bool) (c : OscId) (s : State) :
    (s.setClaim v x).cal c = s.cal c := rfl
@[simp] theorem State.setClaim_link (v : VoiceId) (x : Bool) (m : Link) (s : State) :
    (s.setClaim v x).link m = s.link m := rfl
@[simp] theorem State.setClaim_inReset (v : VoiceId) (x : Bool) (s : State) :
    (s.setClaim v x).inReset = s.inReset := rfl

/-! #### setPerf -/

@[simp] theorem State.setPerf_pending (p : PartId) (x : Perf) (s : State) : (s.setPerf p x).pending = s.pending := rfl
@[simp] theorem State.setPerf_freeIndex (p : PartId) (x : Perf) (s : State) : (s.setPerf p x).freeIndex = s.freeIndex := rfl
@[simp] theorem State.setPerf_voices (p : PartId) (x : Perf) (s : State) : (s.setPerf p x).voices = s.voices := rfl
@[simp] theorem State.setPerf_serial (p : PartId) (x : Perf) (s : State) : (s.setPerf p x).serial = s.serial := rfl
@[simp] theorem State.setPerf_deferred (p : PartId) (x : Perf) (s : State) : (s.setPerf p x).deferred = s.deferred := rfl
@[simp] theorem State.setPerf_params (p : PartId) (x : Perf) (s : State) : (s.setPerf p x).params = s.params := rfl
@[simp] theorem State.setPerf_globals (p : PartId) (x : Perf) (s : State) : (s.setPerf p x).globals = s.globals := rfl
@[simp] theorem State.setPerf_slots (p : PartId) (x : Perf) (s : State) : (s.setPerf p x).slots = s.slots := rfl
@[simp] theorem State.setPerf_template (p : PartId) (x : Perf) (s : State) : (s.setPerf p x).template = s.template := rfl
@[simp] theorem State.setPerf_controls (p : PartId) (x : Perf) (s : State) : (s.setPerf p x).controls = s.controls := rfl
@[simp] theorem State.setPerf_switches (p : PartId) (x : Perf) (s : State) : (s.setPerf p x).switches = s.switches := rfl
@[simp] theorem State.setPerf_scanner (p : PartId) (x : Perf) (s : State) : (s.setPerf p x).scanner = s.scanner := rfl
@[simp] theorem State.setPerf_knobs (p : PartId) (x : Perf) (s : State) : (s.setPerf p x).knobs = s.knobs := rfl
@[simp] theorem State.setPerf_switchActions (p : PartId) (x : Perf) (s : State) : (s.setPerf p x).switchActions = s.switchActions := rfl
@[simp] theorem State.setPerf_measurement (p : PartId) (x : Perf) (s : State) : (s.setPerf p x).measurement = s.measurement := rfl
@[simp] theorem State.setPerf_periodCounter (p : PartId) (x : Perf) (s : State) : (s.setPerf p x).periodCounter = s.periodCounter := rfl
@[simp] theorem State.setPerf_fsel (p : PartId) (x : Perf) (s : State) : (s.setPerf p x).fsel = s.fsel := rfl
@[simp] theorem State.setPerf_run (p : PartId) (x : Perf) (s : State) : (s.setPerf p x).run = s.run := rfl
@[simp] theorem State.setPerf_candidate (p : PartId) (x : Perf) (s : State) : (s.setPerf p x).candidate = s.candidate := rfl
@[simp] theorem State.setPerf_calibration (p : PartId) (x : Perf) (s : State) : (s.setPerf p x).calibration = s.calibration := rfl
@[simp] theorem State.setPerf_retune (p : PartId) (x : Perf) (s : State) : (s.setPerf p x).retune = s.retune := rfl
@[simp] theorem State.setPerf_glides (p : PartId) (x : Perf) (s : State) : (s.setPerf p x).glides = s.glides := rfl
@[simp] theorem State.setPerf_output (p : PartId) (x : Perf) (s : State) : (s.setPerf p x).output = s.output := rfl
@[simp] theorem State.setPerf_linkA (p : PartId) (x : Perf) (s : State) : (s.setPerf p x).linkA = s.linkA := rfl
@[simp] theorem State.setPerf_linkB (p : PartId) (x : Perf) (s : State) : (s.setPerf p x).linkB = s.linkB := rfl
@[simp] theorem State.setPerf_lineUnit (p : PartId) (x : Perf) (s : State) : (s.setPerf p x).lineUnit = s.lineUnit := rfl
@[simp] theorem State.setPerf_timestamp (p : PartId) (x : Perf) (s : State) : (s.setPerf p x).timestamp = s.timestamp := rfl
@[simp] theorem State.setPerf_rstb (p : PartId) (x : Perf) (s : State) : (s.setPerf p x).rstb = s.rstb := rfl
@[simp] theorem State.setPerf_resetRun (p : PartId) (x : Perf) (s : State) : (s.setPerf p x).resetRun = s.resetRun := rfl
@[simp] theorem State.setPerf_voice (p : PartId) (x : Perf) (w : VoiceId) (s : State) :
    (s.setPerf p x).voice w = s.voice w := rfl
@[simp] theorem State.setPerf_param (p : PartId) (x : Perf) (q : PartId) (j : ParamId) (s : State) :
    (s.setPerf p x).param q j = s.param q j := rfl
@[simp] theorem State.setPerf_global (p : PartId) (x : Perf) (h : GlobalId) (s : State) :
    (s.setPerf p x).global h = s.global h := rfl
@[simp] theorem State.setPerf_slotOf (p : PartId) (x : Perf) (q : PartId) (s : State) :
    (s.setPerf p x).slotOf q = s.slotOf q := rfl
@[simp] theorem State.setPerf_glide (p : PartId) (x : Perf) (w : VoiceId) (s : State) :
    (s.setPerf p x).glide w = s.glide w := rfl
@[simp] theorem State.setPerf_control (p : PartId) (x : Perf) (c : ControlId) (s : State) :
    (s.setPerf p x).control c = s.control c := rfl
@[simp] theorem State.setPerf_knob (p : PartId) (x : Perf) (c : ControlId) (s : State) :
    (s.setPerf p x).knob c = s.knob c := rfl
@[simp] theorem State.setPerf_cal (p : PartId) (x : Perf) (c : OscId) (s : State) :
    (s.setPerf p x).cal c = s.cal c := rfl
@[simp] theorem State.setPerf_link (p : PartId) (x : Perf) (m : Link) (s : State) :
    (s.setPerf p x).link m = s.link m := rfl
@[simp] theorem State.setPerf_inReset (p : PartId) (x : Perf) (s : State) :
    (s.setPerf p x).inReset = s.inReset := rfl

/-! #### setParam -/

@[simp] theorem State.setParam_pending (p : PartId) (i : ParamId) (x : Nat) (s : State) : (s.setParam p i x).pending = s.pending := rfl
@[simp] theorem State.setParam_freeIndex (p : PartId) (i : ParamId) (x : Nat) (s : State) : (s.setParam p i x).freeIndex = s.freeIndex := rfl
@[simp] theorem State.setParam_voices (p : PartId) (i : ParamId) (x : Nat) (s : State) : (s.setParam p i x).voices = s.voices := rfl
@[simp] theorem State.setParam_serial (p : PartId) (i : ParamId) (x : Nat) (s : State) : (s.setParam p i x).serial = s.serial := rfl
@[simp] theorem State.setParam_deferred (p : PartId) (i : ParamId) (x : Nat) (s : State) : (s.setParam p i x).deferred = s.deferred := rfl
@[simp] theorem State.setParam_perf (p : PartId) (i : ParamId) (x : Nat) (s : State) : (s.setParam p i x).perf = s.perf := rfl
@[simp] theorem State.setParam_globals (p : PartId) (i : ParamId) (x : Nat) (s : State) : (s.setParam p i x).globals = s.globals := rfl
@[simp] theorem State.setParam_slots (p : PartId) (i : ParamId) (x : Nat) (s : State) : (s.setParam p i x).slots = s.slots := rfl
@[simp] theorem State.setParam_template (p : PartId) (i : ParamId) (x : Nat) (s : State) : (s.setParam p i x).template = s.template := rfl
@[simp] theorem State.setParam_controls (p : PartId) (i : ParamId) (x : Nat) (s : State) : (s.setParam p i x).controls = s.controls := rfl
@[simp] theorem State.setParam_switches (p : PartId) (i : ParamId) (x : Nat) (s : State) : (s.setParam p i x).switches = s.switches := rfl
@[simp] theorem State.setParam_scanner (p : PartId) (i : ParamId) (x : Nat) (s : State) : (s.setParam p i x).scanner = s.scanner := rfl
@[simp] theorem State.setParam_knobs (p : PartId) (i : ParamId) (x : Nat) (s : State) : (s.setParam p i x).knobs = s.knobs := rfl
@[simp] theorem State.setParam_switchActions (p : PartId) (i : ParamId) (x : Nat) (s : State) : (s.setParam p i x).switchActions = s.switchActions := rfl
@[simp] theorem State.setParam_measurement (p : PartId) (i : ParamId) (x : Nat) (s : State) : (s.setParam p i x).measurement = s.measurement := rfl
@[simp] theorem State.setParam_periodCounter (p : PartId) (i : ParamId) (x : Nat) (s : State) : (s.setParam p i x).periodCounter = s.periodCounter := rfl
@[simp] theorem State.setParam_fsel (p : PartId) (i : ParamId) (x : Nat) (s : State) : (s.setParam p i x).fsel = s.fsel := rfl
@[simp] theorem State.setParam_run (p : PartId) (i : ParamId) (x : Nat) (s : State) : (s.setParam p i x).run = s.run := rfl
@[simp] theorem State.setParam_candidate (p : PartId) (i : ParamId) (x : Nat) (s : State) : (s.setParam p i x).candidate = s.candidate := rfl
@[simp] theorem State.setParam_calibration (p : PartId) (i : ParamId) (x : Nat) (s : State) : (s.setParam p i x).calibration = s.calibration := rfl
@[simp] theorem State.setParam_retune (p : PartId) (i : ParamId) (x : Nat) (s : State) : (s.setParam p i x).retune = s.retune := rfl
@[simp] theorem State.setParam_glides (p : PartId) (i : ParamId) (x : Nat) (s : State) : (s.setParam p i x).glides = s.glides := rfl
@[simp] theorem State.setParam_output (p : PartId) (i : ParamId) (x : Nat) (s : State) : (s.setParam p i x).output = s.output := rfl
@[simp] theorem State.setParam_linkA (p : PartId) (i : ParamId) (x : Nat) (s : State) : (s.setParam p i x).linkA = s.linkA := rfl
@[simp] theorem State.setParam_linkB (p : PartId) (i : ParamId) (x : Nat) (s : State) : (s.setParam p i x).linkB = s.linkB := rfl
@[simp] theorem State.setParam_lineUnit (p : PartId) (i : ParamId) (x : Nat) (s : State) : (s.setParam p i x).lineUnit = s.lineUnit := rfl
@[simp] theorem State.setParam_timestamp (p : PartId) (i : ParamId) (x : Nat) (s : State) : (s.setParam p i x).timestamp = s.timestamp := rfl
@[simp] theorem State.setParam_rstb (p : PartId) (i : ParamId) (x : Nat) (s : State) : (s.setParam p i x).rstb = s.rstb := rfl
@[simp] theorem State.setParam_resetRun (p : PartId) (i : ParamId) (x : Nat) (s : State) : (s.setParam p i x).resetRun = s.resetRun := rfl
@[simp] theorem State.setParam_voice (p : PartId) (i : ParamId) (x : Nat) (w : VoiceId) (s : State) :
    (s.setParam p i x).voice w = s.voice w := rfl
@[simp] theorem State.setParam_perfOf (p : PartId) (i : ParamId) (x : Nat) (q : PartId) (s : State) :
    (s.setParam p i x).perfOf q = s.perfOf q := rfl
@[simp] theorem State.setParam_global (p : PartId) (i : ParamId) (x : Nat) (h : GlobalId) (s : State) :
    (s.setParam p i x).global h = s.global h := rfl
@[simp] theorem State.setParam_slotOf (p : PartId) (i : ParamId) (x : Nat) (q : PartId) (s : State) :
    (s.setParam p i x).slotOf q = s.slotOf q := rfl
@[simp] theorem State.setParam_glide (p : PartId) (i : ParamId) (x : Nat) (w : VoiceId) (s : State) :
    (s.setParam p i x).glide w = s.glide w := rfl
@[simp] theorem State.setParam_control (p : PartId) (i : ParamId) (x : Nat) (c : ControlId) (s : State) :
    (s.setParam p i x).control c = s.control c := rfl
@[simp] theorem State.setParam_knob (p : PartId) (i : ParamId) (x : Nat) (c : ControlId) (s : State) :
    (s.setParam p i x).knob c = s.knob c := rfl
@[simp] theorem State.setParam_cal (p : PartId) (i : ParamId) (x : Nat) (c : OscId) (s : State) :
    (s.setParam p i x).cal c = s.cal c := rfl
@[simp] theorem State.setParam_link (p : PartId) (i : ParamId) (x : Nat) (m : Link) (s : State) :
    (s.setParam p i x).link m = s.link m := rfl
@[simp] theorem State.setParam_inReset (p : PartId) (i : ParamId) (x : Nat) (s : State) :
    (s.setParam p i x).inReset = s.inReset := rfl

/-! #### setGlobal -/

@[simp] theorem State.setGlobal_pending (g : GlobalId) (x : Nat) (s : State) : (s.setGlobal g x).pending = s.pending := rfl
@[simp] theorem State.setGlobal_freeIndex (g : GlobalId) (x : Nat) (s : State) : (s.setGlobal g x).freeIndex = s.freeIndex := rfl
@[simp] theorem State.setGlobal_voices (g : GlobalId) (x : Nat) (s : State) : (s.setGlobal g x).voices = s.voices := rfl
@[simp] theorem State.setGlobal_serial (g : GlobalId) (x : Nat) (s : State) : (s.setGlobal g x).serial = s.serial := rfl
@[simp] theorem State.setGlobal_deferred (g : GlobalId) (x : Nat) (s : State) : (s.setGlobal g x).deferred = s.deferred := rfl
@[simp] theorem State.setGlobal_perf (g : GlobalId) (x : Nat) (s : State) : (s.setGlobal g x).perf = s.perf := rfl
@[simp] theorem State.setGlobal_params (g : GlobalId) (x : Nat) (s : State) : (s.setGlobal g x).params = s.params := rfl
@[simp] theorem State.setGlobal_slots (g : GlobalId) (x : Nat) (s : State) : (s.setGlobal g x).slots = s.slots := rfl
@[simp] theorem State.setGlobal_template (g : GlobalId) (x : Nat) (s : State) : (s.setGlobal g x).template = s.template := rfl
@[simp] theorem State.setGlobal_controls (g : GlobalId) (x : Nat) (s : State) : (s.setGlobal g x).controls = s.controls := rfl
@[simp] theorem State.setGlobal_switches (g : GlobalId) (x : Nat) (s : State) : (s.setGlobal g x).switches = s.switches := rfl
@[simp] theorem State.setGlobal_scanner (g : GlobalId) (x : Nat) (s : State) : (s.setGlobal g x).scanner = s.scanner := rfl
@[simp] theorem State.setGlobal_knobs (g : GlobalId) (x : Nat) (s : State) : (s.setGlobal g x).knobs = s.knobs := rfl
@[simp] theorem State.setGlobal_switchActions (g : GlobalId) (x : Nat) (s : State) : (s.setGlobal g x).switchActions = s.switchActions := rfl
@[simp] theorem State.setGlobal_measurement (g : GlobalId) (x : Nat) (s : State) : (s.setGlobal g x).measurement = s.measurement := rfl
@[simp] theorem State.setGlobal_periodCounter (g : GlobalId) (x : Nat) (s : State) : (s.setGlobal g x).periodCounter = s.periodCounter := rfl
@[simp] theorem State.setGlobal_fsel (g : GlobalId) (x : Nat) (s : State) : (s.setGlobal g x).fsel = s.fsel := rfl
@[simp] theorem State.setGlobal_run (g : GlobalId) (x : Nat) (s : State) : (s.setGlobal g x).run = s.run := rfl
@[simp] theorem State.setGlobal_candidate (g : GlobalId) (x : Nat) (s : State) : (s.setGlobal g x).candidate = s.candidate := rfl
@[simp] theorem State.setGlobal_calibration (g : GlobalId) (x : Nat) (s : State) : (s.setGlobal g x).calibration = s.calibration := rfl
@[simp] theorem State.setGlobal_retune (g : GlobalId) (x : Nat) (s : State) : (s.setGlobal g x).retune = s.retune := rfl
@[simp] theorem State.setGlobal_glides (g : GlobalId) (x : Nat) (s : State) : (s.setGlobal g x).glides = s.glides := rfl
@[simp] theorem State.setGlobal_output (g : GlobalId) (x : Nat) (s : State) : (s.setGlobal g x).output = s.output := rfl
@[simp] theorem State.setGlobal_linkA (g : GlobalId) (x : Nat) (s : State) : (s.setGlobal g x).linkA = s.linkA := rfl
@[simp] theorem State.setGlobal_linkB (g : GlobalId) (x : Nat) (s : State) : (s.setGlobal g x).linkB = s.linkB := rfl
@[simp] theorem State.setGlobal_lineUnit (g : GlobalId) (x : Nat) (s : State) : (s.setGlobal g x).lineUnit = s.lineUnit := rfl
@[simp] theorem State.setGlobal_timestamp (g : GlobalId) (x : Nat) (s : State) : (s.setGlobal g x).timestamp = s.timestamp := rfl
@[simp] theorem State.setGlobal_rstb (g : GlobalId) (x : Nat) (s : State) : (s.setGlobal g x).rstb = s.rstb := rfl
@[simp] theorem State.setGlobal_resetRun (g : GlobalId) (x : Nat) (s : State) : (s.setGlobal g x).resetRun = s.resetRun := rfl
@[simp] theorem State.setGlobal_voice (g : GlobalId) (x : Nat) (w : VoiceId) (s : State) :
    (s.setGlobal g x).voice w = s.voice w := rfl
@[simp] theorem State.setGlobal_perfOf (g : GlobalId) (x : Nat) (q : PartId) (s : State) :
    (s.setGlobal g x).perfOf q = s.perfOf q := rfl
@[simp] theorem State.setGlobal_param (g : GlobalId) (x : Nat) (q : PartId) (j : ParamId) (s : State) :
    (s.setGlobal g x).param q j = s.param q j := rfl
@[simp] theorem State.setGlobal_slotOf (g : GlobalId) (x : Nat) (q : PartId) (s : State) :
    (s.setGlobal g x).slotOf q = s.slotOf q := rfl
@[simp] theorem State.setGlobal_glide (g : GlobalId) (x : Nat) (w : VoiceId) (s : State) :
    (s.setGlobal g x).glide w = s.glide w := rfl
@[simp] theorem State.setGlobal_control (g : GlobalId) (x : Nat) (c : ControlId) (s : State) :
    (s.setGlobal g x).control c = s.control c := rfl
@[simp] theorem State.setGlobal_knob (g : GlobalId) (x : Nat) (c : ControlId) (s : State) :
    (s.setGlobal g x).knob c = s.knob c := rfl
@[simp] theorem State.setGlobal_cal (g : GlobalId) (x : Nat) (c : OscId) (s : State) :
    (s.setGlobal g x).cal c = s.cal c := rfl
@[simp] theorem State.setGlobal_link (g : GlobalId) (x : Nat) (m : Link) (s : State) :
    (s.setGlobal g x).link m = s.link m := rfl
@[simp] theorem State.setGlobal_inReset (g : GlobalId) (x : Nat) (s : State) :
    (s.setGlobal g x).inReset = s.inReset := rfl

/-! #### setSlot -/

@[simp] theorem State.setSlot_pending (p : PartId) (x : Option Morph) (s : State) : (s.setSlot p x).pending = s.pending := rfl
@[simp] theorem State.setSlot_freeIndex (p : PartId) (x : Option Morph) (s : State) : (s.setSlot p x).freeIndex = s.freeIndex := rfl
@[simp] theorem State.setSlot_voices (p : PartId) (x : Option Morph) (s : State) : (s.setSlot p x).voices = s.voices := rfl
@[simp] theorem State.setSlot_serial (p : PartId) (x : Option Morph) (s : State) : (s.setSlot p x).serial = s.serial := rfl
@[simp] theorem State.setSlot_deferred (p : PartId) (x : Option Morph) (s : State) : (s.setSlot p x).deferred = s.deferred := rfl
@[simp] theorem State.setSlot_perf (p : PartId) (x : Option Morph) (s : State) : (s.setSlot p x).perf = s.perf := rfl
@[simp] theorem State.setSlot_params (p : PartId) (x : Option Morph) (s : State) : (s.setSlot p x).params = s.params := rfl
@[simp] theorem State.setSlot_globals (p : PartId) (x : Option Morph) (s : State) : (s.setSlot p x).globals = s.globals := rfl
@[simp] theorem State.setSlot_template (p : PartId) (x : Option Morph) (s : State) : (s.setSlot p x).template = s.template := rfl
@[simp] theorem State.setSlot_controls (p : PartId) (x : Option Morph) (s : State) : (s.setSlot p x).controls = s.controls := rfl
@[simp] theorem State.setSlot_switches (p : PartId) (x : Option Morph) (s : State) : (s.setSlot p x).switches = s.switches := rfl
@[simp] theorem State.setSlot_scanner (p : PartId) (x : Option Morph) (s : State) : (s.setSlot p x).scanner = s.scanner := rfl
@[simp] theorem State.setSlot_knobs (p : PartId) (x : Option Morph) (s : State) : (s.setSlot p x).knobs = s.knobs := rfl
@[simp] theorem State.setSlot_switchActions (p : PartId) (x : Option Morph) (s : State) : (s.setSlot p x).switchActions = s.switchActions := rfl
@[simp] theorem State.setSlot_measurement (p : PartId) (x : Option Morph) (s : State) : (s.setSlot p x).measurement = s.measurement := rfl
@[simp] theorem State.setSlot_periodCounter (p : PartId) (x : Option Morph) (s : State) : (s.setSlot p x).periodCounter = s.periodCounter := rfl
@[simp] theorem State.setSlot_fsel (p : PartId) (x : Option Morph) (s : State) : (s.setSlot p x).fsel = s.fsel := rfl
@[simp] theorem State.setSlot_run (p : PartId) (x : Option Morph) (s : State) : (s.setSlot p x).run = s.run := rfl
@[simp] theorem State.setSlot_candidate (p : PartId) (x : Option Morph) (s : State) : (s.setSlot p x).candidate = s.candidate := rfl
@[simp] theorem State.setSlot_calibration (p : PartId) (x : Option Morph) (s : State) : (s.setSlot p x).calibration = s.calibration := rfl
@[simp] theorem State.setSlot_retune (p : PartId) (x : Option Morph) (s : State) : (s.setSlot p x).retune = s.retune := rfl
@[simp] theorem State.setSlot_glides (p : PartId) (x : Option Morph) (s : State) : (s.setSlot p x).glides = s.glides := rfl
@[simp] theorem State.setSlot_output (p : PartId) (x : Option Morph) (s : State) : (s.setSlot p x).output = s.output := rfl
@[simp] theorem State.setSlot_linkA (p : PartId) (x : Option Morph) (s : State) : (s.setSlot p x).linkA = s.linkA := rfl
@[simp] theorem State.setSlot_linkB (p : PartId) (x : Option Morph) (s : State) : (s.setSlot p x).linkB = s.linkB := rfl
@[simp] theorem State.setSlot_lineUnit (p : PartId) (x : Option Morph) (s : State) : (s.setSlot p x).lineUnit = s.lineUnit := rfl
@[simp] theorem State.setSlot_timestamp (p : PartId) (x : Option Morph) (s : State) : (s.setSlot p x).timestamp = s.timestamp := rfl
@[simp] theorem State.setSlot_rstb (p : PartId) (x : Option Morph) (s : State) : (s.setSlot p x).rstb = s.rstb := rfl
@[simp] theorem State.setSlot_resetRun (p : PartId) (x : Option Morph) (s : State) : (s.setSlot p x).resetRun = s.resetRun := rfl
@[simp] theorem State.setSlot_voice (p : PartId) (x : Option Morph) (w : VoiceId) (s : State) :
    (s.setSlot p x).voice w = s.voice w := rfl
@[simp] theorem State.setSlot_perfOf (p : PartId) (x : Option Morph) (q : PartId) (s : State) :
    (s.setSlot p x).perfOf q = s.perfOf q := rfl
@[simp] theorem State.setSlot_param (p : PartId) (x : Option Morph) (q : PartId) (j : ParamId) (s : State) :
    (s.setSlot p x).param q j = s.param q j := rfl
@[simp] theorem State.setSlot_global (p : PartId) (x : Option Morph) (h : GlobalId) (s : State) :
    (s.setSlot p x).global h = s.global h := rfl
@[simp] theorem State.setSlot_glide (p : PartId) (x : Option Morph) (w : VoiceId) (s : State) :
    (s.setSlot p x).glide w = s.glide w := rfl
@[simp] theorem State.setSlot_control (p : PartId) (x : Option Morph) (c : ControlId) (s : State) :
    (s.setSlot p x).control c = s.control c := rfl
@[simp] theorem State.setSlot_knob (p : PartId) (x : Option Morph) (c : ControlId) (s : State) :
    (s.setSlot p x).knob c = s.knob c := rfl
@[simp] theorem State.setSlot_cal (p : PartId) (x : Option Morph) (c : OscId) (s : State) :
    (s.setSlot p x).cal c = s.cal c := rfl
@[simp] theorem State.setSlot_link (p : PartId) (x : Option Morph) (m : Link) (s : State) :
    (s.setSlot p x).link m = s.link m := rfl
@[simp] theorem State.setSlot_inReset (p : PartId) (x : Option Morph) (s : State) :
    (s.setSlot p x).inReset = s.inReset := rfl

/-! #### setGlide -/

@[simp] theorem State.setGlide_pending (v : VoiceId) (x : Glide) (s : State) : (s.setGlide v x).pending = s.pending := rfl
@[simp] theorem State.setGlide_freeIndex (v : VoiceId) (x : Glide) (s : State) : (s.setGlide v x).freeIndex = s.freeIndex := rfl
@[simp] theorem State.setGlide_voices (v : VoiceId) (x : Glide) (s : State) : (s.setGlide v x).voices = s.voices := rfl
@[simp] theorem State.setGlide_serial (v : VoiceId) (x : Glide) (s : State) : (s.setGlide v x).serial = s.serial := rfl
@[simp] theorem State.setGlide_deferred (v : VoiceId) (x : Glide) (s : State) : (s.setGlide v x).deferred = s.deferred := rfl
@[simp] theorem State.setGlide_perf (v : VoiceId) (x : Glide) (s : State) : (s.setGlide v x).perf = s.perf := rfl
@[simp] theorem State.setGlide_params (v : VoiceId) (x : Glide) (s : State) : (s.setGlide v x).params = s.params := rfl
@[simp] theorem State.setGlide_globals (v : VoiceId) (x : Glide) (s : State) : (s.setGlide v x).globals = s.globals := rfl
@[simp] theorem State.setGlide_slots (v : VoiceId) (x : Glide) (s : State) : (s.setGlide v x).slots = s.slots := rfl
@[simp] theorem State.setGlide_template (v : VoiceId) (x : Glide) (s : State) : (s.setGlide v x).template = s.template := rfl
@[simp] theorem State.setGlide_controls (v : VoiceId) (x : Glide) (s : State) : (s.setGlide v x).controls = s.controls := rfl
@[simp] theorem State.setGlide_switches (v : VoiceId) (x : Glide) (s : State) : (s.setGlide v x).switches = s.switches := rfl
@[simp] theorem State.setGlide_scanner (v : VoiceId) (x : Glide) (s : State) : (s.setGlide v x).scanner = s.scanner := rfl
@[simp] theorem State.setGlide_knobs (v : VoiceId) (x : Glide) (s : State) : (s.setGlide v x).knobs = s.knobs := rfl
@[simp] theorem State.setGlide_switchActions (v : VoiceId) (x : Glide) (s : State) : (s.setGlide v x).switchActions = s.switchActions := rfl
@[simp] theorem State.setGlide_measurement (v : VoiceId) (x : Glide) (s : State) : (s.setGlide v x).measurement = s.measurement := rfl
@[simp] theorem State.setGlide_periodCounter (v : VoiceId) (x : Glide) (s : State) : (s.setGlide v x).periodCounter = s.periodCounter := rfl
@[simp] theorem State.setGlide_fsel (v : VoiceId) (x : Glide) (s : State) : (s.setGlide v x).fsel = s.fsel := rfl
@[simp] theorem State.setGlide_run (v : VoiceId) (x : Glide) (s : State) : (s.setGlide v x).run = s.run := rfl
@[simp] theorem State.setGlide_candidate (v : VoiceId) (x : Glide) (s : State) : (s.setGlide v x).candidate = s.candidate := rfl
@[simp] theorem State.setGlide_calibration (v : VoiceId) (x : Glide) (s : State) : (s.setGlide v x).calibration = s.calibration := rfl
@[simp] theorem State.setGlide_retune (v : VoiceId) (x : Glide) (s : State) : (s.setGlide v x).retune = s.retune := rfl
@[simp] theorem State.setGlide_output (v : VoiceId) (x : Glide) (s : State) : (s.setGlide v x).output = s.output := rfl
@[simp] theorem State.setGlide_linkA (v : VoiceId) (x : Glide) (s : State) : (s.setGlide v x).linkA = s.linkA := rfl
@[simp] theorem State.setGlide_linkB (v : VoiceId) (x : Glide) (s : State) : (s.setGlide v x).linkB = s.linkB := rfl
@[simp] theorem State.setGlide_lineUnit (v : VoiceId) (x : Glide) (s : State) : (s.setGlide v x).lineUnit = s.lineUnit := rfl
@[simp] theorem State.setGlide_timestamp (v : VoiceId) (x : Glide) (s : State) : (s.setGlide v x).timestamp = s.timestamp := rfl
@[simp] theorem State.setGlide_rstb (v : VoiceId) (x : Glide) (s : State) : (s.setGlide v x).rstb = s.rstb := rfl
@[simp] theorem State.setGlide_resetRun (v : VoiceId) (x : Glide) (s : State) : (s.setGlide v x).resetRun = s.resetRun := rfl
@[simp] theorem State.setGlide_voice (v : VoiceId) (x : Glide) (w : VoiceId) (s : State) :
    (s.setGlide v x).voice w = s.voice w := rfl
@[simp] theorem State.setGlide_perfOf (v : VoiceId) (x : Glide) (q : PartId) (s : State) :
    (s.setGlide v x).perfOf q = s.perfOf q := rfl
@[simp] theorem State.setGlide_param (v : VoiceId) (x : Glide) (q : PartId) (j : ParamId) (s : State) :
    (s.setGlide v x).param q j = s.param q j := rfl
@[simp] theorem State.setGlide_global (v : VoiceId) (x : Glide) (h : GlobalId) (s : State) :
    (s.setGlide v x).global h = s.global h := rfl
@[simp] theorem State.setGlide_slotOf (v : VoiceId) (x : Glide) (q : PartId) (s : State) :
    (s.setGlide v x).slotOf q = s.slotOf q := rfl
@[simp] theorem State.setGlide_control (v : VoiceId) (x : Glide) (c : ControlId) (s : State) :
    (s.setGlide v x).control c = s.control c := rfl
@[simp] theorem State.setGlide_knob (v : VoiceId) (x : Glide) (c : ControlId) (s : State) :
    (s.setGlide v x).knob c = s.knob c := rfl
@[simp] theorem State.setGlide_cal (v : VoiceId) (x : Glide) (c : OscId) (s : State) :
    (s.setGlide v x).cal c = s.cal c := rfl
@[simp] theorem State.setGlide_link (v : VoiceId) (x : Glide) (m : Link) (s : State) :
    (s.setGlide v x).link m = s.link m := rfl
@[simp] theorem State.setGlide_inReset (v : VoiceId) (x : Glide) (s : State) :
    (s.setGlide v x).inReset = s.inReset := rfl

/-! #### setControl -/

@[simp] theorem State.setControl_pending (k : ControlId) (x : Control) (s : State) : (s.setControl k x).pending = s.pending := rfl
@[simp] theorem State.setControl_freeIndex (k : ControlId) (x : Control) (s : State) : (s.setControl k x).freeIndex = s.freeIndex := rfl
@[simp] theorem State.setControl_voices (k : ControlId) (x : Control) (s : State) : (s.setControl k x).voices = s.voices := rfl
@[simp] theorem State.setControl_serial (k : ControlId) (x : Control) (s : State) : (s.setControl k x).serial = s.serial := rfl
@[simp] theorem State.setControl_deferred (k : ControlId) (x : Control) (s : State) : (s.setControl k x).deferred = s.deferred := rfl
@[simp] theorem State.setControl_perf (k : ControlId) (x : Control) (s : State) : (s.setControl k x).perf = s.perf := rfl
@[simp] theorem State.setControl_params (k : ControlId) (x : Control) (s : State) : (s.setControl k x).params = s.params := rfl
@[simp] theorem State.setControl_globals (k : ControlId) (x : Control) (s : State) : (s.setControl k x).globals = s.globals := rfl
@[simp] theorem State.setControl_slots (k : ControlId) (x : Control) (s : State) : (s.setControl k x).slots = s.slots := rfl
@[simp] theorem State.setControl_template (k : ControlId) (x : Control) (s : State) : (s.setControl k x).template = s.template := rfl
@[simp] theorem State.setControl_switches (k : ControlId) (x : Control) (s : State) : (s.setControl k x).switches = s.switches := rfl
@[simp] theorem State.setControl_scanner (k : ControlId) (x : Control) (s : State) : (s.setControl k x).scanner = s.scanner := rfl
@[simp] theorem State.setControl_knobs (k : ControlId) (x : Control) (s : State) : (s.setControl k x).knobs = s.knobs := rfl
@[simp] theorem State.setControl_switchActions (k : ControlId) (x : Control) (s : State) : (s.setControl k x).switchActions = s.switchActions := rfl
@[simp] theorem State.setControl_measurement (k : ControlId) (x : Control) (s : State) : (s.setControl k x).measurement = s.measurement := rfl
@[simp] theorem State.setControl_periodCounter (k : ControlId) (x : Control) (s : State) : (s.setControl k x).periodCounter = s.periodCounter := rfl
@[simp] theorem State.setControl_fsel (k : ControlId) (x : Control) (s : State) : (s.setControl k x).fsel = s.fsel := rfl
@[simp] theorem State.setControl_run (k : ControlId) (x : Control) (s : State) : (s.setControl k x).run = s.run := rfl
@[simp] theorem State.setControl_candidate (k : ControlId) (x : Control) (s : State) : (s.setControl k x).candidate = s.candidate := rfl
@[simp] theorem State.setControl_calibration (k : ControlId) (x : Control) (s : State) : (s.setControl k x).calibration = s.calibration := rfl
@[simp] theorem State.setControl_retune (k : ControlId) (x : Control) (s : State) : (s.setControl k x).retune = s.retune := rfl
@[simp] theorem State.setControl_glides (k : ControlId) (x : Control) (s : State) : (s.setControl k x).glides = s.glides := rfl
@[simp] theorem State.setControl_output (k : ControlId) (x : Control) (s : State) : (s.setControl k x).output = s.output := rfl
@[simp] theorem State.setControl_linkA (k : ControlId) (x : Control) (s : State) : (s.setControl k x).linkA = s.linkA := rfl
@[simp] theorem State.setControl_linkB (k : ControlId) (x : Control) (s : State) : (s.setControl k x).linkB = s.linkB := rfl
@[simp] theorem State.setControl_lineUnit (k : ControlId) (x : Control) (s : State) : (s.setControl k x).lineUnit = s.lineUnit := rfl
@[simp] theorem State.setControl_timestamp (k : ControlId) (x : Control) (s : State) : (s.setControl k x).timestamp = s.timestamp := rfl
@[simp] theorem State.setControl_rstb (k : ControlId) (x : Control) (s : State) : (s.setControl k x).rstb = s.rstb := rfl
@[simp] theorem State.setControl_resetRun (k : ControlId) (x : Control) (s : State) : (s.setControl k x).resetRun = s.resetRun := rfl
@[simp] theorem State.setControl_voice (k : ControlId) (x : Control) (w : VoiceId) (s : State) :
    (s.setControl k x).voice w = s.voice w := rfl
@[simp] theorem State.setControl_perfOf (k : ControlId) (x : Control) (q : PartId) (s : State) :
    (s.setControl k x).perfOf q = s.perfOf q := rfl
@[simp] theorem State.setControl_param (k : ControlId) (x : Control) (q : PartId) (j : ParamId) (s : State) :
    (s.setControl k x).param q j = s.param q j := rfl
@[simp] theorem State.setControl_global (k : ControlId) (x : Control) (h : GlobalId) (s : State) :
    (s.setControl k x).global h = s.global h := rfl
@[simp] theorem State.setControl_slotOf (k : ControlId) (x : Control) (q : PartId) (s : State) :
    (s.setControl k x).slotOf q = s.slotOf q := rfl
@[simp] theorem State.setControl_glide (k : ControlId) (x : Control) (w : VoiceId) (s : State) :
    (s.setControl k x).glide w = s.glide w := rfl
@[simp] theorem State.setControl_knob (k : ControlId) (x : Control) (c : ControlId) (s : State) :
    (s.setControl k x).knob c = s.knob c := rfl
@[simp] theorem State.setControl_cal (k : ControlId) (x : Control) (c : OscId) (s : State) :
    (s.setControl k x).cal c = s.cal c := rfl
@[simp] theorem State.setControl_link (k : ControlId) (x : Control) (m : Link) (s : State) :
    (s.setControl k x).link m = s.link m := rfl
@[simp] theorem State.setControl_inReset (k : ControlId) (x : Control) (s : State) :
    (s.setControl k x).inReset = s.inReset := rfl

/-! #### setKnob -/

@[simp] theorem State.setKnob_pending (k : ControlId) (x : Option KnobBinding) (s : State) : (s.setKnob k x).pending = s.pending := rfl
@[simp] theorem State.setKnob_freeIndex (k : ControlId) (x : Option KnobBinding) (s : State) : (s.setKnob k x).freeIndex = s.freeIndex := rfl
@[simp] theorem State.setKnob_voices (k : ControlId) (x : Option KnobBinding) (s : State) : (s.setKnob k x).voices = s.voices := rfl
@[simp] theorem State.setKnob_serial (k : ControlId) (x : Option KnobBinding) (s : State) : (s.setKnob k x).serial = s.serial := rfl
@[simp] theorem State.setKnob_deferred (k : ControlId) (x : Option KnobBinding) (s : State) : (s.setKnob k x).deferred = s.deferred := rfl
@[simp] theorem State.setKnob_perf (k : ControlId) (x : Option KnobBinding) (s : State) : (s.setKnob k x).perf = s.perf := rfl
@[simp] theorem State.setKnob_params (k : ControlId) (x : Option KnobBinding) (s : State) : (s.setKnob k x).params = s.params := rfl
@[simp] theorem State.setKnob_globals (k : ControlId) (x : Option KnobBinding) (s : State) : (s.setKnob k x).globals = s.globals := rfl
@[simp] theorem State.setKnob_slots (k : ControlId) (x : Option KnobBinding) (s : State) : (s.setKnob k x).slots = s.slots := rfl
@[simp] theorem State.setKnob_template (k : ControlId) (x : Option KnobBinding) (s : State) : (s.setKnob k x).template = s.template := rfl
@[simp] theorem State.setKnob_controls (k : ControlId) (x : Option KnobBinding) (s : State) : (s.setKnob k x).controls = s.controls := rfl
@[simp] theorem State.setKnob_switches (k : ControlId) (x : Option KnobBinding) (s : State) : (s.setKnob k x).switches = s.switches := rfl
@[simp] theorem State.setKnob_scanner (k : ControlId) (x : Option KnobBinding) (s : State) : (s.setKnob k x).scanner = s.scanner := rfl
@[simp] theorem State.setKnob_switchActions (k : ControlId) (x : Option KnobBinding) (s : State) : (s.setKnob k x).switchActions = s.switchActions := rfl
@[simp] theorem State.setKnob_measurement (k : ControlId) (x : Option KnobBinding) (s : State) : (s.setKnob k x).measurement = s.measurement := rfl
@[simp] theorem State.setKnob_periodCounter (k : ControlId) (x : Option KnobBinding) (s : State) : (s.setKnob k x).periodCounter = s.periodCounter := rfl
@[simp] theorem State.setKnob_fsel (k : ControlId) (x : Option KnobBinding) (s : State) : (s.setKnob k x).fsel = s.fsel := rfl
@[simp] theorem State.setKnob_run (k : ControlId) (x : Option KnobBinding) (s : State) : (s.setKnob k x).run = s.run := rfl
@[simp] theorem State.setKnob_candidate (k : ControlId) (x : Option KnobBinding) (s : State) : (s.setKnob k x).candidate = s.candidate := rfl
@[simp] theorem State.setKnob_calibration (k : ControlId) (x : Option KnobBinding) (s : State) : (s.setKnob k x).calibration = s.calibration := rfl
@[simp] theorem State.setKnob_retune (k : ControlId) (x : Option KnobBinding) (s : State) : (s.setKnob k x).retune = s.retune := rfl
@[simp] theorem State.setKnob_glides (k : ControlId) (x : Option KnobBinding) (s : State) : (s.setKnob k x).glides = s.glides := rfl
@[simp] theorem State.setKnob_output (k : ControlId) (x : Option KnobBinding) (s : State) : (s.setKnob k x).output = s.output := rfl
@[simp] theorem State.setKnob_linkA (k : ControlId) (x : Option KnobBinding) (s : State) : (s.setKnob k x).linkA = s.linkA := rfl
@[simp] theorem State.setKnob_linkB (k : ControlId) (x : Option KnobBinding) (s : State) : (s.setKnob k x).linkB = s.linkB := rfl
@[simp] theorem State.setKnob_lineUnit (k : ControlId) (x : Option KnobBinding) (s : State) : (s.setKnob k x).lineUnit = s.lineUnit := rfl
@[simp] theorem State.setKnob_timestamp (k : ControlId) (x : Option KnobBinding) (s : State) : (s.setKnob k x).timestamp = s.timestamp := rfl
@[simp] theorem State.setKnob_rstb (k : ControlId) (x : Option KnobBinding) (s : State) : (s.setKnob k x).rstb = s.rstb := rfl
@[simp] theorem State.setKnob_resetRun (k : ControlId) (x : Option KnobBinding) (s : State) : (s.setKnob k x).resetRun = s.resetRun := rfl
@[simp] theorem State.setKnob_voice (k : ControlId) (x : Option KnobBinding) (w : VoiceId) (s : State) :
    (s.setKnob k x).voice w = s.voice w := rfl
@[simp] theorem State.setKnob_perfOf (k : ControlId) (x : Option KnobBinding) (q : PartId) (s : State) :
    (s.setKnob k x).perfOf q = s.perfOf q := rfl
@[simp] theorem State.setKnob_param (k : ControlId) (x : Option KnobBinding) (q : PartId) (j : ParamId) (s : State) :
    (s.setKnob k x).param q j = s.param q j := rfl
@[simp] theorem State.setKnob_global (k : ControlId) (x : Option KnobBinding) (h : GlobalId) (s : State) :
    (s.setKnob k x).global h = s.global h := rfl
@[simp] theorem State.setKnob_slotOf (k : ControlId) (x : Option KnobBinding) (q : PartId) (s : State) :
    (s.setKnob k x).slotOf q = s.slotOf q := rfl
@[simp] theorem State.setKnob_glide (k : ControlId) (x : Option KnobBinding) (w : VoiceId) (s : State) :
    (s.setKnob k x).glide w = s.glide w := rfl
@[simp] theorem State.setKnob_control (k : ControlId) (x : Option KnobBinding) (c : ControlId) (s : State) :
    (s.setKnob k x).control c = s.control c := rfl
@[simp] theorem State.setKnob_cal (k : ControlId) (x : Option KnobBinding) (c : OscId) (s : State) :
    (s.setKnob k x).cal c = s.cal c := rfl
@[simp] theorem State.setKnob_link (k : ControlId) (x : Option KnobBinding) (m : Link) (s : State) :
    (s.setKnob k x).link m = s.link m := rfl
@[simp] theorem State.setKnob_inReset (k : ControlId) (x : Option KnobBinding) (s : State) :
    (s.setKnob k x).inReset = s.inReset := rfl

/-! #### setCal -/

@[simp] theorem State.setCal_pending (o : OscId) (x : CalRecord) (s : State) : (s.setCal o x).pending = s.pending := rfl
@[simp] theorem State.setCal_freeIndex (o : OscId) (x : CalRecord) (s : State) : (s.setCal o x).freeIndex = s.freeIndex := rfl
@[simp] theorem State.setCal_voices (o : OscId) (x : CalRecord) (s : State) : (s.setCal o x).voices = s.voices := rfl
@[simp] theorem State.setCal_serial (o : OscId) (x : CalRecord) (s : State) : (s.setCal o x).serial = s.serial := rfl
@[simp] theorem State.setCal_deferred (o : OscId) (x : CalRecord) (s : State) : (s.setCal o x).deferred = s.deferred := rfl
@[simp] theorem State.setCal_perf (o : OscId) (x : CalRecord) (s : State) : (s.setCal o x).perf = s.perf := rfl
@[simp] theorem State.setCal_params (o : OscId) (x : CalRecord) (s : State) : (s.setCal o x).params = s.params := rfl
@[simp] theorem State.setCal_globals (o : OscId) (x : CalRecord) (s : State) : (s.setCal o x).globals = s.globals := rfl
@[simp] theorem State.setCal_slots (o : OscId) (x : CalRecord) (s : State) : (s.setCal o x).slots = s.slots := rfl
@[simp] theorem State.setCal_template (o : OscId) (x : CalRecord) (s : State) : (s.setCal o x).template = s.template := rfl
@[simp] theorem State.setCal_controls (o : OscId) (x : CalRecord) (s : State) : (s.setCal o x).controls = s.controls := rfl
@[simp] theorem State.setCal_switches (o : OscId) (x : CalRecord) (s : State) : (s.setCal o x).switches = s.switches := rfl
@[simp] theorem State.setCal_scanner (o : OscId) (x : CalRecord) (s : State) : (s.setCal o x).scanner = s.scanner := rfl
@[simp] theorem State.setCal_knobs (o : OscId) (x : CalRecord) (s : State) : (s.setCal o x).knobs = s.knobs := rfl
@[simp] theorem State.setCal_switchActions (o : OscId) (x : CalRecord) (s : State) : (s.setCal o x).switchActions = s.switchActions := rfl
@[simp] theorem State.setCal_measurement (o : OscId) (x : CalRecord) (s : State) : (s.setCal o x).measurement = s.measurement := rfl
@[simp] theorem State.setCal_periodCounter (o : OscId) (x : CalRecord) (s : State) : (s.setCal o x).periodCounter = s.periodCounter := rfl
@[simp] theorem State.setCal_fsel (o : OscId) (x : CalRecord) (s : State) : (s.setCal o x).fsel = s.fsel := rfl
@[simp] theorem State.setCal_run (o : OscId) (x : CalRecord) (s : State) : (s.setCal o x).run = s.run := rfl
@[simp] theorem State.setCal_candidate (o : OscId) (x : CalRecord) (s : State) : (s.setCal o x).candidate = s.candidate := rfl
@[simp] theorem State.setCal_retune (o : OscId) (x : CalRecord) (s : State) : (s.setCal o x).retune = s.retune := rfl
@[simp] theorem State.setCal_glides (o : OscId) (x : CalRecord) (s : State) : (s.setCal o x).glides = s.glides := rfl
@[simp] theorem State.setCal_output (o : OscId) (x : CalRecord) (s : State) : (s.setCal o x).output = s.output := rfl
@[simp] theorem State.setCal_linkA (o : OscId) (x : CalRecord) (s : State) : (s.setCal o x).linkA = s.linkA := rfl
@[simp] theorem State.setCal_linkB (o : OscId) (x : CalRecord) (s : State) : (s.setCal o x).linkB = s.linkB := rfl
@[simp] theorem State.setCal_lineUnit (o : OscId) (x : CalRecord) (s : State) : (s.setCal o x).lineUnit = s.lineUnit := rfl
@[simp] theorem State.setCal_timestamp (o : OscId) (x : CalRecord) (s : State) : (s.setCal o x).timestamp = s.timestamp := rfl
@[simp] theorem State.setCal_rstb (o : OscId) (x : CalRecord) (s : State) : (s.setCal o x).rstb = s.rstb := rfl
@[simp] theorem State.setCal_resetRun (o : OscId) (x : CalRecord) (s : State) : (s.setCal o x).resetRun = s.resetRun := rfl
@[simp] theorem State.setCal_voice (o : OscId) (x : CalRecord) (w : VoiceId) (s : State) :
    (s.setCal o x).voice w = s.voice w := rfl
@[simp] theorem State.setCal_perfOf (o : OscId) (x : CalRecord) (q : PartId) (s : State) :
    (s.setCal o x).perfOf q = s.perfOf q := rfl
@[simp] theorem State.setCal_param (o : OscId) (x : CalRecord) (q : PartId) (j : ParamId) (s : State) :
    (s.setCal o x).param q j = s.param q j := rfl
@[simp] theorem State.setCal_global (o : OscId) (x : CalRecord) (h : GlobalId) (s : State) :
    (s.setCal o x).global h = s.global h := rfl
@[simp] theorem State.setCal_slotOf (o : OscId) (x : CalRecord) (q : PartId) (s : State) :
    (s.setCal o x).slotOf q = s.slotOf q := rfl
@[simp] theorem State.setCal_glide (o : OscId) (x : CalRecord) (w : VoiceId) (s : State) :
    (s.setCal o x).glide w = s.glide w := rfl
@[simp] theorem State.setCal_control (o : OscId) (x : CalRecord) (c : ControlId) (s : State) :
    (s.setCal o x).control c = s.control c := rfl
@[simp] theorem State.setCal_knob (o : OscId) (x : CalRecord) (c : ControlId) (s : State) :
    (s.setCal o x).knob c = s.knob c := rfl
@[simp] theorem State.setCal_link (o : OscId) (x : CalRecord) (m : Link) (s : State) :
    (s.setCal o x).link m = s.link m := rfl
@[simp] theorem State.setCal_inReset (o : OscId) (x : CalRecord) (s : State) :
    (s.setCal o x).inReset = s.inReset := rfl

/-! #### setLink -/

@[simp] theorem State.setLink_pending (l : Link) (x : LinkUnit) (s : State) : (s.setLink l x).pending = s.pending := by cases l <;> rfl
@[simp] theorem State.setLink_freeIndex (l : Link) (x : LinkUnit) (s : State) : (s.setLink l x).freeIndex = s.freeIndex := by cases l <;> rfl
@[simp] theorem State.setLink_voices (l : Link) (x : LinkUnit) (s : State) : (s.setLink l x).voices = s.voices := by cases l <;> rfl
@[simp] theorem State.setLink_serial (l : Link) (x : LinkUnit) (s : State) : (s.setLink l x).serial = s.serial := by cases l <;> rfl
@[simp] theorem State.setLink_deferred (l : Link) (x : LinkUnit) (s : State) : (s.setLink l x).deferred = s.deferred := by cases l <;> rfl
@[simp] theorem State.setLink_perf (l : Link) (x : LinkUnit) (s : State) : (s.setLink l x).perf = s.perf := by cases l <;> rfl
@[simp] theorem State.setLink_params (l : Link) (x : LinkUnit) (s : State) : (s.setLink l x).params = s.params := by cases l <;> rfl
@[simp] theorem State.setLink_globals (l : Link) (x : LinkUnit) (s : State) : (s.setLink l x).globals = s.globals := by cases l <;> rfl
@[simp] theorem State.setLink_slots (l : Link) (x : LinkUnit) (s : State) : (s.setLink l x).slots = s.slots := by cases l <;> rfl
@[simp] theorem State.setLink_template (l : Link) (x : LinkUnit) (s : State) : (s.setLink l x).template = s.template := by cases l <;> rfl
@[simp] theorem State.setLink_controls (l : Link) (x : LinkUnit) (s : State) : (s.setLink l x).controls = s.controls := by cases l <;> rfl
@[simp] theorem State.setLink_switches (l : Link) (x : LinkUnit) (s : State) : (s.setLink l x).switches = s.switches := by cases l <;> rfl
@[simp] theorem State.setLink_scanner (l : Link) (x : LinkUnit) (s : State) : (s.setLink l x).scanner = s.scanner := by cases l <;> rfl
@[simp] theorem State.setLink_knobs (l : Link) (x : LinkUnit) (s : State) : (s.setLink l x).knobs = s.knobs := by cases l <;> rfl
@[simp] theorem State.setLink_switchActions (l : Link) (x : LinkUnit) (s : State) : (s.setLink l x).switchActions = s.switchActions := by cases l <;> rfl
@[simp] theorem State.setLink_measurement (l : Link) (x : LinkUnit) (s : State) : (s.setLink l x).measurement = s.measurement := by cases l <;> rfl
@[simp] theorem State.setLink_periodCounter (l : Link) (x : LinkUnit) (s : State) : (s.setLink l x).periodCounter = s.periodCounter := by cases l <;> rfl
@[simp] theorem State.setLink_fsel (l : Link) (x : LinkUnit) (s : State) : (s.setLink l x).fsel = s.fsel := by cases l <;> rfl
@[simp] theorem State.setLink_run (l : Link) (x : LinkUnit) (s : State) : (s.setLink l x).run = s.run := by cases l <;> rfl
@[simp] theorem State.setLink_candidate (l : Link) (x : LinkUnit) (s : State) : (s.setLink l x).candidate = s.candidate := by cases l <;> rfl
@[simp] theorem State.setLink_calibration (l : Link) (x : LinkUnit) (s : State) : (s.setLink l x).calibration = s.calibration := by cases l <;> rfl
@[simp] theorem State.setLink_retune (l : Link) (x : LinkUnit) (s : State) : (s.setLink l x).retune = s.retune := by cases l <;> rfl
@[simp] theorem State.setLink_glides (l : Link) (x : LinkUnit) (s : State) : (s.setLink l x).glides = s.glides := by cases l <;> rfl
@[simp] theorem State.setLink_output (l : Link) (x : LinkUnit) (s : State) : (s.setLink l x).output = s.output := by cases l <;> rfl
@[simp] theorem State.setLink_lineUnit (l : Link) (x : LinkUnit) (s : State) : (s.setLink l x).lineUnit = s.lineUnit := by cases l <;> rfl
@[simp] theorem State.setLink_timestamp (l : Link) (x : LinkUnit) (s : State) : (s.setLink l x).timestamp = s.timestamp := by cases l <;> rfl
@[simp] theorem State.setLink_rstb (l : Link) (x : LinkUnit) (s : State) : (s.setLink l x).rstb = s.rstb := by cases l <;> rfl
@[simp] theorem State.setLink_resetRun (l : Link) (x : LinkUnit) (s : State) : (s.setLink l x).resetRun = s.resetRun := by cases l <;> rfl
@[simp] theorem State.setLink_voice (l : Link) (x : LinkUnit) (w : VoiceId) (s : State) :
    (s.setLink l x).voice w = s.voice w := by cases l <;> rfl
@[simp] theorem State.setLink_perfOf (l : Link) (x : LinkUnit) (q : PartId) (s : State) :
    (s.setLink l x).perfOf q = s.perfOf q := by cases l <;> rfl
@[simp] theorem State.setLink_param (l : Link) (x : LinkUnit) (q : PartId) (j : ParamId) (s : State) :
    (s.setLink l x).param q j = s.param q j := by cases l <;> rfl
@[simp] theorem State.setLink_global (l : Link) (x : LinkUnit) (h : GlobalId) (s : State) :
    (s.setLink l x).global h = s.global h := by cases l <;> rfl
@[simp] theorem State.setLink_slotOf (l : Link) (x : LinkUnit) (q : PartId) (s : State) :
    (s.setLink l x).slotOf q = s.slotOf q := by cases l <;> rfl
@[simp] theorem State.setLink_glide (l : Link) (x : LinkUnit) (w : VoiceId) (s : State) :
    (s.setLink l x).glide w = s.glide w := by cases l <;> rfl
@[simp] theorem State.setLink_control (l : Link) (x : LinkUnit) (c : ControlId) (s : State) :
    (s.setLink l x).control c = s.control c := by cases l <;> rfl
@[simp] theorem State.setLink_knob (l : Link) (x : LinkUnit) (c : ControlId) (s : State) :
    (s.setLink l x).knob c = s.knob c := by cases l <;> rfl
@[simp] theorem State.setLink_cal (l : Link) (x : LinkUnit) (c : OscId) (s : State) :
    (s.setLink l x).cal c = s.cal c := by cases l <;> rfl
@[simp] theorem State.setLink_inReset (l : Link) (x : LinkUnit) (s : State) :
    (s.setLink l x).inReset = s.inReset := by cases l <;> rfl

/-! #### An accessor after its own setter -/

@[simp] theorem State.voice_setVoice_self (v : VoiceId) (x : Voice) (s : State) : (s.setVoice v x).voice v = x := by
  simp [State.voice, State.setVoice]

theorem State.voice_setVoice_ne {v w : VoiceId} (h : w ≠ v) (x : Voice) (s : State) :
    (s.setVoice v x).voice w = s.voice w := by
  have : v.val ≠ w.val := fun e => h (Fin.ext e.symm)
  simp [State.voice, State.setVoice, this]

theorem State.voice_setVoice (v w : VoiceId) (x : Voice) (s : State) :
    (s.setVoice v x).voice w = if w = v then x else s.voice w := by
  split
  · next h => subst h; simp
  · next h => exact State.voice_setVoice_ne h x s

theorem State.voice_setPhase (v w : VoiceId) (x : VoicePhase) (s : State) :
    (s.setPhase v x).voice w = if w = v then { s.voice v with phase := x } else s.voice w := by
  unfold State.setPhase; exact State.voice_setVoice v w _ s

@[simp] theorem State.voice_setPhase_self (v : VoiceId) (x : VoicePhase) (s : State) :
    (s.setPhase v x).voice v = { s.voice v with phase := x } := by simp [State.voice_setPhase]

theorem State.voice_setClaim (v w : VoiceId) (x : Bool) (s : State) :
    (s.setClaim v x).voice w = if w = v then { s.voice v with claim := x } else s.voice w := by
  unfold State.setClaim; exact State.voice_setVoice v w _ s

@[simp] theorem State.perfOf_setPerf_self (p : PartId) (x : Perf) (s : State) : (s.setPerf p x).perfOf p = x := by
  simp [State.perfOf, State.setPerf]

theorem State.perfOf_setPerf_ne {p q : PartId} (h : q ≠ p) (x : Perf) (s : State) :
    (s.setPerf p x).perfOf q = s.perfOf q := by
  have : p.val ≠ q.val := fun e => h (Fin.ext e.symm)
  simp [State.perfOf, State.setPerf, this]

theorem State.perfOf_setPerf (p q : PartId) (x : Perf) (s : State) :
    (s.setPerf p x).perfOf q = if q = p then x else s.perfOf q := by
  split
  · next h => subst h; simp
  · next h => exact State.perfOf_setPerf_ne h x s

@[simp] theorem State.param_setParam_self (p : PartId) (i : ParamId) (x : Nat) (s : State) :
    (s.setParam p i x).param p i = x := by
  simp [State.param, State.setParam]

theorem State.param_setParam_ne {p q : PartId} {i j : ParamId} (h : ¬(q = p ∧ j = i)) (x : Nat) (s : State) :
    (s.setParam p i x).param q j = s.param q j := by
  by_cases hq : q = p
  · subst hq
    have hj : i.val ≠ j.val := fun e => h ⟨rfl, Fin.ext e.symm⟩
    simp [State.param, State.setParam, hj]
  · have hp : p.val ≠ q.val := fun e => hq (Fin.ext e.symm)
    simp [State.param, State.setParam, hp]

theorem State.param_setParam (p q : PartId) (i j : ParamId) (x : Nat) (s : State) :
    (s.setParam p i x).param q j = if q = p ∧ j = i then x else s.param q j := by
  split
  · next h => obtain ⟨rfl, rfl⟩ := h; simp
  · next h => exact State.param_setParam_ne h x s

@[simp] theorem State.global_setGlobal_self (g : GlobalId) (x : Nat) (s : State) : (s.setGlobal g x).global g = x := by
  simp [State.global, State.setGlobal]

theorem State.global_setGlobal_ne {g h : GlobalId} (e : h ≠ g) (x : Nat) (s : State) :
    (s.setGlobal g x).global h = s.global h := by
  have : g.val ≠ h.val := fun w => e (Fin.ext w.symm)
  simp [State.global, State.setGlobal, this]

@[simp] theorem State.slotOf_setSlot_self (p : PartId) (x : Option Morph) (s : State) :
    (s.setSlot p x).slotOf p = x := by
  simp [State.slotOf, State.setSlot]

theorem State.slotOf_setSlot_ne {p q : PartId} (h : q ≠ p) (x : Option Morph) (s : State) :
    (s.setSlot p x).slotOf q = s.slotOf q := by
  have : p.val ≠ q.val := fun e => h (Fin.ext e.symm)
  simp [State.slotOf, State.setSlot, this]

@[simp] theorem State.glide_setGlide_self (v : VoiceId) (x : Glide) (s : State) : (s.setGlide v x).glide v = x := by
  simp [State.glide, State.setGlide]

theorem State.glide_setGlide_ne {v w : VoiceId} (h : w ≠ v) (x : Glide) (s : State) :
    (s.setGlide v x).glide w = s.glide w := by
  have : v.val ≠ w.val := fun e => h (Fin.ext e.symm)
  simp [State.glide, State.setGlide, this]

@[simp] theorem State.control_setControl_self (k : ControlId) (x : Control) (s : State) :
    (s.setControl k x).control k = x := by
  simp [State.control, State.setControl]

theorem State.control_setControl_ne {k c : ControlId} (h : c ≠ k) (x : Control) (s : State) :
    (s.setControl k x).control c = s.control c := by
  have : k.val ≠ c.val := fun e => h (Fin.ext e.symm)
  simp [State.control, State.setControl, this]

@[simp] theorem State.knob_setKnob_self (k : ControlId) (x : Option KnobBinding) (s : State) :
    (s.setKnob k x).knob k = x := by
  simp [State.knob, State.setKnob]

theorem State.knob_setKnob_ne {k c : ControlId} (h : c ≠ k) (x : Option KnobBinding) (s : State) :
    (s.setKnob k x).knob c = s.knob c := by
  have : k.val ≠ c.val := fun e => h (Fin.ext e.symm)
  simp [State.knob, State.setKnob, this]

@[simp] theorem State.cal_setCal_self (o : OscId) (x : CalRecord) (s : State) : (s.setCal o x).cal o = x := by
  simp [State.cal, State.setCal]

theorem State.cal_setCal_ne {o c : OscId} (h : c ≠ o) (x : CalRecord) (s : State) :
    (s.setCal o x).cal c = s.cal c := by
  have : o.val ≠ c.val := fun e => h (Fin.ext e.symm)
  simp [State.cal, State.setCal, this]

@[simp] theorem State.link_setLink_self (l : Link) (x : LinkUnit) (s : State) : (s.setLink l x).link l = x := by
  cases l <;> rfl

theorem State.link_setLink_ne {l m : Link} (h : m ≠ l) (x : LinkUnit) (s : State) :
    (s.setLink l x).link m = s.link m := by
  cases l <;> cases m <;> first | rfl | exact absurd rfl h

theorem State.link_setLink (l m : Link) (x : LinkUnit) (s : State) :
    (s.setLink l x).link m = if m = l then x else s.link m := by
  cases l <;> cases m <;> rfl

/-- Two states with the same fields but the links, and the same links, are the same state. -/
theorem State.setLink_link (l : Link) (s : State) : s.setLink l (s.link l) = s := by cases l <;> rfl

end Sys2Proof.Machine
end

