-- ==== Sys2Proof/Laws/Links.lean ====
section
/-! SUPPORT. What the shared operations over links and notices can do, said once: posting (R190), shifting out, taking
a frame (R176 to R179, R196), FETCH (R178), REPLY_READY (R176). -/

namespace Sys2Proof.Machine

/-! ### Notice queues (R190) -/

theorem NoticeQueue.post_of_room {q : NoticeQueue} (h : q.fill < 32) (n : Notice) :
    q.post n = { q with stored := q.stored ++ [n] } := by simp [NoticeQueue.post, h]

theorem NoticeQueue.post_of_full {q : NoticeQueue} (h : ¬q.fill < 32) (n : Notice) :
    q.post n = { q with lost := incSat8 q.lost } := by simp [NoticeQueue.post, h]

/-- The capacity law of R190 is kept by a post. -/
theorem NoticeQueue.fill_post_le {q : NoticeQueue} (h : q.fill ≤ 32) (n : Notice) : (q.post n).fill ≤ 32 := by
  unfold NoticeQueue.post
  split
  · simp [NoticeQueue.fill] at *; omega
  · exact h

theorem NoticeQueue.lost_post_le {q : NoticeQueue} (h : q.lost ≤ 255) (n : Notice) : (q.post n).lost ≤ 255 := by
  unfold NoticeQueue.post
  split
  · exact h
  · simp [incSat8]

@[simp] theorem NoticeQueue.post_get (q : NoticeQueue) (n : Notice) : (q.post n).get = q.get := by
  unfold NoticeQueue.post; split <;> rfl

@[simp] theorem NoticeQueue.post_mask (q : NoticeQueue) (n : Notice) : (q.post n).mask = q.mask := by
  unfold NoticeQueue.post; split <;> rfl

@[simp] theorem NoticeQueue.post_watermark (q : NoticeQueue) (n : Notice) : (q.post n).watermark = q.watermark := by
  unfold NoticeQueue.post; split <;> rfl

/-! ### Posting: only the queues of the links change -/

@[simp] theorem State.postTo_pending (l : Link) (n : Notice) (s : State) : (s.postTo l n).pending = s.pending := by
  cases l <;> rfl
@[simp] theorem State.postTo_freeIndex (l : Link) (n : Notice) (s : State) : (s.postTo l n).freeIndex = s.freeIndex := by
  cases l <;> rfl
@[simp] theorem State.postTo_voices (l : Link) (n : Notice) (s : State) : (s.postTo l n).voices = s.voices := by
  cases l <;> rfl
@[simp] theorem State.postTo_serial (l : Link) (n : Notice) (s : State) : (s.postTo l n).serial = s.serial := by
  cases l <;> rfl
@[simp] theorem State.postTo_deferred (l : Link) (n : Notice) (s : State) : (s.postTo l n).deferred = s.deferred := by
  cases l <;> rfl
@[simp] theorem State.postTo_perf (l : Link) (n : Notice) (s : State) : (s.postTo l n).perf = s.perf := by
  cases l <;> rfl
@[simp] theorem State.postTo_params (l : Link) (n : Notice) (s : State) : (s.postTo l n).params = s.params := by
  cases l <;> rfl
@[simp] theorem State.postTo_globals (l : Link) (n : Notice) (s : State) : (s.postTo l n).globals = s.globals := by
  cases l <;> rfl
@[simp] theorem State.postTo_slots (l : Link) (n : Notice) (s : State) : (s.postTo l n).slots = s.slots := by
  cases l <;> rfl
@[simp] theorem State.postTo_template (l : Link) (n : Notice) (s : State) : (s.postTo l n).template = s.template := by
  cases l <;> rfl
@[simp] theorem State.postTo_controls (l : Link) (n : Notice) (s : State) : (s.postTo l n).controls = s.controls := by
  cases l <;> rfl
@[simp] theorem State.postTo_switches (l : Link) (n : Notice) (s : State) : (s.postTo l n).switches = s.switches := by
  cases l <;> rfl
@[simp] theorem State.postTo_scanner (l : Link) (n : Notice) (s : State) : (s.postTo l n).scanner = s.scanner := by
  cases l <;> rfl
@[simp] theorem State.postTo_knobs (l : Link) (n : Notice) (s : State) : (s.postTo l n).knobs = s.knobs := by
  cases l <;> rfl
@[simp] theorem State.postTo_switchActions (l : Link) (n : Notice) (s : State) : (s.postTo l n).switchActions = s.switchActions := by
  cases l <;> rfl
@[simp] theorem State.postTo_measurement (l : Link) (n : Notice) (s : State) : (s.postTo l n).measurement = s.measurement := by
  cases l <;> rfl
@[simp] theorem State.postTo_periodCounter (l : Link) (n : Notice) (s : State) : (s.postTo l n).periodCounter = s.periodCounter := by
  cases l <;> rfl
@[simp] theorem State.postTo_fsel (l : Link) (n : Notice) (s : State) : (s.postTo l n).fsel = s.fsel := by
  cases l <;> rfl
@[simp] theorem State.postTo_run (l : Link) (n : Notice) (s : State) : (s.postTo l n).run = s.run := by
  cases l <;> rfl
@[simp] theorem State.postTo_candidate (l : Link) (n : Notice) (s : State) : (s.postTo l n).candidate = s.candidate := by
  cases l <;> rfl
@[simp] theorem State.postTo_calibration (l : Link) (n : Notice) (s : State) : (s.postTo l n).calibration = s.calibration := by
  cases l <;> rfl
@[simp] theorem State.postTo_retune (l : Link) (n : Notice) (s : State) : (s.postTo l n).retune = s.retune := by
  cases l <;> rfl
@[simp] theorem State.postTo_glides (l : Link) (n : Notice) (s : State) : (s.postTo l n).glides = s.glides := by
  cases l <;> rfl
@[simp] theorem State.postTo_output (l : Link) (n : Notice) (s : State) : (s.postTo l n).output = s.output := by
  cases l <;> rfl
@[simp] theorem State.postTo_lineUnit (l : Link) (n : Notice) (s : State) : (s.postTo l n).lineUnit = s.lineUnit := by
  cases l <;> rfl
@[simp] theorem State.postTo_timestamp (l : Link) (n : Notice) (s : State) : (s.postTo l n).timestamp = s.timestamp := by
  cases l <;> rfl
@[simp] theorem State.postTo_rstb (l : Link) (n : Notice) (s : State) : (s.postTo l n).rstb = s.rstb := by
  cases l <;> rfl
@[simp] theorem State.postTo_resetRun (l : Link) (n : Notice) (s : State) : (s.postTo l n).resetRun = s.resetRun := by
  cases l <;> rfl
@[simp] theorem State.postTo_voice (l : Link) (n : Notice) (w : VoiceId) (s : State) :
    (s.postTo l n).voice w = s.voice w := by
  cases l <;> rfl
@[simp] theorem State.postTo_perfOf (l : Link) (n : Notice) (q : PartId) (s : State) :
    (s.postTo l n).perfOf q = s.perfOf q := by
  cases l <;> rfl
@[simp] theorem State.postTo_param (l : Link) (n : Notice) (q : PartId) (j : ParamId) (s : State) :
    (s.postTo l n).param q j = s.param q j := by
  cases l <;> rfl
@[simp] theorem State.postTo_global (l : Link) (n : Notice) (h : GlobalId) (s : State) :
    (s.postTo l n).global h = s.global h := by
  cases l <;> rfl
@[simp] theorem State.postTo_slotOf (l : Link) (n : Notice) (q : PartId) (s : State) :
    (s.postTo l n).slotOf q = s.slotOf q := by
  cases l <;> rfl
@[simp] theorem State.postTo_glide (l : Link) (n : Notice) (w : VoiceId) (s : State) :
    (s.postTo l n).glide w = s.glide w := by
  cases l <;> rfl
@[simp] theorem State.postTo_control (l : Link) (n : Notice) (i : ControlId) (s : State) :
    (s.postTo l n).control i = s.control i := by
  cases l <;> rfl
@[simp] theorem State.postTo_knob (l : Link) (n : Notice) (i : ControlId) (s : State) :
    (s.postTo l n).knob i = s.knob i := by
  cases l <;> rfl
@[simp] theorem State.postTo_cal (l : Link) (n : Notice) (o : OscId) (s : State) :
    (s.postTo l n).cal o = s.cal o := by
  cases l <;> rfl
@[simp] theorem State.postTo_inReset (l : Link) (n : Notice) (s : State) :
    (s.postTo l n).inReset = s.inReset := by
  cases l <;> rfl

theorem State.link_postTo (l m : Link) (n : Notice) (s : State) :
    (s.postTo l n).link m = if m = l then { s.link l with queue := (s.link l).queue.post n } else s.link m := by
  cases l <;> cases m <;> rfl

@[simp] theorem State.postWhere_pending (d : Link → Bool) (k : NoticeKind) (a b c : Nat) (s : State) : (s.postWhere d k a b c).pending = s.pending := by
  unfold State.postWhere; cases d .a <;> cases d .b <;> rfl
@[simp] theorem State.postWhere_freeIndex (d : Link → Bool) (k : NoticeKind) (a b c : Nat) (s : State) : (s.postWhere d k a b c).freeIndex = s.freeIndex := by
  unfold State.postWhere; cases d .a <;> cases d .b <;> rfl
@[simp] theorem State.postWhere_voices (d : Link → Bool) (k : NoticeKind) (a b c : Nat) (s : State) : (s.postWhere d k a b c).voices = s.voices := by
  unfold State.postWhere; cases d .a <;> cases d .b <;> rfl
@[simp] theorem State.postWhere_serial (d : Link → Bool) (k : NoticeKind) (a b c : Nat) (s : State) : (s.postWhere d k a b c).serial = s.serial := by
  unfold State.postWhere; cases d .a <;> cases d .b <;> rfl
@[simp] theorem State.postWhere_deferred (d : Link → Bool) (k : NoticeKind) (a b c : Nat) (s : State) : (s.postWhere d k a b c).deferred = s.deferred := by
  unfold State.postWhere; cases d .a <;> cases d .b <;> rfl
@[simp] theorem State.postWhere_perf (d : Link → Bool) (k : NoticeKind) (a b c : Nat) (s : State) : (s.postWhere d k a b c).perf = s.perf := by
  unfold State.postWhere; cases d .a <;> cases d .b <;> rfl
@[simp] theorem State.postWhere_params (d : Link → Bool) (k : NoticeKind) (a b c : Nat) (s : State) : (s.postWhere d k a b c).params = s.params := by
  unfold State.postWhere; cases d .a <;> cases d .b <;> rfl
@[simp] theorem State.postWhere_globals (d : Link → Bool) (k : NoticeKind) (a b c : Nat) (s : State) : (s.postWhere d k a b c).globals = s.globals := by
  unfold State.postWhere; cases d .a <;> cases d .b <;> rfl
@[simp] theorem State.postWhere_slots (d : Link → Bool) (k : NoticeKind) (a b c : Nat) (s : State) : (s.postWhere d k a b c).slots = s.slots := by
  unfold State.postWhere; cases d .a <;> cases d .b <;> rfl
@[simp] theorem State.postWhere_template (d : Link → Bool) (k : NoticeKind) (a b c : Nat) (s : State) : (s.postWhere d k a b c).template = s.template := by
  unfold State.postWhere; cases d .a <;> cases d .b <;> rfl
@[simp] theorem State.postWhere_controls (d : Link → Bool) (k : NoticeKind) (a b c : Nat) (s : State) : (s.postWhere d k a b c).controls = s.controls := by
  unfold State.postWhere; cases d .a <;> cases d .b <;> rfl
@[simp] theorem State.postWhere_switches (d : Link → Bool) (k : NoticeKind) (a b c : Nat) (s : State) : (s.postWhere d k a b c).switches = s.switches := by
  unfold State.postWhere; cases d .a <;> cases d .b <;> rfl
@[simp] theorem State.postWhere_scanner (d : Link → Bool) (k : NoticeKind) (a b c : Nat) (s : State) : (s.postWhere d k a b c).scanner = s.scanner := by
  unfold State.postWhere; cases d .a <;> cases d .b <;> rfl
@[simp] theorem State.postWhere_knobs (d : Link → Bool) (k : NoticeKind) (a b c : Nat) (s : State) : (s.postWhere d k a b c).knobs = s.knobs := by
  unfold State.postWhere; cases d .a <;> cases d .b <;> rfl
@[simp] theorem State.postWhere_switchActions (d : Link → Bool) (k : NoticeKind) (a b c : Nat) (s : State) : (s.postWhere d k a b c).switchActions = s.switchActions := by
  unfold State.postWhere; cases d .a <;> cases d .b <;> rfl
@[simp] theorem State.postWhere_measurement (d : Link → Bool) (k : NoticeKind) (a b c : Nat) (s : State) : (s.postWhere d k a b c).measurement = s.measurement := by
  unfold State.postWhere; cases d .a <;> cases d .b <;> rfl
@[simp] theorem State.postWhere_periodCounter (d : Link → Bool) (k : NoticeKind) (a b c : Nat) (s : State) : (s.postWhere d k a b c).periodCounter = s.periodCounter := by
  unfold State.postWhere; cases d .a <;> cases d .b <;> rfl
@[simp] theorem State.postWhere_fsel (d : Link → Bool) (k : NoticeKind) (a b c : Nat) (s : State) : (s.postWhere d k a b c).fsel = s.fsel := by
  unfold State.postWhere; cases d .a <;> cases d .b <;> rfl
@[simp] theorem State.postWhere_run (d : Link → Bool) (k : NoticeKind) (a b c : Nat) (s : State) : (s.postWhere d k a b c).run = s.run := by
  unfold State.postWhere; cases d .a <;> cases d .b <;> rfl
@[simp] theorem State.postWhere_candidate (d : Link → Bool) (k : NoticeKind) (a b c : Nat) (s : State) : (s.postWhere d k a b c).candidate = s.candidate := by
  unfold State.postWhere; cases d .a <;> cases d .b <;> rfl
@[simp] theorem State.postWhere_calibration (d : Link → Bool) (k : NoticeKind) (a b c : Nat) (s : State) : (s.postWhere d k a b c).calibration = s.calibration := by
  unfold State.postWhere; cases d .a <;> cases d .b <;> rfl
@[simp] theorem State.postWhere_retune (d : Link → Bool) (k : NoticeKind) (a b c : Nat) (s : State) : (s.postWhere d k a b c).retune = s.retune := by
  unfold State.postWhere; cases d .a <;> cases d .b <;> rfl
@[simp] theorem State.postWhere_glides (d : Link → Bool) (k : NoticeKind) (a b c : Nat) (s : State) : (s.postWhere d k a b c).glides = s.glides := by
  unfold State.postWhere; cases d .a <;> cases d .b <;> rfl
@[simp] theorem State.postWhere_output (d : Link → Bool) (k : NoticeKind) (a b c : Nat) (s : State) : (s.postWhere d k a b c).output = s.output := by
  unfold State.postWhere; cases d .a <;> cases d .b <;> rfl
@[simp] theorem State.postWhere_lineUnit (d : Link → Bool) (k : NoticeKind) (a b c : Nat) (s : State) : (s.postWhere d k a b c).lineUnit = s.lineUnit := by
  unfold State.postWhere; cases d .a <;> cases d .b <;> rfl
@[simp] theorem State.postWhere_timestamp (d : Link → Bool) (k : NoticeKind) (a b c : Nat) (s : State) : (s.postWhere d k a b c).timestamp = s.timestamp := by
  unfold State.postWhere; cases d .a <;> cases d .b <;> rfl
@[simp] theorem State.postWhere_rstb (d : Link → Bool) (k : NoticeKind) (a b c : Nat) (s : State) : (s.postWhere d k a b c).rstb = s.rstb := by
  unfold State.postWhere; cases d .a <;> cases d .b <;> rfl
@[simp] theorem State.postWhere_resetRun (d : Link → Bool) (k : NoticeKind) (a b c : Nat) (s : State) : (s.postWhere d k a b c).resetRun = s.resetRun := by
  unfold State.postWhere; cases d .a <;> cases d .b <;> rfl
@[simp] theorem State.postWhere_voice (d : Link → Bool) (k : NoticeKind) (a b c : Nat) (w : VoiceId) (s : State) :
    (s.postWhere d k a b c).voice w = s.voice w := by
  unfold State.postWhere; cases d .a <;> cases d .b <;> rfl
@[simp] theorem State.postWhere_perfOf (d : Link → Bool) (k : NoticeKind) (a b c : Nat) (q : PartId) (s : State) :
    (s.postWhere d k a b c).perfOf q = s.perfOf q := by
  unfold State.postWhere; cases d .a <;> cases d .b <;> rfl
@[simp] theorem State.postWhere_param (d : Link → Bool) (k : NoticeKind) (a b c : Nat) (q : PartId) (j : ParamId) (s : State) :
    (s.postWhere d k a b c).param q j = s.param q j := by
  unfold State.postWhere; cases d .a <;> cases d .b <;> rfl
@[simp] theorem State.postWhere_global (d : Link → Bool) (k : NoticeKind) (a b c : Nat) (h : GlobalId) (s : State) :
    (s.postWhere d k a b c).global h = s.global h := by
  unfold State.postWhere; cases d .a <;> cases d .b <;> rfl
@[simp] theorem State.postWhere_slotOf (d : Link → Bool) (k : NoticeKind) (a b c : Nat) (q : PartId) (s : State) :
    (s.postWhere d k a b c).slotOf q = s.slotOf q := by
  unfold State.postWhere; cases d .a <;> cases d .b <;> rfl
@[simp] theorem State.postWhere_glide (d : Link → Bool) (k : NoticeKind) (a b c : Nat) (w : VoiceId) (s : State) :
    (s.postWhere d k a b c).glide w = s.glide w := by
  unfold State.postWhere; cases d .a <;> cases d .b <;> rfl
@[simp] theorem State.postWhere_control (d : Link → Bool) (k : NoticeKind) (a b c : Nat) (i : ControlId) (s : State) :
    (s.postWhere d k a b c).control i = s.control i := by
  unfold State.postWhere; cases d .a <;> cases d .b <;> rfl
@[simp] theorem State.postWhere_knob (d : Link → Bool) (k : NoticeKind) (a b c : Nat) (i : ControlId) (s : State) :
    (s.postWhere d k a b c).knob i = s.knob i := by
  unfold State.postWhere; cases d .a <;> cases d .b <;> rfl
@[simp] theorem State.postWhere_cal (d : Link → Bool) (k : NoticeKind) (a b c : Nat) (o : OscId) (s : State) :
    (s.postWhere d k a b c).cal o = s.cal o := by
  unfold State.postWhere; cases d .a <;> cases d .b <;> rfl
@[simp] theorem State.postWhere_inReset (d : Link → Bool) (k : NoticeKind) (a b c : Nat) (s : State) :
    (s.postWhere d k a b c).inReset = s.inReset := by
  unfold State.postWhere; cases d .a <;> cases d .b <;> rfl

/-- A post reaches exactly the queues that `d` names, with the timestamp of the moment (R190). -/
theorem State.link_postWhere (d : Link → Bool) (k : NoticeKind) (a b c : Nat) (m : Link) (s : State) :
    (s.postWhere d k a b c).link m =
      if d m then { s.link m with queue := (s.link m).queue.post { kind := k, subject := a, value1 := b, value2 := c, stamp := s.timestamp } }
      else s.link m := by
  unfold State.postWhere
  cases ha : d .a <;> cases hb : d .b <;> cases m <;> simp_all [State.postTo, State.setLink, State.link]

@[simp] theorem State.post_pending (k : NoticeKind) (a b c : Nat) (s : State) : (s.post k a b c).pending = s.pending := by
  unfold State.post; exact State.postWhere_pending _ _ _ _ _ s
@[simp] theorem State.post_freeIndex (k : NoticeKind) (a b c : Nat) (s : State) : (s.post k a b c).freeIndex = s.freeIndex := by
  unfold State.post; exact State.postWhere_freeIndex _ _ _ _ _ s
@[simp] theorem State.post_voices (k : NoticeKind) (a b c : Nat) (s : State) : (s.post k a b c).voices = s.voices := by
  unfold State.post; exact State.postWhere_voices _ _ _ _ _ s
@[simp] theorem State.post_serial (k : NoticeKind) (a b c : Nat) (s : State) : (s.post k a b c).serial = s.serial := by
  unfold State.post; exact State.postWhere_serial _ _ _ _ _ s
@[simp] theorem State.post_deferred (k : NoticeKind) (a b c : Nat) (s : State) : (s.post k a b c).deferred = s.deferred := by
  unfold State.post; exact State.postWhere_deferred _ _ _ _ _ s
@[simp] theorem State.post_perf (k : NoticeKind) (a b c : Nat) (s : State) : (s.post k a b c).perf = s.perf := by
  unfold State.post; exact State.postWhere_perf _ _ _ _ _ s
@[simp] theorem State.post_params (k : NoticeKind) (a b c : Nat) (s : State) : (s.post k a b c).params = s.params := by
  unfold State.post; exact State.postWhere_params _ _ _ _ _ s
@[simp] theorem State.post_globals (k : NoticeKind) (a b c : Nat) (s : State) : (s.post k a b c).globals = s.globals := by
  unfold State.post; exact State.postWhere_globals _ _ _ _ _ s
@[simp] theorem State.post_slots (k : NoticeKind) (a b c : Nat) (s : State) : (s.post k a b c).slots = s.slots := by
  unfold State.post; exact State.postWhere_slots _ _ _ _ _ s
@[simp] theorem State.post_template (k : NoticeKind) (a b c : Nat) (s : State) : (s.post k a b c).template = s.template := by
  unfold State.post; exact State.postWhere_template _ _ _ _ _ s
@[simp] theorem State.post_controls (k : NoticeKind) (a b c : Nat) (s : State) : (s.post k a b c).controls = s.controls := by
  unfold State.post; exact State.postWhere_controls _ _ _ _ _ s
@[simp] theorem State.post_switches (k : NoticeKind) (a b c : Nat) (s : State) : (s.post k a b c).switches = s.switches := by
  unfold State.post; exact State.postWhere_switches _ _ _ _ _ s
@[simp] theorem State.post_scanner (k : NoticeKind) (a b c : Nat) (s : State) : (s.post k a b c).scanner = s.scanner := by
  unfold State.post; exact State.postWhere_scanner _ _ _ _ _ s
@[simp] theorem State.post_knobs (k : NoticeKind) (a b c : Nat) (s : State) : (s.post k a b c).knobs = s.knobs := by
  unfold State.post; exact State.postWhere_knobs _ _ _ _ _ s
@[simp] theorem State.post_switchActions (k : NoticeKind) (a b c : Nat) (s : State) : (s.post k a b c).switchActions = s.switchActions := by
  unfold State.post; exact State.postWhere_switchActions _ _ _ _ _ s
@[simp] theorem State.post_measurement (k : NoticeKind) (a b c : Nat) (s : State) : (s.post k a b c).measurement = s.measurement := by
  unfold State.post; exact State.postWhere_measurement _ _ _ _ _ s
@[simp] theorem State.post_periodCounter (k : NoticeKind) (a b c : Nat) (s : State) : (s.post k a b c).periodCounter = s.periodCounter := by
  unfold State.post; exact State.postWhere_periodCounter _ _ _ _ _ s
@[simp] theorem State.post_fsel (k : NoticeKind) (a b c : Nat) (s : State) : (s.post k a b c).fsel = s.fsel := by
  unfold State.post; exact State.postWhere_fsel _ _ _ _ _ s
@[simp] theorem State.post_run (k : NoticeKind) (a b c : Nat) (s : State) : (s.post k a b c).run = s.run := by
  unfold State.post; exact State.postWhere_run _ _ _ _ _ s
@[simp] theorem State.post_candidate (k : NoticeKind) (a b c : Nat) (s : State) : (s.post k a b c).candidate = s.candidate := by
  unfold State.post; exact State.postWhere_candidate _ _ _ _ _ s
@[simp] theorem State.post_calibration (k : NoticeKind) (a b c : Nat) (s : State) : (s.post k a b c).calibration = s.calibration := by
  unfold State.post; exact State.postWhere_calibration _ _ _ _ _ s
@[simp] theorem State.post_retune (k : NoticeKind) (a b c : Nat) (s : State) : (s.post k a b c).retune = s.retune := by
  unfold State.post; exact State.postWhere_retune _ _ _ _ _ s
@[simp] theorem State.post_glides (k : NoticeKind) (a b c : Nat) (s : State) : (s.post k a b c).glides = s.glides := by
  unfold State.post; exact State.postWhere_glides _ _ _ _ _ s
@[simp] theorem State.post_output (k : NoticeKind) (a b c : Nat) (s : State) : (s.post k a b c).output = s.output := by
  unfold State.post; exact State.postWhere_output _ _ _ _ _ s
@[simp] theorem State.post_lineUnit (k : NoticeKind) (a b c : Nat) (s : State) : (s.post k a b c).lineUnit = s.lineUnit := by
  unfold State.post; exact State.postWhere_lineUnit _ _ _ _ _ s
@[simp] theorem State.post_timestamp (k : NoticeKind) (a b c : Nat) (s : State) : (s.post k a b c).timestamp = s.timestamp := by
  unfold State.post; exact State.postWhere_timestamp _ _ _ _ _ s
@[simp] theorem State.post_rstb (k : NoticeKind) (a b c : Nat) (s : State) : (s.post k a b c).rstb = s.rstb := by
  unfold State.post; exact State.postWhere_rstb _ _ _ _ _ s
@[simp] theorem State.post_resetRun (k : NoticeKind) (a b c : Nat) (s : State) : (s.post k a b c).resetRun = s.resetRun := by
  unfold State.post; exact State.postWhere_resetRun _ _ _ _ _ s
@[simp] theorem State.post_voice (k : NoticeKind) (a b c : Nat) (w : VoiceId) (s : State) :
    (s.post k a b c).voice w = s.voice w := by
  unfold State.post; exact State.postWhere_voice _ _ _ _ _ w s
@[simp] theorem State.post_perfOf (k : NoticeKind) (a b c : Nat) (q : PartId) (s : State) :
    (s.post k a b c).perfOf q = s.perfOf q := by
  unfold State.post; exact State.postWhere_perfOf _ _ _ _ _ q s
@[simp] theorem State.post_param (k : NoticeKind) (a b c : Nat) (q : PartId) (j : ParamId) (s : State) :
    (s.post k a b c).param q j = s.param q j := by
  unfold State.post; exact State.postWhere_param _ _ _ _ _ q j s
@[simp] theorem State.post_global (k : NoticeKind) (a b c : Nat) (h : GlobalId) (s : State) :
    (s.post k a b c).global h = s.global h := by
  unfold State.post; exact State.postWhere_global _ _ _ _ _ h s
@[simp] theorem State.post_slotOf (k : NoticeKind) (a b c : Nat) (q : PartId) (s : State) :
    (s.post k a b c).slotOf q = s.slotOf q := by
  unfold State.post; exact State.postWhere_slotOf _ _ _ _ _ q s
@[simp] theorem State.post_glide (k : NoticeKind) (a b c : Nat) (w : VoiceId) (s : State) :
    (s.post k a b c).glide w = s.glide w := by
  unfold State.post; exact State.postWhere_glide _ _ _ _ _ w s
@[simp] theorem State.post_control (k : NoticeKind) (a b c : Nat) (i : ControlId) (s : State) :
    (s.post k a b c).control i = s.control i := by
  unfold State.post; exact State.postWhere_control _ _ _ _ _ i s
@[simp] theorem State.post_knob (k : NoticeKind) (a b c : Nat) (i : ControlId) (s : State) :
    (s.post k a b c).knob i = s.knob i := by
  unfold State.post; exact State.postWhere_knob _ _ _ _ _ i s
@[simp] theorem State.post_cal (k : NoticeKind) (a b c : Nat) (o : OscId) (s : State) :
    (s.post k a b c).cal o = s.cal o := by
  unfold State.post; exact State.postWhere_cal _ _ _ _ _ o s
@[simp] theorem State.post_inReset (k : NoticeKind) (a b c : Nat) (s : State) :
    (s.post k a b c).inReset = s.inReset := by
  unfold State.post; exact State.postWhere_inReset _ _ _ _ _ s

@[simp] theorem State.postAlso_pending (d : Link → Bool) (k : NoticeKind) (a b c : Nat) (s : State) : (s.postAlso d k a b c).pending = s.pending := by
  unfold State.postAlso; exact State.postWhere_pending _ _ _ _ _ s
@[simp] theorem State.postAlso_freeIndex (d : Link → Bool) (k : NoticeKind) (a b c : Nat) (s : State) : (s.postAlso d k a b c).freeIndex = s.freeIndex := by
  unfold State.postAlso; exact State.postWhere_freeIndex _ _ _ _ _ s
@[simp] theorem State.postAlso_voices (d : Link → Bool) (k : NoticeKind) (a b c : Nat) (s : State) : (s.postAlso d k a b c).voices = s.voices := by
  unfold State.postAlso; exact State.postWhere_voices _ _ _ _ _ s
@[simp] theorem State.postAlso_serial (d : Link → Bool) (k : NoticeKind) (a b c : Nat) (s : State) : (s.postAlso d k a b c).serial = s.serial := by
  unfold State.postAlso; exact State.postWhere_serial _ _ _ _ _ s
@[simp] theorem State.postAlso_deferred (d : Link → Bool) (k : NoticeKind) (a b c : Nat) (s : State) : (s.postAlso d k a b c).deferred = s.deferred := by
  unfold State.postAlso; exact State.postWhere_deferred _ _ _ _ _ s
@[simp] theorem State.postAlso_perf (d : Link → Bool) (k : NoticeKind) (a b c : Nat) (s : State) : (s.postAlso d k a b c).perf = s.perf := by
  unfold State.postAlso; exact State.postWhere_perf _ _ _ _ _ s
@[simp] theorem State.postAlso_params (d : Link → Bool) (k : NoticeKind) (a b c : Nat) (s : State) : (s.postAlso d k a b c).params = s.params := by
  unfold State.postAlso; exact State.postWhere_params _ _ _ _ _ s
@[simp] theorem State.postAlso_globals (d : Link → Bool) (k : NoticeKind) (a b c : Nat) (s : State) : (s.postAlso d k a b c).globals = s.globals := by
  unfold State.postAlso; exact State.postWhere_globals _ _ _ _ _ s
@[simp] theorem State.postAlso_slots (d : Link → Bool) (k : NoticeKind) (a b c : Nat) (s : State) : (s.postAlso d k a b c).slots = s.slots := by
  unfold State.postAlso; exact State.postWhere_slots _ _ _ _ _ s
@[simp] theorem State.postAlso_template (d : Link → Bool) (k : NoticeKind) (a b c : Nat) (s : State) : (s.postAlso d k a b c).template = s.template := by
  unfold State.postAlso; exact State.postWhere_template _ _ _ _ _ s
@[simp] theorem State.postAlso_controls (d : Link → Bool) (k : NoticeKind) (a b c : Nat) (s : State) : (s.postAlso d k a b c).controls = s.controls := by
  unfold State.postAlso; exact State.postWhere_controls _ _ _ _ _ s
@[simp] theorem State.postAlso_switches (d : Link → Bool) (k : NoticeKind) (a b c : Nat) (s : State) : (s.postAlso d k a b c).switches = s.switches := by
  unfold State.postAlso; exact State.postWhere_switches _ _ _ _ _ s
@[simp] theorem State.postAlso_scanner (d : Link → Bool) (k : NoticeKind) (a b c : Nat) (s : State) : (s.postAlso d k a b c).scanner = s.scanner := by
  unfold State.postAlso; exact State.postWhere_scanner _ _ _ _ _ s
@[simp] theorem State.postAlso_knobs (d : Link → Bool) (k : NoticeKind) (a b c : Nat) (s : State) : (s.postAlso d k a b c).knobs = s.knobs := by
  unfold State.postAlso; exact State.postWhere_knobs _ _ _ _ _ s
@[simp] theorem State.postAlso_switchActions (d : Link → Bool) (k : NoticeKind) (a b c : Nat) (s : State) : (s.postAlso d k a b c).switchActions = s.switchActions := by
  unfold State.postAlso; exact State.postWhere_switchActions _ _ _ _ _ s
@[simp] theorem State.postAlso_measurement (d : Link → Bool) (k : NoticeKind) (a b c : Nat) (s : State) : (s.postAlso d k a b c).measurement = s.measurement := by
  unfold State.postAlso; exact State.postWhere_measurement _ _ _ _ _ s
@[simp] theorem State.postAlso_periodCounter (d : Link → Bool) (k : NoticeKind) (a b c : Nat) (s : State) : (s.postAlso d k a b c).periodCounter = s.periodCounter := by
  unfold State.postAlso; exact State.postWhere_periodCounter _ _ _ _ _ s
@[simp] theorem State.postAlso_fsel (d : Link → Bool) (k : NoticeKind) (a b c : Nat) (s : State) : (s.postAlso d k a b c).fsel = s.fsel := by
  unfold State.postAlso; exact State.postWhere_fsel _ _ _ _ _ s
@[simp] theorem State.postAlso_run (d : Link → Bool) (k : NoticeKind) (a b c : Nat) (s : State) : (s.postAlso d k a b c).run = s.run := by
  unfold State.postAlso; exact State.postWhere_run _ _ _ _ _ s
@[simp] theorem State.postAlso_candidate (d : Link → Bool) (k : NoticeKind) (a b c : Nat) (s : State) : (s.postAlso d k a b c).candidate = s.candidate := by
  unfold State.postAlso; exact State.postWhere_candidate _ _ _ _ _ s
@[simp] theorem State.postAlso_calibration (d : Link → Bool) (k : NoticeKind) (a b c : Nat) (s : State) : (s.postAlso d k a b c).calibration = s.calibration := by
  unfold State.postAlso; exact State.postWhere_calibration _ _ _ _ _ s
@[simp] theorem State.postAlso_retune (d : Link → Bool) (k : NoticeKind) (a b c : Nat) (s : State) : (s.postAlso d k a b c).retune = s.retune := by
  unfold State.postAlso; exact State.postWhere_retune _ _ _ _ _ s
@[simp] theorem State.postAlso_glides (d : Link → Bool) (k : NoticeKind) (a b c : Nat) (s : State) : (s.postAlso d k a b c).glides = s.glides := by
  unfold State.postAlso; exact State.postWhere_glides _ _ _ _ _ s
@[simp] theorem State.postAlso_output (d : Link → Bool) (k : NoticeKind) (a b c : Nat) (s : State) : (s.postAlso d k a b c).output = s.output := by
  unfold State.postAlso; exact State.postWhere_output _ _ _ _ _ s
@[simp] theorem State.postAlso_lineUnit (d : Link → Bool) (k : NoticeKind) (a b c : Nat) (s : State) : (s.postAlso d k a b c).lineUnit = s.lineUnit := by
  unfold State.postAlso; exact State.postWhere_lineUnit _ _ _ _ _ s
@[simp] theorem State.postAlso_timestamp (d : Link → Bool) (k : NoticeKind) (a b c : Nat) (s : State) : (s.postAlso d k a b c).timestamp = s.timestamp := by
  unfold State.postAlso; exact State.postWhere_timestamp _ _ _ _ _ s
@[simp] theorem State.postAlso_rstb (d : Link → Bool) (k : NoticeKind) (a b c : Nat) (s : State) : (s.postAlso d k a b c).rstb = s.rstb := by
  unfold State.postAlso; exact State.postWhere_rstb _ _ _ _ _ s
@[simp] theorem State.postAlso_resetRun (d : Link → Bool) (k : NoticeKind) (a b c : Nat) (s : State) : (s.postAlso d k a b c).resetRun = s.resetRun := by
  unfold State.postAlso; exact State.postWhere_resetRun _ _ _ _ _ s
@[simp] theorem State.postAlso_voice (d : Link → Bool) (k : NoticeKind) (a b c : Nat) (w : VoiceId) (s : State) :
    (s.postAlso d k a b c).voice w = s.voice w := by
  unfold State.postAlso; exact State.postWhere_voice _ _ _ _ _ w s
@[simp] theorem State.postAlso_perfOf (d : Link → Bool) (k : NoticeKind) (a b c : Nat) (q : PartId) (s : State) :
    (s.postAlso d k a b c).perfOf q = s.perfOf q := by
  unfold State.postAlso; exact State.postWhere_perfOf _ _ _ _ _ q s
@[simp] theorem State.postAlso_param (d : Link → Bool) (k : NoticeKind) (a b c : Nat) (q : PartId) (j : ParamId) (s : State) :
    (s.postAlso d k a b c).param q j = s.param q j := by
  unfold State.postAlso; exact State.postWhere_param _ _ _ _ _ q j s
@[simp] theorem State.postAlso_global (d : Link → Bool) (k : NoticeKind) (a b c : Nat) (h : GlobalId) (s : State) :
    (s.postAlso d k a b c).global h = s.global h := by
  unfold State.postAlso; exact State.postWhere_global _ _ _ _ _ h s
@[simp] theorem State.postAlso_slotOf (d : Link → Bool) (k : NoticeKind) (a b c : Nat) (q : PartId) (s : State) :
    (s.postAlso d k a b c).slotOf q = s.slotOf q := by
  unfold State.postAlso; exact State.postWhere_slotOf _ _ _ _ _ q s
@[simp] theorem State.postAlso_glide (d : Link → Bool) (k : NoticeKind) (a b c : Nat) (w : VoiceId) (s : State) :
    (s.postAlso d k a b c).glide w = s.glide w := by
  unfold State.postAlso; exact State.postWhere_glide _ _ _ _ _ w s
@[simp] theorem State.postAlso_control (d : Link → Bool) (k : NoticeKind) (a b c : Nat) (i : ControlId) (s : State) :
    (s.postAlso d k a b c).control i = s.control i := by
  unfold State.postAlso; exact State.postWhere_control _ _ _ _ _ i s
@[simp] theorem State.postAlso_knob (d : Link → Bool) (k : NoticeKind) (a b c : Nat) (i : ControlId) (s : State) :
    (s.postAlso d k a b c).knob i = s.knob i := by
  unfold State.postAlso; exact State.postWhere_knob _ _ _ _ _ i s
@[simp] theorem State.postAlso_cal (d : Link → Bool) (k : NoticeKind) (a b c : Nat) (o : OscId) (s : State) :
    (s.postAlso d k a b c).cal o = s.cal o := by
  unfold State.postAlso; exact State.postWhere_cal _ _ _ _ _ o s
@[simp] theorem State.postAlso_inReset (d : Link → Bool) (k : NoticeKind) (a b c : Nat) (s : State) :
    (s.postAlso d k a b c).inReset = s.inReset := by
  unfold State.postAlso; exact State.postWhere_inReset _ _ _ _ _ s

@[simp] theorem State.postDropped_pending (p : PartId) (k : Key) (r : Nat) (s : State) : (s.postDropped p k r).pending = s.pending := by
  unfold State.postDropped; exact State.post_pending _ _ _ _ s
@[simp] theorem State.postDropped_freeIndex (p : PartId) (k : Key) (r : Nat) (s : State) : (s.postDropped p k r).freeIndex = s.freeIndex := by
  unfold State.postDropped; exact State.post_freeIndex _ _ _ _ s
@[simp] theorem State.postDropped_voices (p : PartId) (k : Key) (r : Nat) (s : State) : (s.postDropped p k r).voices = s.voices := by
  unfold State.postDropped; exact State.post_voices _ _ _ _ s
@[simp] theorem State.postDropped_serial (p : PartId) (k : Key) (r : Nat) (s : State) : (s.postDropped p k r).serial = s.serial := by
  unfold State.postDropped; exact State.post_serial _ _ _ _ s
@[simp] theorem State.postDropped_deferred (p : PartId) (k : Key) (r : Nat) (s : State) : (s.postDropped p k r).deferred = s.deferred := by
  unfold State.postDropped; exact State.post_deferred _ _ _ _ s
@[simp] theorem State.postDropped_perf (p : PartId) (k : Key) (r : Nat) (s : State) : (s.postDropped p k r).perf = s.perf := by
  unfold State.postDropped; exact State.post_perf _ _ _ _ s
@[simp] theorem State.postDropped_params (p : PartId) (k : Key) (r : Nat) (s : State) : (s.postDropped p k r).params = s.params := by
  unfold State.postDropped; exact State.post_params _ _ _ _ s
@[simp] theorem State.postDropped_globals (p : PartId) (k : Key) (r : Nat) (s : State) : (s.postDropped p k r).globals = s.globals := by
  unfold State.postDropped; exact State.post_globals _ _ _ _ s
@[simp] theorem State.postDropped_slots (p : PartId) (k : Key) (r : Nat) (s : State) : (s.postDropped p k r).slots = s.slots := by
  unfold State.postDropped; exact State.post_slots _ _ _ _ s
@[simp] theorem State.postDropped_template (p : PartId) (k : Key) (r : Nat) (s : State) : (s.postDropped p k r).template = s.template := by
  unfold State.postDropped; exact State.post_template _ _ _ _ s
@[simp] theorem State.postDropped_controls (p : PartId) (k : Key) (r : Nat) (s : State) : (s.postDropped p k r).controls = s.controls := by
  unfold State.postDropped; exact State.post_controls _ _ _ _ s
@[simp] theorem State.postDropped_switches (p : PartId) (k : Key) (r : Nat) (s : State) : (s.postDropped p k r).switches = s.switches := by
  unfold State.postDropped; exact State.post_switches _ _ _ _ s
@[simp] theorem State.postDropped_scanner (p : PartId) (k : Key) (r : Nat) (s : State) : (s.postDropped p k r).scanner = s.scanner := by
  unfold State.postDropped; exact State.post_scanner _ _ _ _ s
@[simp] theorem State.postDropped_knobs (p : PartId) (k : Key) (r : Nat) (s : State) : (s.postDropped p k r).knobs = s.knobs := by
  unfold State.postDropped; exact State.post_knobs _ _ _ _ s
@[simp] theorem State.postDropped_switchActions (p : PartId) (k : Key) (r : Nat) (s : State) : (s.postDropped p k r).switchActions = s.switchActions := by
  unfold State.postDropped; exact State.post_switchActions _ _ _ _ s
@[simp] theorem State.postDropped_measurement (p : PartId) (k : Key) (r : Nat) (s : State) : (s.postDropped p k r).measurement = s.measurement := by
  unfold State.postDropped; exact State.post_measurement _ _ _ _ s
@[simp] theorem State.postDropped_periodCounter (p : PartId) (k : Key) (r : Nat) (s : State) : (s.postDropped p k r).periodCounter = s.periodCounter := by
  unfold State.postDropped; exact State.post_periodCounter _ _ _ _ s
@[simp] theorem State.postDropped_fsel (p : PartId) (k : Key) (r : Nat) (s : State) : (s.postDropped p k r).fsel = s.fsel := by
  unfold State.postDropped; exact State.post_fsel _ _ _ _ s
@[simp] theorem State.postDropped_run (p : PartId) (k : Key) (r : Nat) (s : State) : (s.postDropped p k r).run = s.run := by
  unfold State.postDropped; exact State.post_run _ _ _ _ s
@[simp] theorem State.postDropped_candidate (p : PartId) (k : Key) (r : Nat) (s : State) : (s.postDropped p k r).candidate = s.candidate := by
  unfold State.postDropped; exact State.post_candidate _ _ _ _ s
@[simp] theorem State.postDropped_calibration (p : PartId) (k : Key) (r : Nat) (s : State) : (s.postDropped p k r).calibration = s.calibration := by
  unfold State.postDropped; exact State.post_calibration _ _ _ _ s
@[simp] theorem State.postDropped_retune (p : PartId) (k : Key) (r : Nat) (s : State) : (s.postDropped p k r).retune = s.retune := by
  unfold State.postDropped; exact State.post_retune _ _ _ _ s
@[simp] theorem State.postDropped_glides (p : PartId) (k : Key) (r : Nat) (s : State) : (s.postDropped p k r).glides = s.glides := by
  unfold State.postDropped; exact State.post_glides _ _ _ _ s
@[simp] theorem State.postDropped_output (p : PartId) (k : Key) (r : Nat) (s : State) : (s.postDropped p k r).output = s.output := by
  unfold State.postDropped; exact State.post_output _ _ _ _ s
@[simp] theorem State.postDropped_lineUnit (p : PartId) (k : Key) (r : Nat) (s : State) : (s.postDropped p k r).lineUnit = s.lineUnit := by
  unfold State.postDropped; exact State.post_lineUnit _ _ _ _ s
@[simp] theorem State.postDropped_timestamp (p : PartId) (k : Key) (r : Nat) (s : State) : (s.postDropped p k r).timestamp = s.timestamp := by
  unfold State.postDropped; exact State.post_timestamp _ _ _ _ s
@[simp] theorem State.postDropped_rstb (p : PartId) (k : Key) (r : Nat) (s : State) : (s.postDropped p k r).rstb = s.rstb := by
  unfold State.postDropped; exact State.post_rstb _ _ _ _ s
@[simp] theorem State.postDropped_resetRun (p : PartId) (k : Key) (r : Nat) (s : State) : (s.postDropped p k r).resetRun = s.resetRun := by
  unfold State.postDropped; exact State.post_resetRun _ _ _ _ s
@[simp] theorem State.postDropped_voice (p : PartId) (k : Key) (r : Nat) (w : VoiceId) (s : State) :
    (s.postDropped p k r).voice w = s.voice w := by
  unfold State.postDropped; exact State.post_voice _ _ _ _ w s
@[simp] theorem State.postDropped_perfOf (p : PartId) (k : Key) (r : Nat) (q : PartId) (s : State) :
    (s.postDropped p k r).perfOf q = s.perfOf q := by
  unfold State.postDropped; exact State.post_perfOf _ _ _ _ q s
@[simp] theorem State.postDropped_param (p : PartId) (k : Key) (r : Nat) (q : PartId) (j : ParamId) (s : State) :
    (s.postDropped p k r).param q j = s.param q j := by
  unfold State.postDropped; exact State.post_param _ _ _ _ q j s
@[simp] theorem State.postDropped_global (p : PartId) (k : Key) (r : Nat) (h : GlobalId) (s : State) :
    (s.postDropped p k r).global h = s.global h := by
  unfold State.postDropped; exact State.post_global _ _ _ _ h s
@[simp] theorem State.postDropped_slotOf (p : PartId) (k : Key) (r : Nat) (q : PartId) (s : State) :
    (s.postDropped p k r).slotOf q = s.slotOf q := by
  unfold State.postDropped; exact State.post_slotOf _ _ _ _ q s
@[simp] theorem State.postDropped_glide (p : PartId) (k : Key) (r : Nat) (w : VoiceId) (s : State) :
    (s.postDropped p k r).glide w = s.glide w := by
  unfold State.postDropped; exact State.post_glide _ _ _ _ w s
@[simp] theorem State.postDropped_control (p : PartId) (k : Key) (r : Nat) (i : ControlId) (s : State) :
    (s.postDropped p k r).control i = s.control i := by
  unfold State.postDropped; exact State.post_control _ _ _ _ i s
@[simp] theorem State.postDropped_knob (p : PartId) (k : Key) (r : Nat) (i : ControlId) (s : State) :
    (s.postDropped p k r).knob i = s.knob i := by
  unfold State.postDropped; exact State.post_knob _ _ _ _ i s
@[simp] theorem State.postDropped_cal (p : PartId) (k : Key) (r : Nat) (o : OscId) (s : State) :
    (s.postDropped p k r).cal o = s.cal o := by
  unfold State.postDropped; exact State.post_cal _ _ _ _ o s
@[simp] theorem State.postDropped_inReset (p : PartId) (k : Key) (r : Nat) (s : State) :
    (s.postDropped p k r).inReset = s.inReset := by
  unfold State.postDropped; exact State.post_inReset _ _ _ _ s

theorem State.link_post (k : NoticeKind) (a b c : Nat) (m : Link) (s : State) :
    (s.post k a b c).link m =
      if s.subscribed m k.group then { s.link m with queue := (s.link m).queue.post { kind := k, subject := a, value1 := b, value2 := c, stamp := s.timestamp } }
      else s.link m := by
  unfold State.post; exact State.link_postWhere _ k a b c m s

theorem State.link_postAlso (d : Link → Bool) (k : NoticeKind) (a b c : Nat) (m : Link) (s : State) :
    (s.postAlso d k a b c).link m =
      if d m || s.subscribed m k.group then { s.link m with queue := (s.link m).queue.post { kind := k, subject := a, value1 := b, value2 := c, stamp := s.timestamp } }
      else s.link m := by
  unfold State.postAlso; exact State.link_postWhere _ k a b c m s

/-! ### Frames -/

@[simp] theorem State.shiftOut_pending (l : Link) (bs : List Byte) (s : State) : (s.shiftOut l bs).pending = s.pending := by
  unfold State.shiftOut; simp
@[simp] theorem State.shiftOut_freeIndex (l : Link) (bs : List Byte) (s : State) : (s.shiftOut l bs).freeIndex = s.freeIndex := by
  unfold State.shiftOut; simp
@[simp] theorem State.shiftOut_voices (l : Link) (bs : List Byte) (s : State) : (s.shiftOut l bs).voices = s.voices := by
  unfold State.shiftOut; simp
@[simp] theorem State.shiftOut_serial (l : Link) (bs : List Byte) (s : State) : (s.shiftOut l bs).serial = s.serial := by
  unfold State.shiftOut; simp
@[simp] theorem State.shiftOut_deferred (l : Link) (bs : List Byte) (s : State) : (s.shiftOut l bs).deferred = s.deferred := by
  unfold State.shiftOut; simp
@[simp] theorem State.shiftOut_perf (l : Link) (bs : List Byte) (s : State) : (s.shiftOut l bs).perf = s.perf := by
  unfold State.shiftOut; simp
@[simp] theorem State.shiftOut_params (l : Link) (bs : List Byte) (s : State) : (s.shiftOut l bs).params = s.params := by
  unfold State.shiftOut; simp
@[simp] theorem State.shiftOut_globals (l : Link) (bs : List Byte) (s : State) : (s.shiftOut l bs).globals = s.globals := by
  unfold State.shiftOut; simp
@[simp] theorem State.shiftOut_slots (l : Link) (bs : List Byte) (s : State) : (s.shiftOut l bs).slots = s.slots := by
  unfold State.shiftOut; simp
@[simp] theorem State.shiftOut_template (l : Link) (bs : List Byte) (s : State) : (s.shiftOut l bs).template = s.template := by
  unfold State.shiftOut; simp
@[simp] theorem State.shiftOut_controls (l : Link) (bs : List Byte) (s : State) : (s.shiftOut l bs).controls = s.controls := by
  unfold State.shiftOut; simp
@[simp] theorem State.shiftOut_switches (l : Link) (bs : List Byte) (s : State) : (s.shiftOut l bs).switches = s.switches := by
  unfold State.shiftOut; simp
@[simp] theorem State.shiftOut_scanner (l : Link) (bs : List Byte) (s : State) : (s.shiftOut l bs).scanner = s.scanner := by
  unfold State.shiftOut; simp
@[simp] theorem State.shiftOut_knobs (l : Link) (bs : List Byte) (s : State) : (s.shiftOut l bs).knobs = s.knobs := by
  unfold State.shiftOut; simp
@[simp] theorem State.shiftOut_switchActions (l : Link) (bs : List Byte) (s : State) : (s.shiftOut l bs).switchActions = s.switchActions := by
  unfold State.shiftOut; simp
@[simp] theorem State.shiftOut_measurement (l : Link) (bs : List Byte) (s : State) : (s.shiftOut l bs).measurement = s.measurement := by
  unfold State.shiftOut; simp
@[simp] theorem State.shiftOut_periodCounter (l : Link) (bs : List Byte) (s : State) : (s.shiftOut l bs).periodCounter = s.periodCounter := by
  unfold State.shiftOut; simp
@[simp] theorem State.shiftOut_fsel (l : Link) (bs : List Byte) (s : State) : (s.shiftOut l bs).fsel = s.fsel := by
  unfold State.shiftOut; simp
@[simp] theorem State.shiftOut_run (l : Link) (bs : List Byte) (s : State) : (s.shiftOut l bs).run = s.run := by
  unfold State.shiftOut; simp
@[simp] theorem State.shiftOut_candidate (l : Link) (bs : List Byte) (s : State) : (s.shiftOut l bs).candidate = s.candidate := by
  unfold State.shiftOut; simp
@[simp] theorem State.shiftOut_calibration (l : Link) (bs : List Byte) (s : State) : (s.shiftOut l bs).calibration = s.calibration := by
  unfold State.shiftOut; simp
@[simp] theorem State.shiftOut_retune (l : Link) (bs : List Byte) (s : State) : (s.shiftOut l bs).retune = s.retune := by
  unfold State.shiftOut; simp
@[simp] theorem State.shiftOut_glides (l : Link) (bs : List Byte) (s : State) : (s.shiftOut l bs).glides = s.glides := by
  unfold State.shiftOut; simp
@[simp] theorem State.shiftOut_output (l : Link) (bs : List Byte) (s : State) : (s.shiftOut l bs).output = s.output := by
  unfold State.shiftOut; simp
@[simp] theorem State.shiftOut_lineUnit (l : Link) (bs : List Byte) (s : State) : (s.shiftOut l bs).lineUnit = s.lineUnit := by
  unfold State.shiftOut; simp
@[simp] theorem State.shiftOut_timestamp (l : Link) (bs : List Byte) (s : State) : (s.shiftOut l bs).timestamp = s.timestamp := by
  unfold State.shiftOut; simp
@[simp] theorem State.shiftOut_rstb (l : Link) (bs : List Byte) (s : State) : (s.shiftOut l bs).rstb = s.rstb := by
  unfold State.shiftOut; simp
@[simp] theorem State.shiftOut_resetRun (l : Link) (bs : List Byte) (s : State) : (s.shiftOut l bs).resetRun = s.resetRun := by
  unfold State.shiftOut; simp
@[simp] theorem State.shiftOut_voice (l : Link) (bs : List Byte) (w : VoiceId) (s : State) :
    (s.shiftOut l bs).voice w = s.voice w := by
  unfold State.shiftOut; simp
@[simp] theorem State.shiftOut_perfOf (l : Link) (bs : List Byte) (q : PartId) (s : State) :
    (s.shiftOut l bs).perfOf q = s.perfOf q := by
  unfold State.shiftOut; simp
@[simp] theorem State.shiftOut_param (l : Link) (bs : List Byte) (q : PartId) (j : ParamId) (s : State) :
    (s.shiftOut l bs).param q j = s.param q j := by
  unfold State.shiftOut; simp
@[simp] theorem State.shiftOut_global (l : Link) (bs : List Byte) (h : GlobalId) (s : State) :
    (s.shiftOut l bs).global h = s.global h := by
  unfold State.shiftOut; simp
@[simp] theorem State.shiftOut_slotOf (l : Link) (bs : List Byte) (q : PartId) (s : State) :
    (s.shiftOut l bs).slotOf q = s.slotOf q := by
  unfold State.shiftOut; simp
@[simp] theorem State.shiftOut_glide (l : Link) (bs : List Byte) (w : VoiceId) (s : State) :
    (s.shiftOut l bs).glide w = s.glide w := by
  unfold State.shiftOut; simp
@[simp] theorem State.shiftOut_control (l : Link) (bs : List Byte) (i : ControlId) (s : State) :
    (s.shiftOut l bs).control i = s.control i := by
  unfold State.shiftOut; simp
@[simp] theorem State.shiftOut_knob (l : Link) (bs : List Byte) (i : ControlId) (s : State) :
    (s.shiftOut l bs).knob i = s.knob i := by
  unfold State.shiftOut; simp
@[simp] theorem State.shiftOut_cal (l : Link) (bs : List Byte) (o : OscId) (s : State) :
    (s.shiftOut l bs).cal o = s.cal o := by
  unfold State.shiftOut; simp
@[simp] theorem State.shiftOut_inReset (l : Link) (bs : List Byte) (s : State) :
    (s.shiftOut l bs).inReset = s.inReset := by
  unfold State.shiftOut; simp

@[simp] theorem State.link_shiftOut_self (l : Link) (bs : List Byte) (s : State) :
    (s.shiftOut l bs).link l = { s.link l with shifted := bs } := by simp [State.shiftOut]

theorem State.link_shiftOut_ne {l m : Link} (h : m ≠ l) (bs : List Byte) (s : State) :
    (s.shiftOut l bs).link m = s.link m := by simp [State.shiftOut, State.link_setLink_ne h]

@[simp] theorem State.shiftOut_busy (l m : Link) (bs : List Byte) (s : State) : (s.shiftOut l bs).busy m = s.busy m := by
  unfold State.busy
  by_cases h : m = l
  · subst h; simp
  · rw [State.link_shiftOut_ne h]

/-- A frame that ends while a reset runs is discarded (R196). -/
theorem State.takeFrame_inReset {s : State} (h : s.inReset = true) (l : Link) (n : Nat) (code : Byte)
    (work : State → State × Answer) : s.takeFrame l n code work = s.shiftOut l (fillers n) := by
  simp [State.takeFrame, h]

/-- A request frame that ends while its link is busy is discarded and counted (R179). -/
theorem State.takeFrame_busy {s : State} {l : Link} (h : s.inReset = false) (hb : s.busy l = true) (n : Nat)
    (code : Byte) (work : State → State × Answer) :
    s.takeFrame l n code work = (s.shiftOut l (fillers n)).discardBusy l := by
  simp [State.takeFrame, h, hb]

/-- A request frame on a link that is not busy is taken, and the link becomes busy with its reply (R176). -/
theorem State.takeFrame_free {s : State} {l : Link} (h : s.inReset = false) (hb : s.busy l = false) (n : Nat)
    (code : Byte) (work : State → State × Answer) :
    s.takeFrame l n code work =
      (work (s.shiftOut l (fillers n))).1.answer l ((work (s.shiftOut l (fillers n))).2.toReply code) := by
  simp [State.takeFrame, h, hb]

/-- A request that begins no reset leaves its reply in process on its link. -/
theorem State.answer_of_running {s : State} (h : s.inReset = false) (l : Link) (r : Reply) :
    s.answer l r = s.setLink l { s.link l with inProcess := some r } := by simp [State.answer, h]

theorem State.answer_inReset {s : State} (h : s.inReset = true) (l : Link) (r : Reply) : s.answer l r = s := by
  simp [State.answer, h]

/-- REPLY_READY on a link that is not busy does nothing. -/
theorem State.replyReady_idle {s : State} {l : Link} (h : (s.link l).inProcess = none) : s.replyReady l = s := by
  simp [State.replyReady, h]

/-- The end of processing (R176, R178, R179). -/
theorem State.replyReady_busy {s : State} {l : Link} {r : Reply} (h : (s.link l).inProcess = some r) :
    s.replyReady l = s.setLink l { s.link l with
      slot := some { r with flags := { r.flags with overrun := (s.link l).overrunMark } }
      inProcess := none, overrunMark := false } := by
  simp [State.replyReady, h]

end Sys2Proof.Machine
end

