-- ==== Sys2Proof/Laws/Voices.lean ====
section
/-! SUPPORT. What the shared operations over voices, notes, runs and the line can do, said once: which fields of State
they may write, and what they write where they act. Later proofs cite these and unfold no operation. -/

namespace Sys2Proof.Machine

/-! ### The fields that notes may reach -/

/-- The states differ at most in the voice table, the serial counter, the deferred list, the performance records and
the glide records. -/
def SameButVoices (s t : State) : Prop :=
  t = { s with voices := t.voices, serial := t.serial, deferred := t.deferred, perf := t.perf, glides := t.glides }

/-- As `SameButVoices`, but the run, the measurement and the links may differ too. -/
def SameButNotes (s t : State) : Prop :=
  t = { s with
    voices := t.voices, serial := t.serial, deferred := t.deferred, perf := t.perf, glides := t.glides, run := t.run
    measurement := t.measurement, fsel := t.fsel, candidate := t.candidate, linkA := t.linkA, linkB := t.linkB }

theorem SameButVoices.refl (s : State) : SameButVoices s s := rfl

theorem SameButVoices.trans {s t u : State} (h : SameButVoices s t) (k : SameButVoices t u) : SameButVoices s u := by
  unfold SameButVoices at *; exact k.trans (by rw [h])

theorem SameButNotes.refl (s : State) : SameButNotes s s := rfl

theorem SameButNotes.trans {s t u : State} (h : SameButNotes s t) (k : SameButNotes t u) : SameButNotes s u := by
  unfold SameButNotes at *; exact k.trans (by rw [h])

theorem SameButVoices.notes {s t : State} (h : SameButVoices s t) : SameButNotes s t := by
  unfold SameButVoices SameButNotes at *; rw [h]

/-- A fold of steps that reach only voices reaches only voices. -/
theorem SameButVoices.foldl {α : Type} {f : State → α → State} (h : ∀ s a, SameButVoices s (f s a)) (l : List α)
    (s : State) : SameButVoices s (l.foldl f s) := by
  induction l generalizing s with
  | nil => exact .refl s
  | cons a l ih => exact (h s a).trans (ih (f s a))

theorem SameButNotes.foldl {α : Type} {f : State → α → State} (h : ∀ s a, SameButNotes s (f s a)) (l : List α)
    (s : State) : SameButNotes s (l.foldl f s) := by
  induction l generalizing s with
  | nil => exact .refl s
  | cons a l ih => exact (h s a).trans (ih (f s a))

theorem SameButNotes.params {s t : State} (h : SameButNotes s t) : t.params = s.params := by
  unfold SameButNotes at h; rw [h]

theorem SameButNotes.globals {s t : State} (h : SameButNotes s t) : t.globals = s.globals := by
  unfold SameButNotes at h; rw [h]

theorem SameButNotes.calibration {s t : State} (h : SameButNotes s t) : t.calibration = s.calibration := by
  unfold SameButNotes at h; rw [h]

theorem SameButNotes.timestamp {s t : State} (h : SameButNotes s t) : t.timestamp = s.timestamp := by
  unfold SameButNotes at h; rw [h]

theorem SameButNotes.resetRun {s t : State} (h : SameButNotes s t) : t.resetRun = s.resetRun := by
  unfold SameButNotes at h; rw [h]

/-! ### Setters -/

theorem sameButVoices_setVoice (v : VoiceId) (x : Voice) (s : State) : SameButVoices s (s.setVoice v x) := rfl
theorem sameButVoices_setPhase (v : VoiceId) (x : VoicePhase) (s : State) : SameButVoices s (s.setPhase v x) := rfl
theorem sameButVoices_setClaim (v : VoiceId) (c : Bool) (s : State) : SameButVoices s (s.setClaim v c) := rfl
theorem sameButVoices_setPerf (p : PartId) (x : Perf) (s : State) : SameButVoices s (s.setPerf p x) := rfl
theorem sameButVoices_setGlide (v : VoiceId) (g : Glide) (s : State) : SameButVoices s (s.setGlide v g) := rfl
theorem sameButVoices_countWith (p : PartId) (f : Counters → Counters) (s : State) :
    SameButVoices s (s.countWith p f) := rfl
theorem sameButVoices_countRefused (p : PartId) (s : State) : SameButVoices s (s.countRefused p) := rfl
theorem sameButVoices_stopGlide (v : VoiceId) (s : State) : SameButVoices s (s.stopGlide v) := rfl
theorem sameButVoices_jumpGlide (v : VoiceId) (k : Key) (s : State) : SameButVoices s (s.jumpGlide v k) := rfl
theorem sameButVoices_turnGlide (v : VoiceId) (k : Key) (s : State) : SameButVoices s (s.turnGlide v k) := by
  unfold State.turnGlide; split <;> rfl

/-! ### Starting a note (R6, R11, R161) -/

theorem sameButVoices_gateOn (v : VoiceId) (p : PartId) (n : Note) (s : State) : SameButVoices s (s.gateOn v p n) := rfl

/-- A voice that starts a note is GATED on it with the next serial and its clamp flag cleared. -/
@[simp] theorem State.voice_gateOn_self (v : VoiceId) (p : PartId) (n : Note) (s : State) :
    (s.gateOn v p n).voice v =
      { s.voice v with phase := .gated n false none, part := p, serial := s.serial + 1, clamped := false } := by
  simp [State.gateOn, State.voice, State.setVoice]

theorem State.voice_gateOn_ne {v w : VoiceId} (h : w ≠ v) (p : PartId) (n : Note) (s : State) :
    (s.gateOn v p n).voice w = s.voice w := by
  simp [State.gateOn, State.voice, State.setVoice, Fin.val_inj, h.symm]

@[simp] theorem State.serial_gateOn (v : VoiceId) (p : PartId) (n : Note) (s : State) :
    (s.gateOn v p n).serial = s.serial + 1 := rfl

theorem sameButVoices_soundIdle (v : VoiceId) (p : PartId) (n : Note) (s : State) :
    SameButVoices s (s.soundIdle v p n) := rfl

/-- An IDLE voice that starts a note stands on its key, without glide. -/
@[simp] theorem State.glide_soundIdle_self (v : VoiceId) (p : PartId) (n : Note) (s : State) :
    (s.soundIdle v p n).glide v = { position := 256 * n.key.val, target := none } := by
  simp [State.soundIdle, State.jumpGlide, State.glide, State.setGlide]

theorem sameButVoices_retrigger (v : VoiceId) (velocity : Nat) (s : State) :
    SameButVoices s (s.retrigger v velocity) := by unfold State.retrigger; split <;> rfl

/-! ### Leaving, cancelling, damping, releasing (R15, R19, R20, R41) -/

theorem sameButVoices_clearHeld (p : PartId) (s : State) : SameButVoices s (s.clearHeld p) := rfl

theorem sameButVoices_leaveSet (v : VoiceId) (s : State) (p : PartId) : SameButVoices s (s.leaveSet v p) := by
  unfold State.leaveSet
  split
  · dsimp only
    split <;> rfl
  · rfl

theorem sameButVoices_leaveSets (v : VoiceId) (s : State) : SameButVoices s (s.leaveSets v) :=
  SameButVoices.foldl (sameButVoices_leaveSet v) allParts s

/-- Leaving a mono set writes no voice. -/
theorem voices_leaveSets (v : VoiceId) (s : State) : (s.leaveSets v).voices = s.voices := by
  unfold State.leaveSets
  generalize allParts = l
  induction l generalizing s with
  | nil => rfl
  | cons p l ih =>
    rw [List.foldl_cons, ih]
    unfold State.leaveSet
    split
    · dsimp only
      split <;> rfl
    · rfl

theorem sameButVoices_bind (v : VoiceId) (p : PartId) (s : State) : SameButVoices s (s.bind v p) := rfl
theorem sameButVoices_unbind (v : VoiceId) (p : PartId) (s : State) : SameButVoices s (s.unbind v p) := rfl

theorem sameButVoices_cancelSuccessor (v : VoiceId) (s : State) : SameButVoices s (s.cancelSuccessor v) := by
  unfold State.cancelSuccessor
  split
  · dsimp only
    split <;> rfl
  · rfl

theorem sameButVoices_cancelAndLeave (v : VoiceId) (s : State) : SameButVoices s (s.cancelAndLeave v) :=
  (sameButVoices_cancelSuccessor v s).trans (sameButVoices_leaveSets v _)

theorem sameButVoices_damp (v : VoiceId) (su : Option Successor) (s : State) : SameButVoices s (s.damp v su) := by
  unfold State.damp
  split
  · dsimp only
    split
    · exact ((sameButVoices_leaveSets v s).trans (sameButVoices_setPhase v _ _)).trans (sameButVoices_bind v _ _)
    · exact (sameButVoices_leaveSets v s).trans (sameButVoices_setPhase v _ _)
  · rfl

/-- A voice that holds a note goes DAMPING with DAMP_TIME as it stands; nothing else of its record changes. -/
theorem State.voice_damp_self {v : VoiceId} {n : Note} {s : State} (h : (s.voice v).phase.note? = some n)
    (su : Option Successor) :
    (s.damp v su).voice v = { s.voice v with phase := .damping n su false (s.global gDampTime) } := by
  have e : (s.leaveSets v).voice v = s.voice v := by unfold State.voice; rw [voices_leaveSets]
  unfold State.damp
  rw [h]
  cases su <;> simp [State.bind, State.setPhase, State.setVoice, State.setPerf, State.voice] <;> simp [State.voice] at e <;>
    simp [e]

theorem sameButVoices_release (v : VoiceId) (s : State) : SameButVoices s (s.release v) := by
  unfold State.release; split <;> rfl

/-- A GATED voice goes RELEASED with the timestamp and RELEASE_WINDOW of its part as they stand. -/
theorem State.voice_release_self {v : VoiceId} {n : Note} {sus : Bool} {pulse : Option Nat} {s : State}
    (h : (s.voice v).phase = .gated n sus pulse) :
    (s.release v).voice v =
      { s.voice v with phase := .released n s.timestamp (s.param (s.voice v).part pReleaseWindow) } := by
  unfold State.release; rw [h]; simp [State.setPhase, State.setVoice, State.voice]

/-- Release writes no other voice. -/
theorem State.voice_release_ne {v w : VoiceId} (h : w ≠ v) (s : State) : (s.release v).voice w = s.voice w := by
  unfold State.release
  split
  · simp [State.setPhase, State.setVoice, State.voice, Fin.val_inj, h.symm]
  · rfl

theorem sameButVoices_releaseAndLeave (v : VoiceId) (s : State) : SameButVoices s (s.releaseAndLeave v) :=
  (sameButVoices_release v s).trans (sameButVoices_leaveSets v _)

theorem sameButVoices_releaseWhere (pick : Voice → Bool) (s : State) : SameButVoices s (s.releaseWhere pick) := by
  refine SameButVoices.foldl (fun s v => ?_) allVoices s
  split
  · exact sameButVoices_release v s
  · rfl

theorem sameButVoices_releaseHeld (v : VoiceId) (s : State) : SameButVoices s (s.releaseHeld v) := by
  have h := sameButVoices_release v s
  unfold State.releaseHeld
  dsimp only
  rw [h]; rfl

/-- At hold off a GATED voice goes RELEASED as by a release, and its release stamp takes the timestamp. -/
theorem State.voice_releaseHeld_self {v : VoiceId} {n : Note} {sus : Bool} {pulse : Option Nat} {s : State}
    (h : (s.voice v).phase = .gated n sus pulse) :
    (s.releaseHeld v).voice v =
      { s.voice v with
        phase := .released n s.timestamp (s.param (s.voice v).part pReleaseWindow), releaseStamp := s.timestamp } := by
  unfold State.releaseHeld
  simp only [State.release, h]
  simp [State.setPhase, State.setVoice, State.voice]

/-- A release at hold off writes no other voice. -/
theorem State.voice_releaseHeld_ne {v w : VoiceId} (h : w ≠ v) (s : State) :
    (s.releaseHeld v).voice w = s.voice w := by
  have e := State.voice_release_ne h s
  unfold State.releaseHeld
  simp only [State.setVoice, State.voice] at e ⊢
  simpa [Fin.val_inj, h.symm] using e

theorem sameButVoices_releaseSustained (p : PartId) (s : State) : SameButVoices s (s.releaseSustained p) := by
  refine SameButVoices.foldl (fun s v => ?_) allVoices s
  split
  · exact sameButVoices_releaseHeld v s
  · rfl

/-! ### IDLE and the deferred list (R6, R23, R25) -/

theorem sameButVoices_goIdle (v : VoiceId) (s : State) : SameButVoices s (s.goIdle v) := rfl

/-- A voice that enters IDLE takes the timestamp as its release stamp. -/
@[simp] theorem State.voice_goIdle_self (v : VoiceId) (s : State) :
    (s.goIdle v).voice v = { s.voice v with phase := .idle, releaseStamp := s.timestamp } := by
  simp [State.goIdle, State.stopGlide, State.setGlide, State.setVoice, State.voice]

theorem sameButVoices_offer (v : VoiceId) (s : State) : SameButVoices s (s.offer v) := by
  unfold State.offer
  split
  · split <;> rfl
  · rfl

theorem sameButVoices_offerAll (vs : List VoiceId) (s : State) : SameButVoices s (s.offerAll vs) :=
  SameButVoices.foldl (fun s v => sameButVoices_offer v s) vs s

/-- An empty deferred list serves nobody. -/
theorem State.offer_of_empty {s : State} (h : s.deferred = []) (v : VoiceId) : s.offer v = s := by
  unfold State.offer; rw [h]; simp [takeFirst]

/-- What `takeFirst` gives is an element that passes, and the list without it. -/
theorem takeFirst_spec {α : Type} {test : α → Bool} {l rest : List α} {x : α} (h : takeFirst test l = some (x, rest)) :
    test x = true ∧ ∃ before after, l = before ++ x :: after ∧ rest = before ++ after ∧ ∀ y ∈ before, test y = false := by
  induction l generalizing x rest with
  | nil => simp [takeFirst] at h
  | cons y ys ih =>
    unfold takeFirst at h
    split at h
    · next hy =>
      simp only [Option.some.injEq, Prod.mk.injEq] at h
      obtain ⟨rfl, rfl⟩ := h
      exact ⟨hy, [], ys, rfl, rfl, by simp⟩
    · next hy =>
      rw [Option.map_eq_some_iff] at h
      obtain ⟨⟨z, zs⟩, hz, he⟩ := h
      simp only [Prod.mk.injEq] at he
      obtain ⟨rfl, rfl⟩ := he
      obtain ⟨ht, before, after, rfl, rfl, hb⟩ := ih hz
      refine ⟨ht, y :: before, after, rfl, rfl, fun w hw => ?_⟩
      rcases List.mem_cons.1 hw with rfl | hw
      · simpa using hy
      · exact hb w hw

theorem sameButVoices_cancelDeferred (p : PartId) (s : State) : SameButVoices s (s.cancelDeferred p) := rfl

theorem sameButVoices_cancelSuccessorsOf (p : PartId) (s : State) : SameButVoices s (s.cancelSuccessorsOf p) := by
  refine SameButVoices.foldl (fun s v => ?_) allVoices s
  split
  · exact sameButVoices_cancelSuccessor v s
  · rfl

theorem sameButVoices_allOffPart (s : State) (p : PartId) : SameButVoices s (s.allOffPart p) :=
  (((sameButVoices_releaseWhere _ s).trans (sameButVoices_cancelDeferred p _)).trans
    (sameButVoices_cancelSuccessorsOf p _)).trans (sameButVoices_clearHeld p _)

/-! ### Notices and the run -/

theorem sameButNotes_setLink (l : Link) (u : LinkUnit) (s : State) : SameButNotes s (s.setLink l u) := by
  cases l <;> rfl

theorem sameButNotes_postWhere (d : Link → Bool) (k : NoticeKind) (a b c : Nat) (s : State) :
    SameButNotes s (s.postWhere d k a b c) := by
  unfold State.postWhere
  dsimp only
  split <;> split <;> rfl

theorem sameButNotes_post (k : NoticeKind) (a b c : Nat) (s : State) : SameButNotes s (s.post k a b c) :=
  sameButNotes_postWhere _ k a b c s

theorem sameButNotes_startAnchor (v : VoiceId) (second : Bool) (a : AnchorId) (s : State) :
    SameButNotes s (s.startAnchor v second a) := rfl

theorem sameButNotes_enterTuning (v : VoiceId) (fromFault : Bool) (s : State) :
    SameButNotes s (s.enterTuning v fromFault) := rfl

theorem sameButNotes_takeNext (s : State) : SameButNotes s s.takeNext := by
  unfold State.takeNext
  split
  · split
    · split <;> rfl
    · rfl
  · rfl

/-- Nothing is taken while no run exists. -/
@[simp] theorem State.takeNext_of_noRun {s : State} (h : s.run = none) : s.takeNext = s := by
  unfold State.takeNext; rw [h]

theorem sameButNotes_becomeFree (v : VoiceId) (s : State) : SameButNotes s (s.becomeFree v) := by
  unfold State.becomeFree
  split
  · exact (sameButNotes_enterTuning v false s).trans (sameButNotes_takeNext _)
  · exact ((sameButVoices_goIdle v s).trans (sameButVoices_offer v _)).notes

theorem sameButNotes_windowExpiry (v : VoiceId) (s : State) : SameButNotes s (s.windowExpiry v) := by
  unfold State.windowExpiry
  split
  · exact sameButNotes_becomeFree v s
  · rfl

theorem sameButNotes_passZeroWindows (s : State) : SameButNotes s s.passZeroWindows := by
  refine SameButNotes.foldl (fun s v => ?_) allVoices s
  split
  · exact sameButNotes_windowExpiry v s
  · rfl

/-- Where no zero window stands, nothing passes. -/
theorem State.passZeroWindows_of_none {s : State} (h : ∀ v, ∀ n t, (s.voice v).phase ≠ .released n t 0) :
    s.passZeroWindows = s := by
  unfold State.passZeroWindows
  generalize allVoices = l
  induction l with
  | nil => rfl
  | cons v l ih =>
    rw [List.foldl_cons]
    split
    · next n t e => exact absurd e (h v n t)
    · exact ih

theorem sameButNotes_dampEnd (v : VoiceId) (s : State) : SameButNotes s (s.dampEnd v) := by
  unfold State.dampEnd
  split
  · dsimp only
    split
    · exact (((sameButVoices_unbind v _ s).trans (sameButVoices_gateOn v _ _ _)).trans
        ((sameButVoices_turnGlide v _ _).trans (sameButVoices_countWith _ _ _))).notes
    · exact (((sameButVoices_unbind v _ s).trans (sameButVoices_gateOn v _ _ _)).trans
        (sameButVoices_turnGlide v _ _)).notes
  · exact ((sameButVoices_setPhase v _ s).trans (sameButVoices_stopGlide v _)).notes
  · exact sameButNotes_becomeFree v s
  · rfl

/-! ### Giving and taking notes (R7 to R14, R24, R33 to R46) -/

theorem sameButNotes_deferOrDrop (p : PartId) (k : Key) (velocity : Nat) (s : State) :
    SameButNotes s (s.deferOrDrop p k velocity) := by
  unfold State.deferOrDrop
  split
  · rfl
  · exact (sameButVoices_countWith p _ s).notes.trans (sameButNotes_post _ _ _ _ _)

theorem sameButNotes_allocate (p : PartId) (k : Key) (velocity : Nat) (src : Source) (s : State) :
    SameButNotes s (s.allocate p k velocity src) := by
  unfold State.allocate
  split
  · exact ((sameButVoices_soundIdle _ p _ s).trans (sameButVoices_countWith p _ _)).notes
  · exact (sameButVoices_damp _ _ s).notes
  · exact sameButNotes_deferOrDrop p k velocity s

theorem sameButVoices_reuse (v : VoiceId) (velocity : Nat) (s : State) : SameButVoices s (s.reuse v velocity) := by
  unfold State.reuse; split <;> rfl

theorem sameButNotes_polyNote (p : PartId) (k : Key) (velocity : Nat) (src : Source) (s : State) :
    SameButNotes s (s.polyNote p k velocity src) := by
  unfold State.polyNote
  split
  · split
    · exact ((sameButVoices_reuse _ velocity s).trans (sameButVoices_countWith p _ _)).notes
    · exact ((sameButVoices_release _ s).notes.trans (sameButNotes_passZeroWindows _)).trans
        (sameButNotes_allocate p k velocity src _)
  · exact sameButNotes_allocate p k velocity src s

theorem sameButVoices_followVoice (p : PartId) (e : HeldKey) (s : State) (v : VoiceId) :
    SameButVoices s (s.followVoice p e v) := by
  unfold State.followVoice
  split
  · split
    · refine SameButVoices.trans ?_ (sameButVoices_turnGlide v e.key _)
      rfl
    · exact (sameButVoices_setVoice v _ s).trans (sameButVoices_turnGlide v e.key _)
  · split <;> rfl
  · rfl

theorem sameButVoices_reselect (p : PartId) (s : State) : SameButVoices s (s.reselect p) := by
  unfold State.reselect
  split
  · split
    · rfl
    · exact (sameButVoices_setPerf p _ s).trans (SameButVoices.foldl (sameButVoices_followVoice p _) _ _)
  · rfl

theorem sameButVoices_refreshVoice (p : PartId) (e : HeldKey) (s : State) (v : VoiceId) :
    SameButVoices s (s.refreshVoice p e v) := by
  unfold State.refreshVoice
  split
  · exact sameButVoices_retrigger v e.velocity s
  · split <;> rfl
  · rfl

theorem sameButVoices_refreshSet (p : PartId) (e : HeldKey) (s : State) : SameButVoices s (s.refreshSet p e) := by
  unfold State.refreshSet
  split
  · exact SameButVoices.foldl (sameButVoices_refreshVoice p e) _ s
  · rfl

theorem sameButVoices_pickSet (p : PartId) (e : HeldKey) (n : Nat) (taken : List VoiceId) (s : State) :
    SameButVoices s (State.pickSet p e n taken s).2 := by
  induction n generalizing taken s with
  | zero => exact .refl s
  | succ n ih =>
    unfold State.pickSet
    split
    · exact (sameButVoices_soundIdle _ p _ s).trans (ih _ _)
    · exact (sameButVoices_damp _ _ s).trans (ih _ _)
    · exact .refl s

theorem sameButNotes_firstKey (p : PartId) (e : HeldKey) (s : State) : SameButNotes s (s.firstKey p e) := by
  unfold State.firstKey
  dsimp only
  have h := (sameButVoices_pickSet p e (s.wantedCount p) [] s)
  split
  · exact (h.trans (sameButVoices_countWith p _ _)).notes.trans (sameButNotes_post _ _ _ _ _)
  · split
    · exact ((h.trans (sameButVoices_setPerf p _ _)).trans (sameButVoices_countWith p _ _)).notes.trans
        (sameButNotes_post _ _ _ _ _)
    · exact ((h.trans (sameButVoices_setPerf p _ _)).trans (sameButVoices_countWith p _ _)).notes

theorem sameButVoices_nextKey (p : PartId) (e : HeldKey) (s : State) : SameButVoices s (s.nextKey p e) := by
  unfold State.nextKey
  dsimp only
  have h := fun x => (sameButVoices_setPerf p x s).trans (sameButVoices_countWith p
    (fun c => { c with sounded := incSat16 c.sounded }) _)
  split
  · exact (h _).trans (sameButVoices_refreshSet p e _)
  · exact (h _).trans (sameButVoices_reselect p _)

theorem sameButNotes_monoNote (p : PartId) (k : Key) (velocity : Nat) (src : Source) (s : State) :
    SameButNotes s (s.monoNote p k velocity src) := by
  unfold State.monoNote
  dsimp only
  split
  · exact sameButNotes_firstKey p _ s
  · exact (sameButVoices_nextKey p _ s).notes

/-- A note reaches voices, lists, glides, the run and the notice queues, and nothing else. -/
theorem sameButNotes_giveNote (p : PartId) (k : Key) (velocity : Nat) (src : Source) (s : State) :
    SameButNotes s (s.giveNote p k velocity src).1 := by
  unfold State.giveNote
  dsimp only
  have h : SameButNotes s (s.countIn p) := (sameButVoices_countWith p _ s).notes
  split
  · exact h.trans (sameButVoices_countRefused p (s.countIn p)).notes
  · split
    · exact h.trans (sameButNotes_polyNote p k _ src _)
    · exact h.trans (sameButNotes_monoNote p k _ src _)

theorem sameButVoices_sustain (v : VoiceId) (s : State) : SameButVoices s (s.sustain v) := by
  unfold State.sustain; split <;> rfl

theorem sameButNotes_polyKeyOff (p : PartId) (k : Key) (s : State) : SameButNotes s (s.polyKeyOff p k).1 := by
  unfold State.polyKeyOff
  split
  · dsimp only
    split
    · exact (sameButVoices_sustain _ s).notes
    · exact (sameButVoices_release _ s).notes.trans (sameButNotes_passZeroWindows _)
  · split
    · rfl
    · split
      · exact (sameButVoices_cancelSuccessor _ s).notes
      · rfl

theorem sameButVoices_dissolve (p : PartId) (s : State) : SameButVoices s (s.dissolve p) := by
  refine (SameButVoices.foldl (fun s v => ?_) _ s).trans (sameButVoices_clearHeld p _)
  split
  · exact sameButVoices_release v s
  · split
    · exact sameButVoices_cancelSuccessor v s
    · rfl
  · rfl

theorem sameButVoices_keepHeld (p : PartId) (held : List HeldKey) (s : State) : SameButVoices s (s.keepHeld p held) := by
  unfold State.keepHeld
  split
  · exact sameButVoices_dissolve p s
  · exact (sameButVoices_setPerf p _ s).trans (sameButVoices_reselect p _)

theorem sameButNotes_monoKeyOff (p : PartId) (k : Key) (s : State) : SameButNotes s (s.monoKeyOff p k).1 := by
  unfold State.monoKeyOff
  dsimp only
  split
  · rfl
  · split
    · rfl
    · split
      · rfl
      · dsimp only
        exact (sameButVoices_keepHeld p _ s).notes.trans (sameButNotes_passZeroWindows _)

/-- A KEY_OFF reaches what a note may reach, and nothing else. -/
theorem sameButNotes_keyOff (p : PartId) (k : Key) (s : State) : SameButNotes s (s.keyOff p k).1 := by
  unfold State.keyOff
  split
  · exact sameButNotes_polyKeyOff p k s
  · exact sameButNotes_monoKeyOff p k s

theorem sameButVoices_holdOff (p : PartId) (s : State) : SameButVoices s (s.holdOff p) := by
  unfold State.holdOff
  split
  · exact sameButVoices_releaseSustained p s
  · dsimp only
    split
    · rfl
    · exact sameButVoices_keepHeld p _ s

theorem sameButVoices_setHold (on : Bool) (p : PartId) (s : State) : SameButVoices s (s.setHold on p) := by
  unfold State.setHold
  split
  · rfl
  · dsimp only
    split
    · rfl
    · exact (sameButVoices_setPerf p _ s).trans (sameButVoices_holdOff p _)

theorem sameButNotes_setHolds (on : Bool) (mask : BitVec 4) (s : State) : SameButNotes s (s.setHolds on mask) :=
  (SameButVoices.foldl (fun s p => sameButVoices_setHold on p s) _ s).notes.trans (sameButNotes_passZeroWindows _)

theorem sameButNotes_allOff (mask : BitVec 4) (s : State) : SameButNotes s (s.allOff mask) :=
  (SameButVoices.foldl (fun s p => sameButVoices_allOffPart s p) _ s).notes.trans (sameButNotes_passZeroWindows _)

/-! ### Link N (R188, R189) -/

/-- LINE_ERROR reaches the line unit and the links, and nothing else. -/
theorem postLineError_frame (s : State) :
    s.postLineError = { s with
      lineUnit := s.postLineError.lineUnit, linkA := s.postLineError.linkA, linkB := s.postLineError.linkB } := by
  unfold State.postLineError State.postWhere; rfl

theorem lineError_frame (k : LineErrorKind) (s : State) :
    s.lineError k = { s with
      lineUnit := (s.lineError k).lineUnit, linkA := (s.lineError k).linkA, linkB := (s.lineError k).linkB } := by
  unfold State.lineError
  dsimp only
  split
  · rfl
  · rw [postLineError_frame]

/-- An error while the pacing timer runs is counted and accumulated; nothing is posted. -/
theorem lineError_of_paced {k : LineErrorKind} {s : State} (h : s.lineUnit.pacing.isSome = true) :
    s.lineError k = { s with lineUnit := { s.lineUnit.count k with
      accumulator := incSat16 s.lineUnit.accumulator, errors := s.lineUnit.errors.add k } } := by
  unfold State.lineError
  cases k <;> simp [LineUnit.count, h]

end Sys2Proof.Machine
end

