-- ==== Sys2Proof/Tests/Slice0.lean ====
section
/-! SUPPORT. Tests: ill-formed commands are refused; frames are read as the catalogue says; single steps give what the
document's worked cases give; and for every hypothesis of a statement a state that meets it. -/

open Sys2Proof Sys2Proof.Machine

namespace Sys2Proof.Tests

set_option Elab.async false

/-! ### Helpers -/

/-- The state after a command, on which every command of this part completes. -/
def after (c : Instr) (s : State) : State :=
  match exec c s with
  | .next t => t
  | _ => s

/-- Bytes from numbers. -/
def bytes (xs : List Nat) : List Byte := xs.map byte

/-- The state right after reset. -/
abbrev s0 : State := State.reset

/-- Reset, with voice v in a phase, playing for a part. -/
def withPhase (v : VoiceId) (p : PartId) (ph : VoicePhase) (s : State) : State :=
  s.setVoice v { s.voice v with phase := ph, part := p }

/-- The note of key 60 with velocity 100. -/
def noteC : Note := { key := 60, velocity := 100 }

/-- V0 sounds key 60 for P0. -/
def sounding : State := withPhase 0 0 (.gated noteC false none) s0

/-- A reply that waits in a link's front end. -/
def someReply : Reply := okReply 0x01 false false []

/-- A morph of CUTOFF of P0 under way: 2000 to 10000 in 1000 ms on the template 100, 512, 924 (4.5). -/
def morph (elapsed : Nat) (curve : Curve) : Morph :=
  { origin := .a
    entries := [{ index := 8, start := 2000, target := 10000, prior := 2000, switched := false }]
    total := 1000, elapsed, curve, taken := 0 }

/-- The part P0 in that morph. -/
def morphingState (elapsed : Nat) : State :=
  { (s0.setSlot 0 (some (morph elapsed .template))) with template := { l1 := 100, l2 := 512, l3 := 924 } }

/-- A measurement of OSC-A of V3 at anchor 3 in a phase (7.10). -/
def measurement (attempt : Nat) (phase : MeasurePhase) : Measurement :=
  { voice := 3, osc := 6, anchor := 3, attempt, phase, timer := 250 }

/-- The current place of a run that measures OSC-A of V3 at anchor 3. -/
def current : Current := { voice := 3, second := false, anchor := 3, aResult := none }

/-- A run over V3 alone. -/
def run (c : Option Current) : Run :=
  { mode := .background, requester := some .a, queue := [], current := c, marks := [(3, false)], passCount := 0
    failCount := 0 }

/-- An empty candidate of oscillator 6. -/
def candidate : CalCandidate := { osc := 6, entries := Vector.replicate 8 none }

/-- V3 is measured in a phase. -/
def measured (attempt : Nat) (phase : MeasurePhase) (counter : Nat) : State :=
  { withPhase 3 0 (.tuning 26624) s0 with
    measurement := some (measurement attempt phase), periodCounter := counter, run := some (run (some current))
    candidate := some candidate }

/-- A line with a parser state and bytes in its FIFO. -/
def lineState (parser : ParserState) (xs : List LineByte) (pacing : Option Nat) : State :=
  { s0 with lineUnit := { s0.lineUnit with parser, fifo := xs, pacing } }

/-- A good byte. -/
def good (n : Nat) : LineByte := { good := true, value := byte n }

/-- Control K0 with a seed. -/
def seeded (x : Seeded) (motion : Motion) : State :=
  { s0.setControl 0 { s0.control 0 with seed := some x, motion } with
    scanner := { s0.scanner with round := some { address := 0, phase := .converting 0 } } }

/-! ### Ill-formed commands -/

theorem smoke_long_payload : (Instr.keyOn .a (List.replicate 251 0)).wf = false := by decide +kernel
theorem smoke_full_payload : (Instr.stageWrite .a (List.replicate 250 0)).wf = true := by decide +kernel
theorem smoke_unknown_empty : (Instr.unknownRequest .a []).wf = false := by decide +kernel
theorem smoke_unknown_is_fetch : (Instr.unknownRequest .a (bytes [0, 0])).wf = false := by decide +kernel
theorem smoke_unknown_is_known : (Instr.unknownRequest .a (bytes [0x53, 0])).wf = false := by decide +kernel
theorem smoke_unknown_code : (Instr.unknownRequest .a (bytes [0x7F, 0])).wf = true := by decide +kernel
theorem smoke_unknown_length : (Instr.unknownRequest .a (bytes [0x53, 1])).wf = true := by decide +kernel
theorem smoke_fetch_none : (Instr.fetch .b 0).wf = false := by decide +kernel
theorem smoke_busy_none : (Instr.requestBusyDiscard .b 0).wf = false := by decide +kernel
theorem smoke_reset_none : (Instr.frameDuringReset .b 0).wf = false := by decide +kernel

/-! ### Frames as the catalogue spells them (R175, R177, R182) -/

theorem test_frame_key_on : decodeFrame .a (bytes [0x01, 3, 0, 60, 100]) = .keyOn .a (bytes [0, 60, 100]) := by
  decide +kernel
theorem test_frame_param_set :
    decodeFrame .b (bytes [0x10, 4, 4, 1, 5, 0]) = .paramSet .b (bytes [4, 1, 5, 0]) := by decide +kernel
theorem test_frame_map_knob : decodeFrame .a (bytes [0x20, 4, 40, 1, 9, 1]) = .mapKnob .a (bytes [40, 1, 9, 1]) := by
  decide +kernel
theorem test_frame_tune_start : decodeFrame .a (bytes [0x30, 3, 1, 0, 0]) = .tuneStart .a (bytes [1, 0, 0]) := by
  decide +kernel
theorem test_frame_voice_read : decodeFrame .a (bytes [0x42, 2, 0, 16]) = .voiceRead .a (bytes [0, 16]) := by
  decide +kernel
theorem test_frame_status : decodeFrame .b (bytes [0x53, 0]) = .status .b [] := by decide +kernel
theorem test_frame_reset_device : decodeFrame .b (bytes [0x62, 0]) = .resetDevice .b [] := by decide +kernel
theorem test_frame_fetch : decodeFrame .a (bytes [0, 0, 0, 0, 0]) = .fetch .a 5 := by decide +kernel
theorem test_frame_short : decodeFrame .a (bytes [0x01]) = .unknownRequest .a (bytes [0x01]) := by decide +kernel
theorem test_frame_unknown : decodeFrame .a (bytes [0x06, 0]) = .unknownRequest .a (bytes [0x06, 0]) := by
  decide +kernel
theorem test_frame_long : decodeFrame .a (bytes [0x53, 251]) = .unknownRequest .a (bytes [0x53, 251]) := by
  decide +kernel

/-! ### Single steps -/

/-- R11, R6: the first note takes V0 with serial 1; R161: position 15360. -/
theorem test_key_on_first_note :
    (after (.keyOn .a (bytes [0, 60, 100])) s0).voice 0 =
        { s0.voice 0 with phase := .gated noteC false none, serial := 1 }
      ∧ ((after (.keyOn .a (bytes [0, 60, 100])) s0).glide 0).position = 15360 := by decide +kernel

/-- R7: velocity 0 is taken as 1, and 200 as 127 with CLAMPED. -/
theorem test_key_on_velocity :
    ((after (.keyOn .a (bytes [0, 60, 0])) s0).voice 0).velocity = 1
      ∧ ((after (.keyOn .a (bytes [0, 60, 200])) s0).voice 0).velocity = 127
      ∧ ((after (.keyOn .a (bytes [0, 60, 200])) s0).link .a).inProcess.map (·.flags.clamped) = some true := by
  decide +kernel

/-- R20: RELEASED with the part's default window of 500 ms. -/
theorem test_key_off : ((after (.keyOff .b (bytes [0, 60])) sounding).voice 0).phase = .released noteC 0 500 := by
  decide +kernel

/-- R44: HOLD of P0 and P3. -/
theorem test_hold :
    (allParts.map fun p => ((after (.hold .a (bytes [9, 1])) s0).perfOf p).hold) = [true, false, false, true] := by
  decide +kernel

/-- R45: HOLD OFF releases a sustained voice, whose release stamp takes the timestamp. -/
theorem test_hold_off :
    let s := (withPhase 0 0 (.gated noteC true none) s0).setPerf 0 { s0.perfOf 0 with hold := true }
    (after (.hold .a (bytes [1, 0])) { s with timestamp := 77 }).voice 0 =
      { s0.voice 0 with phase := .released noteC 77 500, releaseStamp := 77 } := by decide +kernel

/-- R47: 20000 is stored as 16383. -/
theorem test_bend : ((after (.bend .a (bytes [2, 0x20, 0x4E])) s0).perfOf 2).bend = 16383 := by decide +kernel

/-- R25: a mask above 15 is refused with RANGE. -/
theorem test_all_off_range :
    ((after (.allOff .a (bytes [16])) s0).link .a).inProcess = some (refusal 0x05 .range) := by decide +kernel

/-- The table under R54. -/
theorem test_param_set_clamps :
    (after (.paramSet .a (bytes [0, 25, 0, 0])) s0).param 0 25 = 1
      ∧ (after (.paramSet .a (bytes [0, 25, 9, 0])) s0).param 0 25 = 8
      ∧ (after (.paramSet .a (bytes [0, 8, 0x20, 0x4E])) s0).param 0 8 = 16383
      ∧ (after (.paramSet .a (bytes [4, 1, 5, 0])) s0).global 1 = 5
      ∧ (after (.paramSet .a (bytes [4, 6, 50, 0])) s0).global 6 = 100 := by decide +kernel

/-- R56: part, first, count, then 2 bytes and a morphing mark for each parameter. -/
theorem test_param_get :
    ((after (.paramGet .a (bytes [0, 8, 2])) (morphingState 0)).link .a).inProcess.map Reply.data =
      some (bytes [0, 8, 2, 0xFF, 0x3F, 1, 0, 0, 0]) := by decide +kernel

/-- R67: a value is clamped as it is staged. -/
theorem test_stage_write :
    ((after (.stageWrite .b (bytes [25, 0, 0, 2, 0])) s0).link .b).staging[25] = some 1
      ∧ ((after (.stageWrite .b (bytes [25, 0, 0, 2, 0])) s0).link .b).staging[26] = some 2 := by decide +kernel

/-- R68: STAGE_CLEAR of an empty buffer carries NOTHING. -/
theorem test_stage_clear :
    ((after (.stageClear .a []) s0).link .a).inProcess = some (okReply 0x13 false true []) := by decide +kernel

/-- R83: MORPH_CANCEL of an IDLE slot carries NOTHING. -/
theorem test_morph_cancel_idle :
    ((after (.morphCancel .a (bytes [3, 0])) s0).link .a).inProcess.map (·.flags.nothing) = some true := by
  decide +kernel

/-- 4.5: at 300 ms the live CUTOFF is 3421, at 900 ms 9679, and at 1000 ms the morph completes with 10000. -/
theorem test_morph_step :
    (after (.morphStep 0) (morphingState 298)).param 0 8 = 3421
      ∧ (after (.morphStep 0) (morphingState 898)).param 0 8 = 9679
      ∧ (after (.morphStep 0) (morphingState 998)).param 0 8 = 10000
      ∧ (after (.morphStep 0) (morphingState 998)).slotOf 0 = none := by decide +kernel

/-- R75: a level above 1024 is stored as 1024. -/
theorem test_curve_set :
    (after (.curveSet .a (bytes [0, 4, 1, 4, 100, 0])) s0).template = { l1 := 1024, l2 := 1024, l3 := 100 } := by
  decide +kernel

/-- R105: an unseeded control enters with kv(0); CUTOFF of P0 stands at 16383, above it. -/
theorem test_map_knob_catch :
    (after (.mapKnob .a (bytes [5, 0, 8, 1])) s0).knob 5 =
      some { part := 0, index := 8, mode := .catch, pickup := .catchUp } := by decide +kernel

/-- R114: an action above 4 is refused with RANGE. -/
theorem test_map_switch :
    (after (.mapSwitch .a (bytes [63, 4, 3, 0])) s0).switchActions[63] = .allOff 3
      ∧ ((after (.mapSwitch .a (bytes [63, 5, 0, 0])) s0).link .a).inProcess = some (refusal 0x21 .range) := by
  decide +kernel

/-- R104: the knob values of 6.6. -/
theorem test_knob_values :
    knobValue 9 1500 = 6001 ∧ knobValue 9 900 = 3601 ∧ knobValue 9 950 = 3801 ∧ knobValue 9 2048 = 8194
      ∧ knobValue 9 2500 = 10002 := by decide +kernel

/-- R110: the scaled moves of 6.7. -/
theorem test_scaled_values :
    scaleValue 8 12000 1000 1400 = 12566 ∧ scaleValue 8 12566 1400 900 = 8079 ∧ scaleValue 8 8079 900 0 = 0 := by
  decide +kernel

/-- R137: a mask of 0 is refused with RANGE. -/
theorem test_tune_start_range :
    ((after (.tuneStart .a (bytes [0, 0, 0])) s0).link .a).inProcess = some (refusal 0x30 .range) := by decide +kernel

/-- R123, R141: the head of a run is measured at anchor 0 of its OSC-A, with FSEL on it. -/
theorem test_tune_start_head :
    (after (.tuneStart .a (bytes [8, 0, 0])) s0).fsel = 6
      ∧ ((after (.tuneStart .a (bytes [8, 0, 0])) s0).voice 3).phase = .tuning 2048 := by decide +kernel

/-- R147: TUNE_ABORT without a run carries NOTHING. -/
theorem test_tune_abort :
    ((after (.tuneAbort .b []) s0).link .b).inProcess.map (·.flags.nothing) = some true := by decide +kernel

/-- R155: two anchors are too few, and P values 2047 apart too close. -/
theorem test_cal_write_range :
    ((after (.calWrite .a (bytes [0, 1, 0, 1, 0, 8, 0, 40])) s0).link .a).inProcess = some (refusal 0x33 .range)
      ∧ ((after (.calWrite .a (bytes [0, 1, 0, 3, 0, 8, 0xFF, 15, 0, 40, 0, 60])) s0).link .a).inProcess =
        some (refusal 0x33 .range) := by decide +kernel

/-- 7.10: the second edge gives C1 61155 and N 2, and the fourth P 15360. -/
theorem test_measure_middle_c :
    (after (.finEdge 61155) (measured 1 .probe 0)).measurement = some (measurement 1 (.count 61155 2 0))
      ∧ (after (.finEdge 61155) (measured 1 (.count 61155 2 1) 61155)).candidate.map (·.entries[3]) =
        some (some (.passed 15360)) := by decide +kernel

/-- R127: a silent board ends DEAD, and anchor 4 starts with its code 34816. -/
theorem test_measure_dead :
    (after .edgeTimerExpiry (measured 1 .probeWait 0)).candidate.map (·.entries[3]) = some (some .dead)
      ∧ ((after .edgeTimerExpiry (measured 1 .probeWait 0)).voice 3).phase = .tuning 34816 := by decide +kernel

/-- R120: an edge less than 2 ticks after the one that closed an unstable count is not seen. -/
theorem test_edge_after_unstable_count :
    (after (.finEdge 1) (measured 2 .probeWait 0)).measurement = some (measurement 2 .probeWait)
      ∧ (after (.finEdge 2) (measured 2 .probeWait 0)).measurement = some (measurement 2 .probe) := by decide +kernel

/-- R130, R131: the counts of 7.10 to 7.12. -/
theorem test_log_and_pitch :
    logUnit 122310 = 51917 ∧ logUnit 1553270 = 63181 ∧ logUnit 2133333 = 64587 ∧ stableResult 122310 2 = .passed 15360
      ∧ stableResult 122310 32 = .passed 27648 ∧ stableResult 1553270 1 = .passed 1024
      ∧ stableResult 2133333 1 = .outOfRange := by decide +kernel

/-- R125, R129: the choice of N and the unstable attempt of 7.11. -/
theorem test_choose_n_and_stability :
    chooseN 3822 = 32 ∧ chooseN 61155 = 2 ∧ chooseN 65536 = 1 ∧ chooseN 100 = 256 ∧ isStable 130000 32 3822 = false
      ∧ isStable 122310 32 3822 = true := by decide +kernel

/-- R143, R144: the candidates of 8.4. -/
theorem test_kept_runs :
    decideCandidate [some .dead, some (.passed 5130), some (.passed 9210), some (.passed 13300), some (.passed 17390),
        some (.passed 21480), some .unstable, some (.passed 29640)] =
      (.pass, some (.calibrated 1 [5130, 9210, 13300, 17390, 21480]))
    ∧ decideCandidate [some (.passed 1000), some (.passed 5100), some (.passed 9200), some (.passed 13300),
        some (.passed 23000), some (.passed 27000), some (.passed 31000), some (.passed 35000)] =
      (.pass, some (.calibrated 0 [1000, 5100, 9200, 13300]))
    ∧ decideCandidate [some (.passed 1000), some (.passed 5100), some .unstable, some (.passed 13300),
        some (.passed 23000), some .dead, some (.passed 31000), some (.passed 35000)] = (.dead, none) := by
  decide +kernel

/-- R26, R27: a sounding voice is disabled through DAMPING, and an OFFLINE one is enabled. -/
theorem test_voice_disable_enable :
    ((after (.voiceDisable .a (bytes [1, 0])) sounding).voice 0).phase = .damping noteC none true 2
      ∧ ((after (.voiceEnable .a (bytes [2, 0])) (withPhase 1 0 (.offline .fault) s0)).voice 1).phase = .idle := by
  decide +kernel

/-- R183: the 12 bytes of a GATED voice. -/
theorem test_voice_read :
    ((after (.voiceRead .a (bytes [0, 1])) sounding).link .a).inProcess.map Reply.data =
      some (bytes [0, 1, 1, 0, 60, 100, 0, 0, 0, 0, 255, 0, 0, 0]) := by decide +kernel

/-- R191: RESET_DONE stands in slot 0. -/
theorem test_notice_read :
    ((after (.noticeRead .a (bytes [16])) s0).link .a).inProcess.map Reply.data =
      some (bytes [0, 1, 0, 0x40, 0, 0, 0, 15, 0, 0, 0]) := by decide +kernel

/-- R192, R194: acknowledging it releases ATNA; slot 1 is not stored. -/
theorem test_notice_ack :
    (after (.noticeAck .a (bytes [0])) s0).attention .a = false
      ∧ ((after (.noticeAck .a (bytes [1])) s0).link .a).inProcess = some (refusal 0x51 .badIndex) := by decide +kernel

/-- R193: bit 4 is forced on, with CLAMPED. -/
theorem test_notice_config :
    ((after (.noticeConfig .b (bytes [1, 33])) s0).link .b).inProcess = some (okReply 0x52 true false (bytes [17, 32])) :=
  by decide +kernel

/-- R184: STATUS is 183 bytes. -/
theorem test_status : ((after (.status .a []) s0).link .a).inProcess.map (·.data.length) = some 183 := by
  decide +kernel

/-- R183, R184: without a run the queue field, of 16 bits, is 255 with its low byte first. -/
theorem test_status_absent_queue :
    ((after (.status .a []) s0).link .a).inProcess.map (fun r => (r.data.drop 20).take 2) = some (bytes [0xFF, 0]) := by
  decide +kernel

/-- R31: RESET_VOICES brings a sounding voice to IDLE. -/
theorem test_reset_voices : ((after (.resetVoices .a []) sounding).voice 0).phase = .idle := by decide +kernel

/-- R101: RESET_PANEL starts the round after round 1. -/
theorem test_reset_panel : (after (.resetPanel .a []) s0).scanner.roundNumber = 2 := by decide +kernel

/-- R196: a RESET_DEVICE ends with cause 1 and its link in RESET_DONE. -/
theorem test_reset_device :
    ((after .resetEnd (after (.resetDevice .b []) sounding)).link .a).queue.stored =
      [{ kind := .resetDone, subject := 0, value1 := 1, value2 := 1, stamp := 0 }] := by decide +kernel

/-- R196: a power-on reset leaves the reset state. -/
theorem test_power_on_reset :
    after .resetEnd (after .rstbRelease (after .powerOnReset sounding)) = State.reset := by decide +kernel

/-- R178, R180: FETCH of an empty slot shifts out NO_REPLY, and of a busy link PENDING. -/
theorem test_fetch :
    ((after (.fetch .a 5) s0).link .a).shifted = bytes [0xFF, 0, 7, 0, 0]
      ∧ ((after (.fetch .a 5) (after (.status .a []) s0)).link .a).shifted = bytes [0xFF, 0, 8, 0, 0] := by
  decide +kernel

/-- 10.7: a request on a busy link is discarded, and the next reply carries OVERRUN. -/
theorem test_busy_discard :
    ((after (.replyReady .a) (after (.requestBusyDiscard .a 4) (after (.bend .a (bytes [0, 0, 0])) s0))).link .a).slot =
      some { okReply 0x04 false false [] with flags := { clamped := false, nothing := false, overrun := true } } := by
  decide +kernel

/-- 10.4: the line of the worked sequence: BEND of P2 with 0 and 64 is 8192. -/
theorem test_line_bend :
    ((after .parseByte (lineState (.data2 0xD2 0x00) [good 0x40] none)).perfOf 2).bend = 8192
      ∧ (after .parseByte (lineState .waitStatus [good 0xD2] none)).lineUnit.parser = .data1 0xD2 := by decide +kernel

/-- R187: a status byte in a frame is a frame error and starts its own frame. -/
theorem test_line_frame_error :
    (after .parseByte (lineState (.data2 0x91 62) [good 0xA1] none)).lineUnit.parser = .data1 0xA1
      ∧ (after .parseByte (lineState (.data2 0x91 62) [good 0xA1] none)).lineUnit.frameErrors = 1 := by decide +kernel

/-- R186: the seventeenth byte is lost. -/
theorem test_line_overrun :
    (after (.linkNByte true 60) (lineState .waitStatus (List.replicate 16 (good 60)) none)).lineUnit.fifoOverruns = 1 :=
  by decide +kernel

/-- R22: the timeout posts NOTE_DROPPED with reason TIMEOUT to a link subscribed to NOTES. -/
theorem test_defer_timeout :
    let s := (s0.setQueue .a { s0.queueOf .a with mask := 0x11, stored := [] })
    ((after (.deferTimeout 0) { s with
        deferred := [{ part := 1, key := 60, velocity := 9, arrival := 0, timeout := 20 }] }).link .a).queue.stored =
      [{ kind := .noteDropped, subject := 1, value1 := 60, value2 := 2, stamp := 0 }] := by decide +kernel

/-- R17: at damp expiry the successor sounds for its part. -/
theorem test_damp_expiry :
    (after (.dampExpiry 2) (withPhase 2 0
      (.damping noteC (some { part := 3, key := 67, velocity := 120, source := .line, kind := .note }) false 4) s0)).voice 2 =
      { s0.voice 2 with phase := .gated { key := 67, velocity := 120 } false none, part := 3, serial := 1 } := by
  decide +kernel

/-- R90, R91: a STILL control 16 away does not move, 17 away it does. -/
theorem test_conversion_deadband :
    (((after (.controlConversion 2064) ((seeded { filtered := 32768, reported := 2048 } .still).setGlobal 7 0)).control 0).seed.map
        Seeded.reported) = some 2048
      ∧ (((after (.controlConversion 2065) ((seeded { filtered := 32768, reported := 2048 } .still).setGlobal 7 0)).control
          0).seed.map Seeded.reported) = some 2065 := by decide +kernel

/-- R87: an expiry while a round runs is skipped and counted. -/
theorem test_scan_skip : (after .scanPeriodExpiry s0).scanner.skipped = 1 := by decide +kernel

/-- 9.6: a step of 40, and the last step of 32. -/
theorem test_glide_step :
    glideMove 40 15760 15872 = { position := 15800, target := some 15872 }
      ∧ glideMove 40 15840 15872 = { position := 15872, target := none } := by decide +kernel

/-- R166: the codes of 9.8, within a span, below the first anchor, above the last and at an anchor. -/
theorem test_calibrated_codes :
    let m := CalMap.calibrated 0 [1030, 5120, 9205, 13290, 17380, 21470, 25555, 29620]
    pitchCode m 15420 = (30890, none) ∧ pitchCode m 500 = (986, none) ∧ pitchCode m 48000 = (65535, some .high)
      ∧ pitchCode m 17380 = (34816, none) := by decide +kernel

/-- R42, 9.4: the unison offsets, and the low clamp. -/
theorem test_unison_offset :
    unisonOffset 1 4 100 = -33 ∧ unisonOffset 2 4 100 = 33 ∧ pitchCode .nominal 16356 = (32712, none)
      ∧ pitchCode .nominal (-3584) = (0, some .target) := by decide +kernel

/-- R169 and R168: the amplifier example, and the cutoff codes of the table. -/
theorem test_channel_codes :
    vcaFormula 12000 8192 8192 16383 100 = 47118
      ∧ State.cutoffCode (((sounding.setParam 0 8 1000).setParam 0 10 256).setParam 0 11 0) 0 = 4000 := by decide +kernel

/-- R173: the first slot after reset drives code 0, and the slot of PW_A 32768. -/
theorem test_output_slot :
    (after .outputSlot s0).output.dac = 0
      ∧ (after .outputSlot { s0 with output := { s0.output with slot := some 2 } }).output.dac = 32768 := by
  decide +kernel

/-- R197: the timestamp wraps. -/
theorem test_timestamp_wraps : (after .timestampTick { s0 with timestamp := 65535 }).timestamp = 0 := by decide +kernel

/-! ### States that meet the hypotheses of the statements -/

/-- Link A with a request in process. -/
def busyState : State := s0.setLink .a { s0.link .a with inProcess := some someReply }

/-- A reset that runs. -/
def resetting (c : ResetCause) (rstb : Bool) : State := { s0 with resetRun := some (c, 2), rstb }

/-- P0 with a budget of one voice, which V0 takes. -/
def atBudget : State := sounding.setParam 0 pMaxVoices 1

/-- P1 in MONO mode, with key 64 held on V4. -/
def mono : State :=
  withPhase 4 1 (.gated { key := 64, velocity := 90 } false none)
    ((s0.setParam 1 pVoiceMode 1).setPerf 1 { s0.perfOf 1 with
      held := [{ key := 64, velocity := 90, source := .line, sustained := false }], selected := some 64
      monoSet := [4], wanted := some 1 })

/-- A run without a voice TUNING. -/
def runState (c : Option Current) : State := { s0 with run := some (run c) }

/-- V0 sounds under the hold flag of P0. -/
def held : State := sounding.setPerf 0 { s0.perfOf 0 with hold := true }

/-- A deferred entry for key 61 of P1. -/
def entry : Deferred := { part := 1, key := 61, velocity := 9, arrival := 0, timeout := 20 }

/-- A successor for key 67 of P3. -/
def successor (kind : SuccessorKind) : Successor := { part := 3, key := 67, velocity := 120, source := .line, kind }

/-- V9 damps, for a successor or for none. -/
def damping (su : Option Successor) (dp : Bool) : State := withPhase 9 0 (.damping noteC su dp 2) s0

/-- P1 in a voice mode, with no key held and a voice mask. -/
def firstKeyState (mode maskLow maskHigh : Nat) (s : State) : State :=
  ((s.setParam 1 pVoiceMode mode).setParam 1 pMaskLo maskLow).setParam 1 pMaskHi maskHigh

/-- V8 fades with a window of 500 ms. -/
def fadingState : State := withPhase 8 0 (.released noteC 3 500) s0

/-- Link A has staged CUTOFF. -/
def staged : State := after (.stageWrite .a (bytes [8, 0x10, 0x27])) s0

/-- A link that has taken and answered a request. -/
def answered (s : State) : State := after (.replyReady .a) s

/-- A state whose step answers a next state. -/
def ticking : State := { s0 with pending := [.timestampTick] }

theorem witness_StepTakesFrontCommand : ticking.pending = .timestampTick :: [] := by
  decide +kernel

theorem ticking_steps : step ticking = .next { s0 with timestamp := 1 } := by rfl

theorem ticking_inRange : ticking.InRange :=
  { params := by unfold inRange; decide +kernel
    globals := by decide +kernel
    staging := by
      have h : ∀ l (i : ParamId), (ticking.link l).staging[i] = none := by intro l; cases l <;> decide +kernel
      intro l i x hx; simp [h l i] at hx
    slots := by
      have h : ∀ p, ticking.slotOf p = none := by decide +kernel
      intro p m hm; simp [h p] at hm
    template := by decide +kernel
    controls := by
      have h : ∀ k, (ticking.control k).seed = none := by decide +kernel
      intro k x hx; simp [h k] at hx }

theorem witness_StepKeepsCapacities :
    ticking.Bounded ∧ ticking.InRange ∧ step ticking = .next { s0 with timestamp := 1 } :=
  ⟨{ linkA := by unfold LinkUnit.good NoticeQueue.good; decide +kernel
     linkB := by unfold LinkUnit.good NoticeQueue.good; decide +kernel
     lineUnit := by unfold LineUnit.good; decide +kernel
     deferred := by decide +kernel
     perf := by
       have h : ∀ p, ticking.perfOf p = Perf.atReset := by decide +kernel
       intro p; rw [h p]; simp [Perf.good, Counters.good, Perf.atReset]
     slots := by
       have h : ∀ p, ticking.slotOf p = none := by decide +kernel
       intro p m hm; simp [h p] at hm
     controls := by
       have h : ∀ k, ticking.control k = Control.atReset := by decide +kernel
       intro k; rw [h k]; simp [Control.good, Control.atReset]
     switches := by
       have h : ∀ i : SwitchId, ticking.switches[i] = none := by decide +kernel
       intro i x hx; simp [h i] at hx
     skipped := by decide +kernel
     counter := by decide +kernel
     measurement := by intro m hm; simp [ticking, State.reset] at hm
     run := by intro r hr; simp [ticking, State.reset] at hr
     candidate := by intro c hc; simp [ticking, State.reset] at hc
     calibration := by
       have h : ∀ o, ticking.cal o = { map := .nominal, lastResult := .none, unstableCount := 0, tuneCount := 0 } := by
         decide +kernel
       intro o; rw [h o]; simp [CalRecord.good]
     glides := by
       have h : ∀ v, ticking.glide v = { position := 0, target := none } := by decide +kernel
       intro v; simp [h v] }, ticking_inRange, ticking_steps⟩

theorem witness_StepKeepsValuesInRange : ticking.InRange ∧ step ticking = .next { s0 with timestamp := 1 } :=
  ⟨ticking_inRange, ticking_steps⟩

theorem witness_StepKeepsNoteBalance : ticking.Balanced ∧ step ticking = .next { s0 with timestamp := 1 } :=
  ⟨{ notes := by
       intro p; refine Or.inr ?_; revert p; decide +kernel
     current := by
       intro r c hr; simp [ticking, State.reset] at hr }, ticking_steps⟩

theorem witness_StepKeepsZeroWindowsExpired :
    ticking.Settled ∧ step ticking = .next { s0 with timestamp := 1 } := ⟨by decide +kernel, ticking_steps⟩

theorem witness_FrameOfCommandReadsBack :
    (Instr.keyOn .b (bytes [0, 60, 100])).wf = true
      ∧ encodeFrame (.keyOn .b (bytes [0, 60, 100])) = some (.b, bytes [1, 3, 0, 60, 100]) := by
  and_intros <;> decide +kernel

theorem witness_BusyAndResetFramesAreDiscarded_busy :
    Given.busy busyState .a ∧ Given.requestFrame (bytes [0x7F]) ∧ 1 ≤ 1 := by and_intros <;> decide +kernel

theorem witness_BusyAndResetFramesAreDiscarded_reset :
    (resetting .powerOn false).resetRun.isSome = true ∧ Given.requestFrame (bytes [1]) := by
  and_intros <;> decide +kernel

theorem witness_RepliesAreFetchedAndPlaced_empty : s0.resetRun = none ∧ (s0.link .a).slot = none := by
  and_intros <;> decide +kernel
theorem witness_RepliesAreFetchedAndPlaced_pending :
    busyState.resetRun = none ∧ (busyState.link .a).inProcess = some someReply ∧ (s0.link .b).inProcess = none := by
  and_intros <;> decide +kernel
theorem witness_RepliesAreFetchedAndPlaced_held :
    (answered busyState).resetRun = none ∧ ((answered busyState).link .a).slot = some someReply := by
  and_intros <;> decide +kernel

theorem witness_FailedFrameChecksAreRefused_frame :
    s0.ready .a ∧ byte 0x7F ≠ 0x00#8 ∧ Request.ofCode (byte 0x7F) = none := by and_intros <;> decide +kernel

/-- A malformed frame: no length byte, a length of 251, a length that is not the payload's. -/
theorem witness_FailedFrameChecksAreRefused_malformed :
    s0.ready .a ∧ 250 < ((bytes [251]).headD 0).toNat
      ∧ (bytes [1, 0, 0]).length ≠ 1 + ((bytes [1, 0, 0]).headD 0).toNat := by and_intros <;> decide +kernel

theorem witness_FailedFrameChecksAreRefused_payload :
    s0.ready .b ∧ lengthOk .keyOn (bytes [0, 60]) = false ∧ lengthOk .stageWrite (bytes [0, 1]) = false
      ∧ lengthOk .calWrite (bytes [0, 1, 0, 3, 0, 8]) = false ∧ lengthOk .calWrite (bytes [0, 0, 0]) = false
      ∧ lengthOk .calWrite (bytes [0, 0]) = true ∧ lengthOk .calWrite (bytes [0, 1, 3, 3, 0, 8]) = true := by
  and_intros <;> decide +kernel

/-- Each status that a request of the right length may have, at the boundaries of its operands. -/
theorem witness_FailedFrameChecksAreRefused_status :
    s0.ready .a
      ∧ (∀ x ∈ [(Request.keyOn, [4, 0, 1]), (.keyOn, [3, 128, 1]), (.keyOff, [0, 128]), (.hold, [0, 1]),
            (.hold, [16, 1]), (.hold, [1, 2]), (.bend, [4, 0, 0]), (.allOff, [0]), (.paramSet, [3, 40, 0, 0]),
            (.paramSet, [4, 16, 0, 0]),
            (.paramSet, [5, 0, 0, 0]), (.paramGet, [0, 0, 0]), (.paramGet, [3, 39, 2]), (.paramGet, [4, 15, 2]),
            (.stageWrite, [39, 0, 0, 0, 0]), (.apply, [4, 0, 0, 0]), (.apply, [0, 0, 0, 2]), (.morphCancel, [0, 2]),
            (.mapKnob, [128, 15, 0, 0]), (.mapKnob, [0, 4, 0, 0]), (.mapKnob, [0, 3, 39, 3]),
            (.mapSwitch, [64, 0, 0, 0]), (.mapSwitch, [0, 3, 16, 0]), (.panelRead, [0, 0, 33]), (.panelRead, [1, 63, 2]),
            (.panelRead, [2, 0, 1]),
            (.tuneStart, [0, 0, 0]), (.tuneStart, [1, 0, 2]), (.calRead, [32]), (.calWrite, [0, 2]),
            (.calWrite, [0, 1, 0, 2, 0, 0, 0, 8, 0, 16]), (.voiceEnable, [0, 0]), (.voiceRead, [15, 2]),
            (.noticeConfig, [32, 1])],
          lengthOk x.1 (bytes x.2) = true ∧ Given.statusOf s0 .a x.1 (bytes x.2) = .range)
      ∧ Given.statusOf (runState none) .a .tuneStart (bytes [1, 0, 0]) = .tuneBusy
      ∧ Given.statusOf (measured 1 .settle 0) .a .calWrite (bytes [7, 0]) = .voiceBusy
      ∧ Given.statusOf s0 .a .noticeAck (bytes [1]) = .badIndex
      ∧ (∀ x ∈ [(Request.keyOn, [3, 127, 0]), (.hold, [15, 1]), (.paramSet, [4, 15, 0, 0]), (.paramGet, [3, 39, 1]),
            (.stageWrite, [39, 0, 0]), (.mapKnob, [127, 3, 39, 2]), (.mapKnob, [0, 15, 255, 255]),
            (.panelRead, [0, 96, 32]), (.tuneStart, [0, 128, 1]), (.calWrite, [31, 1, 4, 7, 0, 0, 0, 8, 0, 40, 0, 48]),
            (.noticeAck, [0]), (.noticeConfig, [31, 0]), (.stageClear, [])],
          lengthOk x.1 (bytes x.2) = true ∧ Given.statusOf s0 .a x.1 (bytes x.2) = .ok) := by
  unfold Given.statusOf; and_intros <;> decide +kernel

theorem witness_RefusalsAndReadingsChangeNothing_refused :
    s0.ready .a ∧ exec (commandOf .a (bytes [4, 60, 1]) .keyOn) s0 = .next (after (.keyOn .a (bytes [4, 60, 1])) s0)
      ∧ ((after (.keyOn .a (bytes [4, 60, 1])) s0).link .a).inProcess = some (refusal 0x01 .range) :=
  ⟨by decide +kernel, rfl, by decide +kernel⟩

theorem witness_RequestLeavesOtherLinkAlone :
    Request.bend ≠ .resetDevice
      ∧ exec (commandOf .a (bytes [0, 0, 0]) .bend) s0 = .next (after (.bend .a (bytes [0, 0, 0])) s0) :=
  ⟨by decide, rfl⟩

theorem witness_KeyOnTakesIdleOrSoundingVoice_idle :
    Given.keyOnIdle s0 .a 0 0 0 ∧ Given.keyOnIdle sounding .b 0 127 1 := by and_intros <;> decide +kernel

/-- A key that sounds already, under REUSE and under NEW. -/
theorem witness_KeyOnTakesIdleOrSoundingVoice_same :
    let new := sounding.setParam 0 pRetrigger 1
    Given.keyOnSame sounding .b 0 60 0 noteC false none ∧ sounding.param 0 pRetrigger = 0
      ∧ Given.keyOnSame held .a 0 60 0 noteC false none
      ∧ Given.keyOnSame new .a 0 60 0 noteC false none ∧ new.param 0 pRetrigger ≠ 0 ∧ new.Settled
      ∧ new.param 0 pReleaseWindow ≠ 0 := by and_intros <;> decide +kernel

theorem witness_KeyOnFilteredIsCountedRefused :
    Given.keyOnFiltered (s0.setParam 2 pPartEnable 0) .a 2 60 ∧ Given.keyOnFiltered (s0.setParam 2 pKeyLow 61) .a 2 60
      ∧ Given.keyOnFiltered (s0.setParam 2 pKeyHigh 59) .a 2 60
      ∧ Given.keyOnFiltered (s0.setParam 2 pMaxVoices 0) .a 2 60
      ∧ Given.keyOnFiltered { s0 with deferred := [entry] } .a 1 61
      ∧ Given.keyOnFiltered (damping (some (successor .note)) false) .b 3 67 := by and_intros <;> decide +kernel

/-- `Given.prefers` as a condition that can be decided. -/
theorem prefers_iff (s : State) (p : PartId) (v w : VoiceId) :
    Given.prefers s p v w ↔
      if s.param p pStealPolicy = 0 then
        if w < v then isOlder (s.voice v).serial (s.voice w).serial = true
        else isOlder (s.voice w).serial (s.voice v).serial = false
      else if s.param p pStealPolicy = 1 then
        (s.voice v).velocity < (s.voice w).velocity ∨ ((s.voice v).velocity = (s.voice w).velocity ∧ v ≤ w)
      else if s.param p pStealPolicy = 2 then
        (s.voice v).key < (s.voice w).key ∨ ((s.voice v).key = (s.voice w).key ∧ v ≤ w)
      else (s.voice w).key < (s.voice v).key ∨ ((s.voice v).key = (s.voice w).key ∧ v ≤ w) := by
  unfold Given.prefers; dsimp only; split <;> simp_all

/-- A RELEASED voice below the budget; under each policy a victim of the part, and one of another part. -/
theorem witness_KeyOnStealsDefersOrDrops_steals :
    let two := (withPhase 1 0 (.gated { key := 64, velocity := 100 } false none) sounding).setParam 0 pMaxVoices 2
    let other := (withPhase 8 2 (.gated noteC true (some 5)) (firstKeyState 0 0 1 s0)).setParam 2 pReserve 0
    Given.keyOnReleased (firstKeyState 0 0 1 fadingState) .a 1 60 8 noteC
      ∧ Given.keyOnSteal atBudget .a 0 64 0 noteC
      ∧ Given.keyOnSteal (two.setParam 0 pStealPolicy 1) .b 0 65 0 noteC
      ∧ Given.keyOnSteal (two.setParam 0 pStealPolicy 2) .b 0 65 0 noteC
      ∧ Given.keyOnSteal (two.setParam 0 pStealPolicy 3) .b 0 65 1 { key := 64, velocity := 100 }
      ∧ Given.keyOnSteal other .b 1 60 8 noteC := by
  simp only [Given.keyOnSteal, prefers_iff]; and_intros <;> decide +kernel

/-- V4 of the mono set of P1, which its steal for P0 empties; a RELEASED voice that a set of two still lists. -/
theorem witness_KeyOnStealsDefersOrDrops_set :
    let s := ((mono.setParam 0 pMaskLo 16).setParam 0 pMaskHi 0).setParam 1 pReserve 0
    let shared := (s.setVoice 4 { s.voice 4 with phase := .released noteC 3 500 }).setPerf 1
      { s.perfOf 1 with monoSet := [4, 5] }
    Given.keyOnSteal s .a 0 60 4 { key := 64, velocity := 90 }
      ∧ Given.leftSet (s.perfOf 1) (· == 4)
        = { s.perfOf 1 with held := [], selected := none, monoSet := [], wanted := none }
      ∧ Given.keyOnReleased shared .a 0 60 4 noteC
      ∧ Given.leftSet (shared.perfOf 1) (· == 4) = { shared.perfOf 1 with monoSet := [5] } := by
  simp only [Given.keyOnSteal, prefers_iff]; and_intros <;> decide +kernel

/-- P1 may use V9 alone, which damps; the list has room, is full, or is not used. -/
theorem witness_KeyOnStealsDefersOrDrops_none :
    let s := firstKeyState 0 0 2 (damping none false)
    let full : State := { s with deferred := List.replicate 8 entry }
    let off := s.setParam 1 pDeferEnable 0
    let out := firstKeyState 0 0 2 (withPhase 9 0 (.offline .fault) s0)
    Given.keyOnNone s .a 1 60 ∧ Given.mayDefer s 1 ∧ s.deferred.length < 8
      ∧ Given.keyOnNone full .a 1 60 ∧ Given.mayDefer full 1 ∧ 8 ≤ full.deferred.length
      ∧ Given.keyOnNone off .a 1 60 ∧ ¬Given.mayDefer off 1 ∧ Given.keyOnNone out .b 1 60 ∧ ¬Given.mayDefer out 1 := by
  and_intros <;> decide +kernel

theorem witness_MonoKeyOnStoresKeyAtTail : Given.monoKeyOn mono .a 1 64 ∧ Given.monoKeyOn mono .b 1 127 := by
  and_intros <;> decide +kernel

/-- V0 and V1 sound for P2, whose RESERVE is 1, over a state. -/
def lent (s : State) : State :=
  (withPhase 1 2 (.gated { key := 61, velocity := 80 } false none)
    (withPhase 0 2 (.gated noteC false none) s)).setParam 2 pReserve 1

/-- The first pick of a MONO part: an IDLE voice, a RELEASED one, a victim of another part, and none. -/
theorem witness_FirstKeyObtainsMonoSet_mono :
    let idle := firstKeyState 1 255 255 s0
    let fading := firstKeyState 1 0 1 fadingState
    let steals := firstKeyState 1 3 0 (lent s0)
    let none := firstKeyState 1 0 1 (withPhase 8 1 (.offline .disabled) s0)
    (Given.firstKey idle .a 1 127 ∧ idle.load 1 < idle.param 1 pMaxVoices ∧ Given.oldestIdle idle 1 0)
      ∧ (Given.firstKey fading .b 1 0 ∧ Given.takesReleased fading 1 8)
      ∧ (Given.firstKey steals .a 1 60 ∧ Given.takesVictim steals 1 [] 0)
      ∧ Given.firstKey none .b 1 60 ∧ Given.noFreeVoice none 1 ∧ ∀ v, ¬Given.setVictim none 1 [] v := by
  simp only [Given.takesVictim, prefers_iff]; and_intros <;> decide +kernel

/-- The second pick of a UNISON part that wants two voices: an IDLE voice after an IDLE one, a victim after an IDLE one,
and none after a steal, when the load of the other part stands at its RESERVE. -/
theorem witness_FirstKeyObtainsMonoSet_unison :
    let e : HeldKey := { key := 60, velocity := 100, source := .ofLink .a, sustained := false }
    let su : Successor := { part := 1, key := 60, velocity := 100, source := .ofLink .a, kind := .set }
    let idle := firstKeyState 2 255 255 s0
    let mixed := firstKeyState 2 5 0 (lent s0)
    let steals := firstKeyState 2 3 0 (lent s0)
    min (s0.param 1 pUnisonCount) (s0.param 1 pMaxVoices) = 2
      ∧ (Given.firstKey idle .a 1 60 ∧ Given.oldestIdle idle 1 0 ∧ Given.oldestIdle (Given.sounds idle 1 e 0) 1 1)
      ∧ (Given.firstKey mixed .a 1 60 ∧ Given.oldestIdle mixed 1 2
        ∧ Given.takesVictim (Given.sounds mixed 1 e 2) 1 [2] 0)
      ∧ Given.firstKey steals .b 1 60 ∧ Given.takesVictim steals 1 [] 0
        ∧ Given.noFreeVoice (Given.stolen steals 1 su 0) 1
        ∧ ∀ v, ¬Given.setVictim (Given.stolen steals 1 su 0) 1 [0] v := by
  simp only [Given.takesVictim, prefers_iff]; and_intros <;> decide +kernel

/-- An entry of a held-key list. -/
def heldKey (k : Key) (sustained : Bool) : HeldKey := { key := k, velocity := 90, source := .line, sustained }

/-- P1 holds keys on the set V4, which sounds, and V5, which damps for it. -/
def monoHolding (keys : List HeldKey) (hold : Bool) : State :=
  withPhase 5 0 (.damping noteC (some { part := 1, key := 64, velocity := 90, source := .line, kind := .set }) false 2)
    (mono.setPerf 1 { mono.perfOf 1 with held := keys, monoSet := [4, 5], wanted := some 2, hold, bound := [5] })

/-- A list that becomes empty, one whose last key follows, and one whose selected key stays. -/
theorem witness_MonoSetFollowsAndDissolves_key :
    let s := monoHolding [heldKey 60 false, heldKey 64 false] false
    Given.setSounds mono .a 1 ∧ Given.setSounds s .b 1
      ∧ ((mono.perfOf 1).held.filter fun x => x.key != 64) = [] ∧ (∃ x ∈ (s.perfOf 1).held, x.key = 64)
      ∧ (∀ x ∈ (s.perfOf 1).held, x.key = 64 → x.sustained = false)
      ∧ ¬((s.perfOf 1).hold = true ∧ s.param 1 pHoldEnable = 1)
      ∧ (s.perfOf 1).selected ≠ some 60 ∧ (s.perfOf 1).selected = some 64 := by and_intros <;> decide +kernel

/-- A repeated selected key, and another key, on a set that sounds. -/
theorem witness_MonoKeyOnStoresKeyAtTail_set :
    let s := (monoHolding [heldKey 60 false, heldKey 64 false] false)
    Given.monoKeyOn s .a 1 64 ∧ Given.goodSet s 1 ∧ (s.perfOf 1).selected = some 64 ∧ s.param 1 pLegato = 0
      ∧ Given.selects 0 [heldKey 60 false, heldKey 64 false] (heldKey 64 false)
      ∧ Given.monoKeyOn s .b 1 60 ∧ Given.selects 0 [heldKey 64 false, heldKey 60 false] (heldKey 60 false) := by
  simp only [Given.selects]; and_intros <;> decide +kernel

theorem witness_MonoSetFollowsAndDissolves_selected :
    Given.selects 0 [heldKey 64 false, heldKey 60 false] (heldKey 60 false)
      ∧ Given.selects 1 [heldKey 64 false, heldKey 60 false] (heldKey 60 false)
      ∧ Given.selects 2 [heldKey 64 false, heldKey 60 false] (heldKey 64 false) := by
  simp only [Given.selects]; and_intros <;> decide +kernel

theorem witness_MonoSetFollowsAndDissolves_hold :
    let s := monoHolding [heldKey 60 false, heldKey 64 true] true
    Given.setSounds s .a 1 ∧ (s.perfOf 1).hold = true ∧ (s.perfOf 1).held ≠ [] ∧ s.param 1 pHoldEnable = 1
      ∧ (∃ x ∈ (s.perfOf 1).held, x.key = 60) ∧ (∀ x ∈ (s.perfOf 1).held, x.key = 60 → x.sustained = false)
      ∧ ∀ x ∈ (s.perfOf 1).held, x.key = 64 → x.sustained = true := by and_intros <;> decide +kernel

theorem witness_KeyOffReleasesSustainsOrIsIgnored_held : Given.keyOffHeld held .a 0 60 0 noteC none := by
  decide +kernel
theorem witness_KeyOffReleasesSustainsOrIsIgnored_free : Given.keyOffFree sounding .a 0 60 0 noteC none := by
  decide +kernel

theorem witness_KeyOffReleasesSustainsOrIsIgnored_unmatched :
    Given.keyOffNothing sounding .a 0 61 ∧ Given.keyOffNothing s0 .b 3 127 := by
  and_intros <;> decide +kernel

/-- A deferred entry behind another one, and a successor. -/
theorem witness_KeyOffReleasesSustainsOrIsIgnored_cancelled :
    Given.keyOffDeferred { s0 with deferred := [{ entry with key := 62 }, entry] } .a 1 61 1 entry
      ∧ Given.keyOffWaiting (damping (some (successor .note)) true) .b 3 67 9 noteC (successor .note) true 2
      ∧ Given.keyOffNothing (damping (some (successor .set)) false) .a 3 67 := by and_intros <;> decide +kernel

theorem witness_HoldSetsAndClearsFlags :
    Given.partMask s0 .a 1 ∧ Given.partMask sounding .b 15 ∧ Given.holdOff held .a 0 := by
  and_intros <;> decide +kernel

theorem witness_SettingRequestsStoreClampedValues_bend : s0.ready .a ∧ 65535 < 65536 := by and_intros <;> decide +kernel

theorem witness_AllOffSilencesNamedParts :
    sounding.ready .a ∧ (15 : BitVec 4) ≠ 0 ∧ Given.opensWindows sounding 15 ∧ Given.silent sounding 0 = false
      ∧ Given.silent sounding 1 = true ∧ Given.opensWindows { mono with deferred := [entry] } 2
      ∧ Given.opensWindows (sounding.setParam 1 pReleaseWindow 0) 13 := by and_intros <;> decide +kernel

theorem witness_ParamSetStoresClampedValue :
    Given.plainParam s0 .a 0 0 ∧ Given.plainParam (morphingState 0) .b 0 9 ∧ Given.plainParam s0 .a 3 38 := by
  and_intros <;> decide +kernel

theorem witness_StageWriteStoresClampedRun :
    Given.stageRun s0 .a 39 [65535] ∧ Given.stageRun s0 .b 0 (List.replicate 40 7) := by
  and_intros <;> decide +kernel

theorem witness_ApplyStartsMorphChain :
    Given.chainStart (answered staged) .a 0 1 ∧ Given.chainStart (answered staged) .a 3 20000
      ∧ Given.chainStart (answered staged) .a 2 65535 ∧ min 20000 65535 = 20000 := by
  and_intros <;> decide +kernel

theorem witness_StructuralWritesClearOrReselect_noStage :
    (∀ i ∈ [pVoiceMode, pKeyLow, pKeyHigh, pReserve, pPartEnable, pMaxVoices, pKeyPriority],
        Given.structWrite s0 .a 3 i)
      ∧ Given.noStage s0 3 pVoiceMode 0 ∧ Given.noStage s0 3 pKeyHigh 60
      ∧ Given.noStage (s0.setParam 3 pReserve 16) 3 pReserve 0
      ∧ Given.noStage (s0.setParam 3 pPartEnable 0) 3 pPartEnable 1 ∧ Given.noStage sounding 0 pMaxVoices 1
      ∧ Given.noStage s0 3 pKeyPriority 2 := by
  unfold Given.noStage; and_intros <;> decide +kernel

theorem witness_StructuralWritesClearOrReselect_stages :
    Given.structWrite mono .b 1 pVoiceMode ∧ Given.structWrite mono .b 1 pPartEnable
      ∧ Given.structWrite mono .b 1 pKeyPriority ∧ Given.clearsPart mono 1 pVoiceMode 2
      ∧ Given.clearsPart mono 1 pPartEnable 0
      ∧ Given.changesPriority (monoHolding [heldKey 60 false, heldKey 64 false] false) 1 pKeyPriority 1 := by
  unfold Given.clearsPart; and_intros <;> decide +kernel

/-- V9 damps with a successor of P3, which its binding order lists. -/
def bindingState : State :=
  (withPhase 9 0 (.damping noteC (some (successor .note)) false 2) s0).setPerf 3 { s0.perfOf 3 with bound := [9] }

theorem witness_StructuralWritesFitMaskAndBudget_lowered :
    Given.structWrite mono .a 1 pMaskLo ∧ Given.changesMask mono 1 pMaskLo 0 ∧ Given.changesMask sounding 0 pMaskHi 0
      ∧ Given.structWrite bindingState .b 3 pMaxVoices ∧ Given.lowersBudget bindingState 3 pMaxVoices 0
      ∧ Given.lowersBudget sounding 0 pMaxVoices 0 := by and_intros <;> decide +kernel

/-- A deferred entry of P1 that the new value serves, and one that it does not. -/
theorem witness_StructuralWritesFitMaskAndBudget_raised :
    let s : State := { s0.setParam 1 pMaxVoices 0 with deferred := [entry] }
    Given.structWrite s .a 1 pMaxVoices ∧ Given.raisesBudget s 1 pMaxVoices 16 entry
      ∧ Given.raisesBudget s 0 pReserve 1 entry ∧ s.param 1 pMaxVoices ≤ s.load 1
      ∧ s.load 1 < 16 ∧ s.inMask 1 0 = true ∧ (s.voice 0).phase = .idle := by and_intros <;> decide +kernel

/-- CUTOFF staged on Link A while P0 is MORPHING. -/
def stagedMorph : State := (answered staged).setSlot 0 (some (morph 2 .linear))

theorem witness_AppliesActOnRunningMorphs :
    Given.morphingParam (morphingState 0) .a 0 8 (morph 0 .template) ∧ Given.stagesNothing s0 .b
      ∧ Given.stagesMorph stagedMorph .a ∧ (∀ m ∈ stagedMorph.slotOf 0, m.taken ≤ 255 ∧ m.entries ≠ [])
      ∧ Given.retargets stagedMorph .a 0 1 (morph 2 .linear)
      ∧ Given.retargets stagedMorph .a 0 20000 (morph 2 .linear)
      ∧ Given.retargets stagedMorph .a 0 65535 (morph 2 .linear) := by
  and_intros <;> decide +kernel

/-- Link A has staged one STRUCT value beside CUTOFF or alone, over a state. -/
def stagedStruct (i : ParamId) (y : Nat) (cutoff : Bool) (s : State) : State :=
  let one := answered (after (.stageWrite .a (byte i :: field16 y)) s)
  if cutoff then answered (after (.stageWrite .a (bytes [8, 0x10, 0x27])) one) else one

/-- STRUCT entries alone and beside CUTOFF, which starts a chain or retargets one. -/
theorem witness_AppliesActOnRunningMorphs_struct :
    let both := stagedStruct pVoiceMode 1 true s0
    Given.stagesStruct (stagedStruct pVoiceMode 1 false s0) .a ∧ Given.stagedCounts both .a = (2, 1)
      ∧ Given.stagesMorph both .a ∧ Given.chainStart both .a 3 1000
      ∧ Given.retargets (both.setSlot 0 (some (morph 2 .linear))) .a 0 1000 (morph 2 .linear) := by
  and_intros <;> decide +kernel

/-- V0 sounds for P0, whose release window is 0, under the claim of a run that waits for it. -/
def claimedSounding : State :=
  { (sounding.setClaim 0 true).setParam 0 pReleaseWindow 0 with run := some { run none with queue := [0] } }

/-- A staged VOICE_MODE beside CUTOFF, whose reconcile sends V0 TUNING. -/
theorem witness_ApplyStartsMorphChain_claimed :
    Given.chainStart (stagedStruct pVoiceMode 1 true claimedSounding) .a 0 1000
      ∧ Given.stagesStruct (stagedStruct pVoiceMode 1 false claimedSounding) .a ∧ claimedSounding.Settled := by
  and_intros <;> decide +kernel

/-- R60, R20, R29, R141: the voice released with a window of 0 goes TUNING under its claim and is measured. -/
theorem test_apply_frees_claimed :
    let t := after (.apply .a (bytes [0, 0, 0, 0])) (stagedStruct pVoiceMode 1 false claimedSounding)
    (t.voice 0).phase = .tuning 2048 ∧ (t.run.bind Run.current).map Current.voice = some 0 := by decide +kernel

/-- R69: a time above 20000 is answered as 20000, with CLAMPED. -/
theorem test_apply_clamps_time :
    ((after (.apply .a (bytes [0, 255, 255, 0])) (answered staged)).link .a).inProcess =
      some (okReply 0x14 true false (bytes [0, 0x20, 0x4E, 1, 0, 1])) := by decide +kernel

/-- What `Given.structStage` asks of a staged change: one value that changes, one that does not, one without a stage,
and one that clears its part, alone and beside KEY_PRIORITY. -/
theorem witness_AppliesActOnRunningMorphs_stage :
    let clears := stagedStruct pVoiceMode 0 false mono
    let disables := stagedStruct pKeyPriority 1 false (stagedStruct pPartEnable 0 false mono)
    (clears.link .a).staging[pVoiceMode] = some 0 ∧ (descriptor pVoiceMode).cls = .struct
      ∧ (∀ i : ParamId, i ≠ pVoiceMode → (clears.link .a).staging[i] = none)
      ∧ inRange pVoiceMode 0 ∧ 0 ≠ clears.param 1 pVoiceMode ∧ 0 = clears.param 0 pVoiceMode
      ∧ Given.clearsPart clears 1 pVoiceMode 0 ∧ clears.Settled ∧ clears.param 1 pReleaseWindow ≠ 0
      ∧ Given.ownRecords clears 1 ∧ (∀ d ∈ clears.deferred, d.part = 1) ∧ ¬Given.mayOffer clears 1 pVoiceMode 0
      ∧ Given.noStage s0 3 pKeyHigh 60 ∧ Given.clearsPart disables 1 pPartEnable 0
      ∧ (disables.link .a).staging[pKeyPriority] = some 1 ∧ 1 ≠ disables.param 1 pKeyPriority
      ∧ Given.ownRecords disables 1 := by
  unfold Given.noStage Given.clearsPart inRange; and_intros <;> decide +kernel

/-- K0 bound to CUTOFF of P0, with a pickup state. -/
def boundControl (pickup : Pickup) (s : State) : State :=
  { s with knobs := s.knobs.set 0 (some { part := 0, index := 8, mode := .catch, pickup }) }

theorem witness_MorphCancelStopsChain :
    Given.cancel (morphingState 2) .b 0 (morph 2 .template) ∧ Given.cancelIdle (morphingState 2) .b 1
      ∧ Given.cancel (boundControl .live (morphingState 2)) .a 0 (morph 2 .template) := by
  and_intros <;> decide +kernel

theorem witness_SettingRequestsStoreClampedValues_curve : s0.ready .a ∧ 0 < 65536 ∧ 1024 < 65536 ∧ 65535 < 65536 := by
  and_intros <;> decide +kernel

theorem witness_MorphStepWritesCurveValues :
    Given.midStep (morphingState 996) 0 (morph 996 .template)
      ∧ Given.lastStep (morphingState 998) 0 (morph 998 .template)
      ∧ Given.lastStep (boundControl .catchUp (morphingState 998)) 0 (morph 998 .template)
      ∧ (descriptor 8).cls = .cont := by and_intros <;> decide +kernel

/-- A morph of BEND_RANGE, a STEP parameter, from 2 to 12. -/
def stepMorph (elapsed : Nat) (switched : Bool) : Morph :=
  { morph elapsed .linear with entries := [{ index := 19, start := 2, target := 12, prior := 2, switched }] }

/-- Below phi 512, at it, and switched already. -/
theorem witness_MorphStepWritesCurveValues_step :
    (descriptor 19).cls ≠ .cont ∧ Given.midStep (s0.setSlot 3 (some (stepMorph 496 false))) 3 (stepMorph 496 false)
      ∧ Given.midStep (s0.setSlot 3 (some (stepMorph 498 false))) 3 (stepMorph 498 false)
      ∧ Given.midStep (s0.setSlot 3 (some (stepMorph 2 true))) 3 (stepMorph 2 true)
      ∧ (498 * 1024 / 1000 : Nat) < 512 ∧ (500 * 1024 / 1000 : Nat) = 512 := by and_intros <;> decide +kernel

theorem witness_RefusalsAndReadingsChangeNothing_reading :
    s0.ready .a ∧ Request.status ∈ [Request.paramGet, .panelRead, .calRead, .voiceRead, .status] := by
  and_intros <;> decide +kernel

theorem witness_ReadingRequestsReturnState :
    Given.paramRun s0 .a 39 1 ∧ Given.paramRun s0 .a 0 40 ∧ Given.voiceRun s0 .a 15 1 ∧ Given.voiceRun s0 .b 0 16
      ∧ Given.globalRun s0 .a 15 1 ∧ Given.globalRun s0 .b 0 16 ∧ Given.controlRun s0 .a 127 1
      ∧ Given.controlRun s0 .b 96 32 ∧ Given.switchRun s0 .a 63 1 ∧ Given.switchRun s0 .b 0 64
      ∧ Given.statusRead s0 .a := by
  and_intros <;> decide +kernel

theorem witness_BindingRequestsReplaceOneBinding_knob : s0.ready .a := by decide +kernel

theorem witness_BindingRequestsReplaceOneBinding_switch :
    s0.ready .a ∧ Given.namesPart (.allOff 1) ∧ Given.namesPart (.hold 15 .latched) ∧ Given.namesPart .report :=
  ⟨by decide +kernel, by decide, by decide, trivial⟩

theorem witness_ScanRoundsStartOrAreSkipped_reset : (seeded { filtered := 16, reported := 1 } .still).ready .a := by
  decide +kernel

theorem witness_ScanRoundsStartOrAreSkipped_expiry :
    Given.periodRuns s0 ∧ Given.periodRuns { s0 with scanner := { s0.scanner with round := none } } := by
  and_intros <;> decide +kernel

/-- S0 stands CLOSED with a count against it. -/
def closedSwitch : State :=
  { s0 with
    switches := s0.switches.set 0 (some { closed := true, candidate := some { closed := false, run := 1 } }) }

theorem witness_SettledAddressSamplesSwitches :
    Given.quietSwitches s0 0 0 ∧ Given.quietSwitches closedSwitch 0 1 := by and_intros <;> decide +kernel

/-- S0 stands OPEN with a count of `run` against it, and an action. -/
def bouncing (run : Nat) (a : SwitchAction) (s : State) : State :=
  { s with
    switches := s.switches.set 0 (some { closed := false, candidate := some { closed := true, run } })
    switchActions := s.switchActions.set 0 a }

/-- A count that goes on, and one that starts anew; with the default DEBOUNCE_COUNT of 3 neither is the last. -/
theorem witness_SettledAddressSamplesSwitches_bouncing :
    Given.bouncing (bouncing 1 .none s0) 0 1 0 { closed := false, candidate := some { closed := true, run := 1 } } 2
      ∧ Given.bouncing { s0 with switches := s0.switches.set 7 (some { closed := true, candidate := none }) } 0 0 7
          { closed := true, candidate := none } 1
      ∧ 2 < s0.global gDebounceCount := by and_intros <;> decide +kernel

theorem witness_SettledAddressSamplesSwitches_switching :
    ∀ a ∈ [SwitchAction.none, .report, .stepParam 3 19, .stepParam 1 pVoiceMode, .hold 5 .momentary,
        .hold 5 .latched, .allOff 15],
      Given.switching (bouncing 2 a s0) 0 1 0 { closed := false, candidate := some { closed := true, run := 2 } } 3
        ∧ (bouncing 2 a s0).switchActions[(0 : SwitchId)] = a := by decide +kernel

/-- Every switch of the address after a sample: unseeded, at the level, and with a candidate that ends. -/
theorem witness_SettledAddressSamplesSwitches_sampled :
    (bouncing 2 .none s0).scanner.round = some { address := 0, phase := .settling }
      ∧ Given.sampled s0 true none = { closed := true, candidate := none }
      ∧ Given.sampled s0 false (some { closed := false, candidate := some { closed := true, run := 2 } })
        = { closed := false, candidate := none }
      ∧ Given.sampled s0 true (some { closed := false, candidate := some { closed := true, run := 2 } })
        = { closed := true, candidate := none }
      ∧ Given.sampled s0 true (some { closed := false, candidate := some { closed := true, run := 1 } })
        = { closed := false, candidate := some { closed := true, run := 2 } } := by and_intros <;> decide +kernel

/-- A STEP_PARAM of VOICE_MODE that frees a claimed voice. -/
theorem witness_SettledAddressSamplesSwitches_claimed :
    Given.switching (bouncing 2 (.stepParam 0 pVoiceMode) claimedSounding) 0 1 0
      { closed := false, candidate := some { closed := true, run := 2 } } 3 := by decide +kernel

/-- The actions at a press, and those that rest. -/
theorem witness_SettledAddressSamplesSwitches_actions :
    Given.restsAt .none true ∧ Given.restsAt .report true ∧ Given.restsAt (.hold 5 .latched) false
      ∧ Given.restsAt (.allOff 1) false ∧ Given.restsAt (.stepParam 0 19) false ∧ (descriptor 19).cls ≠ .struct
      ∧ (descriptor pVoiceMode).cls = .struct ∧ (5 : BitVec 4) ≠ 0 ∧ s0.ready .a
      ∧ ∀ p : PartId, (5 : BitVec 4).getLsbD p.val = true → (s0.perfOf p).hold = !true := by
  unfold Given.restsAt; and_intros <;> trivial

theorem witness_ConversionUpdatesControl_seeding :
    let converting : ScanRound := { address := 7, phase := .converting 15 }
    Given.seeding { s0 with scanner := { s0.scanner with round := some converting } } 7 15 := by
  decide +kernel

/-- K0 at position 2048, with filter shift 0. -/
def still : State := (seeded { filtered := 32768, reported := 2048 } .still).setGlobal 7 0

/-- The same control while it moves. -/
def moving : State := (seeded { filtered := 32768, reported := 2048 } (.moving 500)).setGlobal 7 0

theorem witness_ConversionUpdatesControl_deadband :
    Given.withinDeadband still 0 0 { filtered := 32768, reported := 2048 } (16 * 2064)
      ∧ Given.withinDeadband still 0 0 { filtered := 32768, reported := 2048 } (16 * 2032)
      ∧ Given.withinDeadband moving 0 0 { filtered := 32768, reported := 2048 } (16 * 2052)
      ∧ ((16 * 2064 : Nat) : Int) = 32768 + (16 * (2064 : Int) - 32768) / 2 ^ still.global gKnobFilter := by
  and_intros <;> decide +kernel

theorem witness_ConversionUpdatesControl_move :
    Given.firstMove still 0 0 { filtered := 32768, reported := 2048 } (16 * 2065)
      ∧ Given.firstMove still 0 0 { filtered := 32768, reported := 2048 } (16 * 2304)
      ∧ Given.firstMove still 0 0 { filtered := 32768, reported := 2048 } (16 * 2031)
      ∧ Given.firstMove still 0 0 { filtered := 32768, reported := 2048 } (16 * 1792)
      ∧ ((16 * 2304 : Nat) : Int) = 32768 + (16 * (2304 : Int) - 32768) / 2 ^ still.global gKnobFilter := by
  and_intros <;> decide +kernel

/-- K0 as the noise guard finds it in round 1: its last move went up. -/
def guarded (reversals : List Stamp) (noisy : Option Nat) : State :=
  still.setControl 0 { still.control 0 with direction := .up, reversals, noisy }

/-- An entry of a morph of CUTOFF to 8000; kv(2065) is 8262 and kv(1999) is 7998. -/
def entryTo8000 : MorphEntry := { index := 8, start := 0, target := 8000, prior := 0, switched := false }

theorem witness_BoundMovesTakeTheParameter (pickup : Pickup) :
    Given.boundMove (boundControl pickup still) 0 0 { filtered := 32768, reported := 2048 } (16 * 2065)
      { part := 0, index := 8, mode := .catch, pickup } := by
  cases pickup <;> decide +kernel

/-- In the morph to 8000, positions short of the target and past it, from below and from above. -/
theorem witness_BoundMovesTakeTheParameter_morphing :
    let s := still.setSlot 0 (some { morph 0 .linear with entries := [entryTo8000] })
    Given.entryOf s 0 8 = some entryTo8000 ∧ Given.entryOf still 0 8 = none
      ∧ Given.knobPosition 8 1999 < entryTo8000.target ∧ entryTo8000.target ≤ Given.knobPosition 8 2065
      ∧ Given.slotWithout s 0 8 = some { morph 0 .linear with entries := [], taken := 1 }
      ∧ ∀ position ∈ [1999, 2065], ∀ pickup ∈ [Pickup.catchUp, .catchDown],
        Given.boundMove (boundControl pickup s) 0 0 { filtered := 32768, reported := 2048 } (16 * position)
          { part := 0, index := 8, mode := .catch, pickup } := by and_intros <;> decide +kernel

/-- VOICE_MODE as the target; a NOISY control; a move against the direction of the last one. -/
theorem witness_BoundMovesTakeTheParameter_struct :
    let b : KnobBinding := { part := 3, index := pVoiceMode, mode := .jump, pickup := .live }
    let bind (s : State) : State := { s with knobs := s.knobs.set 0 (some b) }
    (descriptor pVoiceMode).cls = .struct ∧ inRange pVoiceMode (Given.knobPosition pVoiceMode 2065)
      ∧ Given.boundMove (bind still) 0 0 { filtered := 32768, reported := 2048 } (16 * 2065) b
      ∧ Given.boundMove (bind (guarded [] (some 0))) 0 0 { filtered := 32768, reported := 2048 } (16 * 2113) b
      ∧ Given.boundMove (bind (guarded [1] none)) 0 0 { filtered := 32768, reported := 2048 } (16 * 2031) b
      ∧ Given.filters (bind still) { filtered := 32768, reported := 2048 } 2065 (16 * 2065) := by
  unfold inRange; and_intros <;> decide +kernel

/-- The same target on a voice under a claim, with a release window of 0. -/
theorem witness_BoundMovesTakeTheParameter_claimed :
    let b : KnobBinding := { part := 0, index := pVoiceMode, mode := .jump, pickup := .live }
    let s : State := { still with
      voices := claimedSounding.voices, params := claimedSounding.params, run := claimedSounding.run
      knobs := still.knobs.set 0 (some b) }
    Given.boundMove s 0 0 { filtered := 32768, reported := 2048 } (16 * 2065) b ∧ (s.voice 0).claim = true
      ∧ s.param 0 pReleaseWindow = 0 ∧ s.param 0 pVoiceMode ≠ Given.knobPosition pVoiceMode 2065 := by
  and_intros <;> decide +kernel

/-- A large move, a reversal that is the sixth, and moves and quiet conversions of a NOISY control. -/
theorem witness_NoiseGuardCountsReversals :
    Given.guardedMove (guarded [1] none) 0 0 { filtered := 32768, reported := 2048 } (16 * 2305)
      ∧ Given.guardedMove (guarded (List.replicate 5 1) none) 0 0 { filtered := 32768, reported := 2048 } (16 * 2031)
      ∧ Given.guardedMove (guarded [] none) 0 0 { filtered := 32768, reported := 2048 } (16 * 2304)
      ∧ Given.guardedMove (guarded [] (some 0)) 0 0 { filtered := 32768, reported := 2048 } (16 * 1983)
      ∧ Given.quietNoisy (guarded [] (some 999)) 0 0 { filtered := 32768, reported := 2048 } (16 * 1984) 999
      ∧ Given.quietNoisy (guarded [] (some 0)) 0 0 { filtered := 32768, reported := 2048 } (16 * 2112) 0
      ∧ Given.filters (guarded [] none) { filtered := 32768, reported := 2048 } 2305 (16 * 2305) := by
  and_intros <;> decide +kernel

theorem witness_FieldTimersWriteOneField :
    Given.movingControl moving 0 500 ∧ Given.settling (measured 1 .settle 0) (measurement 1 .settle)
      ∧ Given.pulsing (withPhase 15 0 (.gated noteC true (some 1000)) s0) 15 noteC true 1000 ∧ s0.resetRun = none := by
  and_intros <;> decide +kernel

theorem witness_RunsAreCreated_started :
    Given.tuneFree s0 .a 65535 ∧ Given.tuneQueue s0 32768 = [15] ∧ Given.tuneTwice (runState none) .a 1
      ∧ Given.tuneFree s0 .b 32768 := by and_intros <;> decide +kernel

/-- V0 sounds, V1 is OFFLINE with FAULT and V9 damps with a successor of P3. -/
def claimable : State := withPhase 1 0 (.offline .fault) (withPhase 0 0 (.gated noteC false none) bindingState)

/-- A sounding head, a FAULT head, voices that sound, damp and rest, and voices that no run takes. -/
theorem witness_RunsAreCreated_queues :
    Given.tuneFree claimable .a 515 ∧ Given.tuneQueue claimable 515 = [0, 1, 9]
      ∧ Given.tuneFree claimable .b 514 ∧ Given.tuneQueue claimable 514 = [1, 9]
      ∧ Given.tuneFree (withPhase 9 0 (.offline .disabled) s0) .a 512
      ∧ Given.tuneQueue (withPhase 9 0 (.offline .disabled) s0) 512 = []
      ∧ Given.tuneFree (damping none true) .b 512 ∧ Given.tuneQueue (damping none true) 512 = [] := by
  and_intros <;> decide +kernel

theorem witness_TuneAbortEndsRun : Given.noRun s0 .a ∧ Given.waitingRun (runState none) .b (run none) := by
  and_intros <;> decide +kernel

theorem witness_CalWriteReplacesMap :
    Given.calFree s0 .a 31 ∧ Given.calWrite s0 .a 0 0 3 [0, 2048, 10240, 12288]
      ∧ Given.calWrite s0 .b 31 0 7 [0, 8192, 16384, 24576, 32768, 40960, 49152, 57344]
      ∧ Given.calWrite s0 .b 31 4 7 [32767, 40000, 48000, 56000] := by and_intros <;> decide +kernel

theorem witness_FinEdgeDrivesMeasurement_probe :
    Given.measuring (measured 1 .probeWait 0) (measurement 1 .probeWait) .probeWait
      ∧ Given.closesProbe (measured 1 .probe 0) (measurement 1 .probe) 2
      ∧ Given.closesProbe (measured 1 .probe 0) (measurement 1 .probe) 4000000 := by
  and_intros <;> decide +kernel

/-- After an unstable attempt, an edge 2 ticks later and one sooner. -/
theorem witness_FinEdgeDrivesMeasurement_again :
    Given.measuring (measured 3 .probeWait 0) (measurement 3 .probeWait) .probeWait
      ∧ 1 < (measurement 3 .probeWait).attempt
      ∧ (measurement 1 .probeWait).attempt = 1 := by and_intros <;> decide +kernel

theorem witness_FinEdgeDrivesMeasurement_count :
    Given.insideCount (measured 1 (.count 61155 2 0) 0) (measurement 1 (.count 61155 2 0)) 61155 61155 2 0
      ∧ Given.unstableClose (measured 2 (.count 3822 32 31) 100000) (measurement 2 (.count 3822 32 31)) 30000 3822 32
        31 := by and_intros <;> decide +kernel

/-- Counts that close: PASSED, OUT_OF_RANGE below 0, and UNSTABLE at attempt 3. -/
theorem witness_FinEdgeDrivesMeasurement_ends :
    Given.closesCount (measured 3 (.count 61155 2 1) 61155) (measurement 3 (.count 61155 2 1)) (run (some current))
        current candidate 61155 61155 2 1
      ∧ (2 * 61155 - (2 * 61155 : Nat) : Int).natAbs * 16 ≤ 2 * 61155
      ∧ (64205 + 3072 * (Nat.log2 2 : Int) - logUnit (2 * 61155)) = 15360
      ∧ Given.closesCount (measured 1 (.count 3000000 1 0) 0) (measurement 1 (.count 3000000 1 0)) (run (some current))
        current candidate 3000000 3000000 1 0
      ∧ (64205 + 3072 * (Nat.log2 1 : Int) - logUnit 3000000) < 0
      ∧ Given.closesCount (measured 3 (.count 3822 32 31) 100000) (measurement 3 (.count 3822 32 31))
        (run (some current)) current candidate 30000 3822 32 31
      ∧ ¬((130000 : Int) - (32 * 3822 : Nat)).natAbs * 16 ≤ 32 * 3822 := by and_intros <;> decide +kernel

theorem witness_DeadAnchorStartsNext :
    Given.edgeRuns (measured 1 .probeWait 0) (measurement 1 .probeWait) (run (some current)) current candidate
      ∧ Given.edgeRuns (measured 1 .probe 0) (measurement 1 .probe) (run (some current)) current candidate
      ∧ Given.counting (measured 1 (.count 5 256 3) 9) (measurement 1 (.count 5 256 3)) (run (some current)) current
          candidate 5 256 3 := by and_intros <;> decide +kernel

theorem witness_RunsAreCreated_timer :
    Given.retuneFree { s0 with retune := some 1 } ∧ Given.retuneBusy { runState none with retune := some 240 } := by
  and_intros <;> decide +kernel

/-- V3 is measured at anchor 7 of an oscillator, in a run with a queue. -/
def lastRun (second : Bool) (mode : RunMode) (queue : List VoiceId) : Run :=
  { run none with mode, queue, current := some { voice := 3, second, anchor := 7, aResult := some .pass } }

/-- The measurement of that anchor, in a phase. -/
def lastMeasurement (second : Bool) (phase : MeasurePhase) : Measurement :=
  { measurement 1 phase with osc := oscOf 3 second, anchor := 7 }

/-- The candidate of that oscillator, whose anchors 0 to 6 passed 8192 apart. -/
def lastCandidate (second : Bool) : CalCandidate :=
  { osc := oscOf 3 second
    entries := #v[some (.passed 0), some (.passed 8192), some (.passed 16384), some (.passed 24576),
      some (.passed 32768), some (.passed 40960), some (.passed 49152), none] }

/-- The state of that measurement, from a state. -/
def lastState (second : Bool) (mode : RunMode) (queue : List VoiceId) (phase : MeasurePhase) (s : State) : State :=
  { withPhase 3 0 (.tuning 59392) s with
    measurement := some (lastMeasurement second phase), periodCounter := 61155, run := some (lastRun second mode queue)
    candidate := some (lastCandidate second) }

/-- OSC-A ends DEAD at the expiry, passes at the edge, and ends UNSTABLE at the edge of attempt 3; the same for OSC-B.
-/
theorem witness_LastAnchorDecidesOscillator (second : Bool) :
    let count := MeasurePhase.count 61155 2 1
    let third := { lastMeasurement second (.count 3822 32 31) with attempt := 3 }
    let current : Current := { voice := 3, second, anchor := 7, aResult := some .pass }
    Given.decides (lastState second .background [] .probe s0) (lastMeasurement second .probe)
      (lastRun second .background []) current (lastCandidate second) .dead .edgeTimerExpiry
    ∧ Given.decides (lastState second .background [] count s0) (lastMeasurement second count)
      (lastRun second .background []) current (lastCandidate second) (.passed 15360) (.finEdge 61155)
    ∧ Given.decides { lastState second .background [] .probe s0 with measurement := some third } third
      (lastRun second .background []) current (lastCandidate second) .unstable (.finEdge 30000) := by
  cases second <;>
    (unfold Given.decides Given.lastAnchor
     refine ⟨⟨rfl, rfl, rfl, rfl, rfl, rfl, rfl, rfl, ?_⟩, ⟨rfl, rfl, rfl, rfl, rfl, rfl, rfl, rfl, ?_⟩,
       rfl, rfl, rfl, rfl, rfl, rfl, rfl, rfl, ?_⟩ <;>
       simp only [lastMeasurement, measurement] <;> decide +kernel)

/-- A queue that is empty, heads that are measured at once, and heads that are waited for. -/
theorem witness_VoiceEndPassesRunOn :
    Given.nextIs s0 (lastRun true .background []) 3 .ends
      ∧ Given.nextIs s0 (lastRun true .background [5, 6]) 3 (.measures 5 [6])
      ∧ Given.nextIs (withPhase 5 0 (.tuning 2048) s0) (lastRun true .foreground [5]) 3 (.measures 5 [])
      ∧ Given.nextIs sounding (lastRun true .background [0, 6]) 3 (.waits 0)
      ∧ Given.nextIs fadingState (lastRun true .background [8]) 3 (.waits 8)
      ∧ Given.nextIs (withPhase 5 0 (.damping noteC none false 2) s0) (lastRun true .foreground [5]) 3 (.waits 5)
      ∧ (lastState true .background [] .probe s0).deferred = [] := by
  unfold Given.nextIs; and_intros <;> decide +kernel

theorem witness_RunIsInterrupted :
    Given.interrupts (measured 1 .probe 0) .a (run (some current)) current ∧ (run (some current)).queue = []
      ∧ (let r : Run := { run (some current) with queue := [0, 5] }
        Given.queued { withPhase 5 0 (.tuning 2048) (measured 1 .probe 0) with run := some r } .b r current 5
        ∧ Given.queued { measured 1 .probe 0 with run := some r } .b r current 0) := by
  and_intros <;> decide +kernel

theorem witness_VoiceEnableReturnsVoices :
    Given.enabling (withPhase 15 0 (.offline .fault) s0) .a 32768 ∧ Given.enabling s0 .b 65535 := by
  and_intros <;> decide +kernel

theorem witness_VoiceDisableTakesVoicesOut :
    Given.disabling sounding .a 1 ∧ Given.disabling sounding .b 65535
      ∧ (sounding.perfOf 0).counters.cancelled ≤ 65535 ∧ Given.disabling bindingState .a 512
      ∧ Given.disabling mono .a 16 ∧ Given.leftSet (mono.perfOf 1) (fun v => (16 : Nat).testBit v.val)
        = { mono.perfOf 1 with held := [], selected := none, monoSet := [], wanted := none } := by
  and_intros <;> decide +kernel

theorem witness_DampExpiryEndsDamping :
    Given.dampsToNote (damping (some (successor .note)) false) 9 noteC (successor .note) false 2
      ∧ Given.dampsToNote (damping (some (successor .set)) false) 9 noteC (successor .set) false 2
      ∧ Given.dampsOut (damping none true) 9 noteC true 2
      ∧ Given.dampsOut (damping none false) 9 noteC false 2 ∧ Given.unclaimed (damping none false) 9
      ∧ (s0.voice 9).phase.isDamping = false := by and_intros <;> decide +kernel

theorem witness_DampExpiryEndsDamping_claimed :
    let s := { (damping none false).setClaim 9 true with run := some (run (some current)) }
    Given.dampsOut s 9 noteC false 2 ∧ Given.claimed s 9 (run (some current)) := by
  and_intros <;> decide +kernel

/-- V9 is the head of a run that waits, or waits behind V0, which sounds. -/
theorem witness_DampExpiryEndsDamping_waits :
    let waits (queue : List VoiceId) : State :=
      { withPhase 0 0 (.gated noteC false none) ((damping none false).setClaim 9 true) with
        run := some { run none with mode := .foreground, queue } }
    Given.dampsOut (waits [9, 0]) 9 noteC false 2
      ∧ Given.claimedHead (waits [9, 0]) 9 { run none with mode := .foreground, queue := [9, 0] } [0]
      ∧ Given.claimed (waits [0, 9]) 9 { run none with mode := .foreground, queue := [0, 9] } := by
  and_intros <;> decide +kernel

theorem witness_WindowAndDeferralExpiries :
    let other : Deferred := { entry with part := 2 }
    Given.fading fadingState 8 noteC 3 500 ∧ Given.unclaimed fadingState 8
      ∧ Given.served { fadingState with deferred := [other, entry] } 8 0 other
      ∧ Given.served { fadingState.setParam 2 pMaxVoices 0 with deferred := [other, entry] } 8 1 entry
      ∧ (s0.voice 8).phase.isReleased = false
      ∧ ({ fadingState with deferred := List.replicate 8 entry } : State).deferred[(7 : Fin 8).val]? = some entry := by
  and_intros <;> decide +kernel

theorem witness_WindowAndDeferralExpiries_claimed :
    let s := { fadingState.setClaim 8 true with run := some (run (some current)) }
    let r : Run := { run none with queue := [8, 5] }
    Given.fading s 8 noteC 3 500 ∧ Given.claimed s 8 (run (some current))
      ∧ Given.claimedHead { fadingState.setClaim 8 true with run := some r } 8 r [5] := by
  and_intros <;> decide +kernel

theorem witness_ResetVoicesRestsVoices :
    Given.noRun sounding .a ∧ Given.runWaits (runState none) .b (run none)
      ∧ Given.runMeasures (measured 1 .probe 7) .a (run (some current)) current := by and_intros <;> decide +kernel

theorem witness_NoticesAreReadAndAcknowledged_read : s0.ready .a := by decide +kernel

/-- Slot 0 of the queue after reset is stored; slots 1 and 32 are not. -/
theorem witness_NoticesAreReadAndAcknowledged_acknowledged :
    s0.ready .a ∧ (0 + 32 - (s0.link .a).queue.get.val) % 32 < (s0.link .a).queue.stored.length
      ∧ ¬(1 + 32 - (s0.link .a).queue.get.val) % 32 < (s0.link .a).queue.stored.length ∧ ¬32 ≤ 31 := by
  and_intros <;> decide +kernel

theorem witness_SettingRequestsStoreClampedValues_notices :
    s0.ready .a ∧ 32 ≤ (32 : Byte).toNat ∧ (31 : Byte).toNat < 32 := by
  and_intros <;> decide +kernel

theorem witness_ResetBeginsAndEnds :
    s0.ready .b ∧ Given.rstbLow (resetting .powerOn false) .powerOn 2
      ∧ Given.resetDue (resetting (.device .b) true) (.device .b) 2 := by and_intros <;> decide +kernel

theorem witness_LineBytesReachTheParser_receiver :
    Given.fifoRoom (lineState .waitStatus (List.replicate 15 (good 60)) none)
      ∧ Given.fifoFull (lineState .waitStatus (List.replicate 16 (good 60)) (some 1000))
      ∧ (resetting .powerOn true).resetRun.isSome = true := by and_intros <;> decide +kernel

theorem witness_LineBytesReachTheParser_frames :
    Given.lineAt (lineState .waitStatus [good 0x93] none) .waitStatus (good 0x93) []
      ∧ byte (128 + 16 * 1 + (3 : PartId).val) = byte 0x93
      ∧ Given.lineAt (lineState (.data1 0xD3) [good 127] none) (.data1 0xD3) (good 127) []
      ∧ Given.lineAt (lineState (.data1 0xA0) [good 0] none) (.data1 0xA0) (good 0) []
      ∧ Given.lineAt (lineState (.data2 0xD0 127) [good 127] none) (.data2 0xD0 127) (good 127) []
      ∧ Given.lineAt (lineState (.data2 0x92 60) [good 0] none) (.data2 0x92 60) (good 0) [] := by
  and_intros <;> decide +kernel

/-- HOLD_ON of P3 and HOLD_OFF of P0 are whole frames. -/
theorem witness_LineBytesReachTheParser_hold :
    Given.lineAt (lineState .waitStatus [good 0xB3] none) .waitStatus (good 0xB3) []
      ∧ byte (128 + 16 * 3 + (3 : PartId).val) = byte 0xB3 ∧ (lineState .waitStatus [good 0xB3] none).ready .a
      ∧ Given.lineAt (lineState .waitStatus [good 0xC0] none) .waitStatus (good 0xC0) []
      ∧ byte (128 + 16 * 4 + (0 : PartId).val) = byte 0xC0 := by and_intros <;> decide +kernel

/-- A data byte without a frame, status bytes of kinds 0 and 6 and with bit 2, a status byte inside a frame, and a bad
byte, with the pacing timer stopped or running. -/
theorem witness_LineBytesReachTheParser_errors :
    (127 < 128 ∧ ¬Given.namesKind (byte 0x83) ∧ ¬Given.namesKind (byte 0xE0) ∧ ¬Given.namesKind (byte 0x94)
        ∧ Given.namesKind (byte 0x93) ∧ Given.namesKind (byte 0xD3))
      ∧ (∀ n ∈ [127, 0x83, 0xE0, 0x94],
        Given.lineAt (lineState .waitStatus [good n] (some 1000)) .waitStatus (good n) [])
      ∧ Given.lineAt (lineState (.data2 0x91 62) [good 0xA1] none) (.data2 0x91 62) (good 0xA1) []
      ∧ 128 ≤ (byte 0xA1).toNat
      ∧ Given.badByte (lineState (.data1 0x90) [{ good := false, value := 60 }] (some 1000)) 60 []
      ∧ Given.paced (lineState .waitStatus [] (some 1000)) := by and_intros <;> decide +kernel

/-- V5 glides from 15360. -/
def glidingState : State := (s0.setGlide 5 { position := 15360, target := some 16384 }).setParam 0 pGlideRate 40

theorem witness_GlideStepsAndOutputSlots_glide : Given.gliding glidingState 5 16384 := by
  decide +kernel

/-- The round stands at slot n. -/
def atSlot (n : ChannelId) : State := { s0 with output := { s0.output with slot := some n } }

theorem witness_GlideStepsAndOutputSlots_slots :
    (atSlot 215).output.slot = some 215 ∧ (215 : ChannelId).val = 200 + (15 : GlobalId).val
      ∧ (atSlot 208).output.slot = some 208 ∧ (208 : ChannelId).val = 200 + (8 : GlobalId).val
      ∧ Given.slotOfVoice (atSlot 206) 206 15 11
      ∧ Given.slotOfVoice (withPhase 15 0 (.tuning 2048) (atSlot 195)) 195 15 0
      ∧ Given.slotOfVoice (withPhase 15 0 (.offline .fault) (atSlot 207)) 207 15 12
      ∧ Given.pitchSlot (withPhase 15 0 (.gated noteC false none) (atSlot 196)) 196 15 true := by
  and_intros <;> decide +kernel

theorem witness_SlotsMapPitchAndLevels_levels :
    Given.slotOfVoice (atSlot 6) 6 0 6 ∧ Given.slotOfVoice (atSlot 207) 207 15 12
      ∧ (s0.voice 15).phase.isTuning = false ∧ (s0.voice 15).phase.isOffline = false := by and_intros <;> decide +kernel

theorem witness_SlotsMapPitchAndLevels_nominal : Given.mappedSlot (atSlot 195) 195 15 false :=
  ⟨by decide +kernel, by decide +kernel, by
    rw [show ((atSlot 195).cal (oscOf 15 false)).map = .nominal by decide +kernel]; trivial⟩

theorem witness_SlotsMapPitchAndLevels_calibrated :
    let s := (atSlot 1).setCal 1 { (s0.cal 1) with map := .calibrated 2 [10000, 18000, 26000, 34000] }
    Given.mappedSlot s 1 0 true := by
  intro s
  have h : (s.cal (oscOf 0 true)).map = .calibrated 2 [10000, 18000, 26000, 34000] := by decide +kernel
  exact ⟨by decide +kernel, by decide +kernel, by rw [h]; decide +kernel⟩

end Sys2Proof.Tests
end

section
/-! PROOFS. STAGE_CLEAR (R68), on lemmas that serve every request that changes nothing but its own link: what such a
request leaves when its link is ready, and when it is refused. -/

namespace Sys2Proof.Machine

/-! ### States that differ in one link -/

theorem Link.other_ne (l : Link) : l.other ≠ l := by cases l <;> nofun

@[simp] theorem State.link_other_setLink (l : Link) (u : LinkUnit) (s : State) :
    (s.setLink l u).link l.other = s.link l.other :=
  State.link_setLink_ne (Link.other_ne l) u s

@[simp] theorem State.setLink_setLink (l : Link) (u w : LinkUnit) (s : State) :
    (s.setLink l u).setLink l w = s.setLink l w := by cases l <;> rfl

theorem sameButLinks_setLink (l : Link) (u : LinkUnit) (s : State) : SameButLinks s (s.setLink l u) := by
  cases l <;> rfl

theorem took_setLink (l : Link) (n : Nat) (r : Reply) (s : State) :
    Took s (s.setLink l ((s.link l).took n r)) l n r :=
  ⟨State.link_setLink_self l _ s, State.link_other_setLink l _ s⟩

/-! ### A request on a link that is ready (R176, R177) -/

/-- A request whose work changes its own link alone leaves that link as its work made it, busy with the reply. -/
theorem State.takeRequest_of_setLink {s : State} {l : Link} (hready : s.ready l) {r : Request} {work : Service}
    {payload : List Byte} {u : LinkUnit} {a : Answer}
    (hwork : work l payload (s.shiftOut l (fillers (2 + payload.length))) =
      ((s.shiftOut l (fillers (2 + payload.length))).setLink l u, a)) :
    s.takeRequest r work l payload = s.setLink l { u with inProcess := some (a.toReply r.code) } := by
  obtain ⟨hrun, hidle⟩ := hready
  have hreset : s.inReset = false := by simp [State.inReset, hrun]
  have hfree : s.busy l = false := by simp [State.busy, hidle]
  rw [State.takeRequest, State.takeFrame_free hreset hfree, hwork, State.answer_of_running (by simpa using hreset)]
  simp [State.shiftOut]

/-- A refused request leaves its refusal on its link and changes nothing else. -/
theorem State.takeRequest_of_refused {s : State} {l : Link} (hready : s.ready l) {r : Request} {work : Service}
    {payload : List Byte} {st : Status}
    (hwork : ∀ s', work l payload s' = s'.refused st) :
    s.takeRequest r work l payload = s.setLink l ((s.link l).took (2 + payload.length) (refusal r.code st)) := by
  rw [State.takeRequest_of_setLink hready (u := (s.shiftOut l (fillers (2 + payload.length))).link l)
    (a := refuse st) (by rw [hwork, State.setLink_link]; rfl)]
  simp [LinkUnit.took, fillers, refusal, refuse, Answer.toReply]

/-! ### STAGE_CLEAR (R68) -/

theorem exec_stageClear (l : Link) (payload : List Byte) (s : State) :
    exec (.stageClear l payload) s = .next (s.takeRequest .stageClear stageClearService l payload) := rfl

theorem presentCount_eq_zero_iff (st : Vector (Option Nat) 40) :
    presentCount st = 0 ↔ ∀ i : ParamId, st[i] = none := by
  simp [presentCount, presentEntries]

theorem stageClearService_of_ne_nil {payload : List Byte} (h : payload ≠ []) (l : Link) (s : State) :
    stageClearService l payload s = s.refused .length := by
  cases payload with
  | nil => exact absurd rfl h
  | cons => rfl

theorem takeRequest_stageClear_nil {s : State} {l : Link} (hready : s.ready l) :
    s.takeRequest .stageClear stageClearService l [] =
      s.setLink l { (s.link l).took 2
        (okReply 0x13 false ((List.finRange 40).all fun i => (s.link l).staging[i].isNone) []) with
          staging := Vector.replicate 40 none } := by
  have hnothing : decide (presentCount (s.link l).staging = 0) =
      (List.finRange 40).all fun i => (s.link l).staging[i].isNone := by
    rw [Bool.eq_iff_iff]
    simp [presentCount_eq_zero_iff]
  rw [State.takeRequest_of_setLink hready rfl, ← hnothing]
  simp [LinkUnit.took, fillers, okReply, Answer.toReply, Request.code]

/-- Settles O28: a payload is refused on a link that is otherwise left alone, and the work of the empty payload is
one write of the link's own buffer. -/
theorem stageClearEmptiesBuffer : Obligations.StageClearEmptiesBuffer := by
  intro s l hready
  constructor
  · intro payload hpayload
    rw [exec_stageClear, State.takeRequest_of_refused hready (stageClearService_of_ne_nil hpayload l)]
    exact ⟨_, rfl, sameButLinks_setLink l _ s, took_setLink l _ _ s⟩
  · rw [exec_stageClear, takeRequest_stageClear_nil hready]
    exact ⟨_, rfl, sameButLinks_setLink l _ s, State.link_other_setLink l _ s, State.link_setLink_self l _ s⟩

end Sys2Proof.Machine
end

section
/-! PROOFS. NOTICE_READ and NOTICE_ACK (R191, R192): what each leaves of its link's notice queue and what it answers. -/

namespace Sys2Proof.Machine

@[simp] theorem State.queueOf_shiftOut_self (l : Link) (bs : List Byte) (s : State) :
    (s.shiftOut l bs).queueOf l = (s.link l).queue := by
  simp [State.queueOf]

/-! ### NOTICE_READ (R191) -/

theorem exec_noticeRead (l : Link) (payload : List Byte) (s : State) :
    exec (.noticeRead l payload) s = .next (s.takeRequest .noticeRead noticeReadService l payload) := rfl

/-- The clamp of max to 1 to 16, read off the byte: only a max of 0 lies below the range (R191). -/
theorem readMax_toNat (max : Byte) :
    readMax max.toNat = if max = 0x00#8 then 1 else if 16 < max.toNat then 16 else max.toNat := by
  by_cases hzero : max = 0x00#8
  · subst hzero
    rfl
  · have hpos : max.toNat ≠ 0 := fun h => hzero (BitVec.eq_of_toNat_eq h)
    rw [if_neg hzero, readMax, clampTo]
    split <;> omega

/-- A read of n stored notices returns none only of an empty queue, since it asks for at least one (R191). -/
theorem min_readMax_eq_zero_iff (x n : Nat) : min (readMax x) n = 0 ↔ n = 0 := by
  have hpos : 1 ≤ readMax x := le_max_left 1 _
  omega

theorem NoticeQueue.readData_eq (max : Nat) (q : NoticeQueue) :
    q.readData max = [byte q.get, byte (min max q.stored.length), byte q.lost] ++
      (q.stored.take (min max q.stored.length)).flatMap Notice.bytes := by
  rw [NoticeQueue.readData, NoticeQueue.fill, ← List.take_eq_take_min]

theorem takeRequest_noticeRead {s : State} {l : Link} (hready : s.ready l) (max : Byte) :
    s.takeRequest .noticeRead noticeReadService l [max] =
      s.setLink l { (s.link l).took 3
        (okReply 0x50 (readMax max.toNat != max.toNat)
          (decide ((s.link l).queue.fill = 0 ∧ (s.link l).queue.lost = 0))
          ((s.link l).queue.readData (readMax max.toNat))) with
        queue := { (s.link l).queue with lost := 0 } } := by
  rw [State.takeRequest_of_setLink hready rfl]
  simp [LinkUnit.took, fillers, okReply, Answer.toReply, Request.code]

/-! ### NOTICE_ACK (R192) -/

theorem exec_noticeAck (l : Link) (payload : List Byte) (s : State) :
    exec (.noticeAck l payload) s = .next (s.takeRequest .noticeAck noticeAckService l payload) := rfl

theorem NoticeQueue.isStored_iff (i : Nat) (q : NoticeQueue) :
    q.isStored i = true ↔ i ≤ 31 ∧ 0 < q.stored.length ∧ (i + 32 - q.get.val) % 32 < q.stored.length := by
  rw [NoticeQueue.isStored, decide_eq_true_iff, NoticeQueue.place, NoticeQueue.fill]
  exact and_congr_right fun _ => (and_iff_right_of_imp Nat.zero_lt_of_lt).symm

theorem noticeAckService_of_stored {i : Byte} {l : Link} {s : State} (h : (s.queueOf l).isStored i.toNat = true) :
    noticeAckService l [i] s =
      (s.setQueue l ((s.queueOf l).ack i.toNat),
        { status := .ok, data := [byte ((s.queueOf l).ack i.toNat).fill] }) := if_pos h

theorem noticeAckService_of_not_stored {i : Byte} {l : Link} {s : State}
    (h : ¬(s.queueOf l).isStored i.toNat = true) : noticeAckService l [i] s = s.refused .badIndex := if_neg h

theorem NoticeQueue.fill_ack (i : Nat) (q : NoticeQueue) : (q.ack i).fill = q.stored.length - (q.place i + 1) :=
  List.length_drop

theorem takeRequest_noticeAck_of_stored {s : State} {l : Link} (hready : s.ready l) {i : Byte}
    (hstored : (s.link l).queue.isStored i.toNat = true) :
    s.takeRequest .noticeAck noticeAckService l [i] =
      s.setLink l { (s.link l).took 3
        (okReply 0x51 false false [byte ((s.link l).queue.ack i.toNat).fill]) with
        queue := (s.link l).queue.ack i.toNat } := by
  rw [State.takeRequest_of_setLink hready (noticeAckService_of_stored (by simpa using hstored))]
  simp [LinkUnit.took, fillers, okReply, Answer.toReply, Request.code]

theorem takeRequest_noticeAck_of_not_stored {s : State} {l : Link} (hready : s.ready l) {i : Byte}
    (hstored : ¬(s.link l).queue.isStored i.toNat = true) :
    s.takeRequest .noticeAck noticeAckService l [i] =
      s.setLink l ((s.link l).took 3 (refusal 0x51 .badIndex)) := by
  rw [State.takeRequest_of_setLink hready (u := (s.shiftOut l (fillers (2 + [i].length))).link l)
    (a := refuse .badIndex) (by rw [noticeAckService_of_not_stored (by simpa using hstored), State.setLink_link]; rfl)]
  simp [LinkUnit.took, fillers, refusal, refuse, Answer.toReply, Request.code]

/-- Settles O56: each request is one write of its own link, whose queue loses its lost count when it is read and its
oldest notices when a stored slot is acknowledged. -/
theorem noticesAreReadAndAcknowledged : Obligations.NoticesAreReadAndAcknowledged := by
  constructor
  · intro s l max hready q most count
    refine ⟨_, exec_noticeRead l [max] s, ?_⟩
    have hmost : readMax max.toNat = most := readMax_toNat max
    have hcount : count = 0 ↔ q.fill = 0 := by
      have h := min_readMax_eq_zero_iff max.toNat q.fill
      rwa [hmost] at h
    rw [takeRequest_noticeRead hready, NoticeQueue.readData_eq, hmost]
    refine ⟨sameButLinks_setLink l _ s, State.link_other_setLink l _ s, ?_⟩
    rw [State.link_setLink_self]
    simp only [hcount]
    rfl
  · intro s l i hready q place stored
    refine ⟨_, exec_noticeAck l [i] s, ?_⟩
    by_cases hstored : stored
    · rw [takeRequest_noticeAck_of_stored hready ((NoticeQueue.isStored_iff _ _).mpr hstored), NoticeQueue.fill_ack]
      exact ⟨sameButLinks_setLink l _ s, State.link_other_setLink l _ s, absurd hstored,
        fun _ => State.link_setLink_self l _ s⟩
    · rw [takeRequest_noticeAck_of_not_stored hready (mt (NoticeQueue.isStored_iff _ _).mp hstored)]
      exact ⟨sameButLinks_setLink l _ s, State.link_other_setLink l _ s, fun _ => took_setLink l _ _ s,
        fun h => absurd h hstored⟩

end Sys2Proof.Machine
end

section
/-! PROOFS. The step and the reset state: what stands right after a power-on reset (log 15), and that it meets the laws
that every step keeps. -/

namespace Sys2Proof.Machine

/-- Settles O1: by the definition of the step on a queue that is not empty. -/
theorem stepTakesFrontCommand : Obligations.StepTakesFrontCommand := by
  intro c rest s hpending
  simp only [step, hpending]

/-! ### The records of the reset state -/

theorem reset_voice (v : VoiceId) : State.reset.voice v = Voice.atReset := by
  simp [State.voice, State.reset]

theorem reset_perfOf (p : PartId) : State.reset.perfOf p = Perf.atReset := by
  simp [State.perfOf, State.reset]

theorem reset_param (p : PartId) (i : ParamId) : State.reset.param p i = paramDefaults[i] := by
  simp [State.param, State.reset]

theorem reset_global (g : GlobalId) : State.reset.global g = globalDefaults[g] := rfl

theorem reset_slotOf (p : PartId) : State.reset.slotOf p = none := by
  simp [State.slotOf, State.reset]

theorem reset_control (k : ControlId) : State.reset.control k = Control.atReset := by
  simp [State.control, State.reset]

theorem reset_knob (k : ControlId) : State.reset.knob k = none := by
  simp [State.knob, State.reset]

theorem reset_switches (i : SwitchId) : State.reset.switches[i] = none := by
  simp [State.reset]

theorem reset_switchActions (i : SwitchId) : State.reset.switchActions[i] = .none := by
  simp [State.reset]

theorem reset_cal (o : OscId) : State.reset.cal o = CalRecord.atReset := by
  simp [State.cal, State.reset]

theorem reset_glide (v : VoiceId) : State.reset.glide v = { position := 0, target := none } := by
  simp [State.glide, State.reset]

theorem reset_link (l : Link) : State.reset.link l = LinkUnit.afterPowerOn := by
  cases l <;> rfl

/-- Settles O2: each record is read off `State.reset`. -/
theorem resetStateHoldsStatedValues : Obligations.ResetStateHoldsStatedValues := by
  refine ⟨fun v => ?_, rfl, rfl, fun p => ?_, fun p => ?_, rfl, reset_slotOf, rfl, fun k => ?_, fun i => ?_, rfl, rfl,
    rfl, rfl, rfl, rfl, rfl, rfl, rfl, rfl, fun o => reset_cal o, fun v => ?_, rfl, fun l => ?_, rfl, rfl⟩
  · rw [reset_voice]
    exact ⟨rfl, rfl, rfl, rfl, rfl, rfl, rfl, rfl⟩
  · rw [reset_perfOf]
    exact ⟨rfl, rfl, rfl, rfl, rfl, rfl, rfl, rfl⟩
  · rw [funext (reset_param p)]
    rfl
  · exact ⟨reset_control k, reset_knob k⟩
  · exact ⟨reset_switches i, reset_switchActions i⟩
  · rw [reset_glide]
    exact ⟨rfl, rfl⟩
  · rw [State.attention, reset_link]
    exact ⟨rfl, rfl, rfl, rfl, rfl, rfl, rfl, rfl, rfl, rfl, rfl⟩

/-! ### The laws at reset -/

theorem reset_bounded : State.reset.Bounded where
  linkA := by simp [State.reset, LinkUnit.good, NoticeQueue.good, LinkUnit.afterPowerOn, LinkUnit.atReset,
    NoticeQueue.atReset]
  linkB := by simp [State.reset, LinkUnit.good, NoticeQueue.good, LinkUnit.afterPowerOn, LinkUnit.atReset,
    NoticeQueue.atReset]
  lineUnit := by simp [State.reset, LineUnit.good, LineUnit.atReset]
  deferred := by simp [State.reset]
  perf p := by simp [reset_perfOf, Perf.good, Perf.atReset, Counters.good]
  slots p m h := by simp [reset_slotOf] at h
  controls k := by simp [reset_control, Control.good, Control.atReset]
  switches i x h := absurd ((reset_switches i).symm.trans h) nofun
  skipped := by simp [State.reset]
  counter := by simp [State.reset]
  measurement m h := by simp [State.reset] at h
  run r h := by simp [State.reset] at h
  candidate c h := by simp [State.reset] at h
  calibration o := by simp [reset_cal, CalRecord.good, CalRecord.atReset]
  glides v := by simp [reset_glide]

theorem reset_inRange : State.reset.InRange where
  params p i := by
    rw [reset_param]
    exact (show ∀ i : ParamId, (descriptor i).min ≤ paramDefaults[i] ∧ paramDefaults[i] ≤ (descriptor i).max by decide) i
  globals g := by
    rw [reset_global]
    exact (show ∀ g : GlobalId, globalRanges[g].1 ≤ globalDefaults[g] ∧ globalDefaults[g] ≤ globalRanges[g].2 by
      decide) g
  staging l i x h := by simp [reset_link, LinkUnit.afterPowerOn, LinkUnit.atReset] at h
  slots p m h := by simp [reset_slotOf] at h
  template := by simp [State.reset]
  controls k x h := by simp [reset_control, Control.atReset] at h

theorem reset_balanced : State.reset.Balanced where
  notes p := by
    have hdeferred : State.reset.deferredOf p = 0 := rfl
    have hsuccessors : State.reset.noteSuccessorsOf p = 0 := by
      simp [State.noteSuccessorsOf, reset_voice, Voice.atReset, VoicePhase.successor?]
    right
    rw [hdeferred, hsuccessors, reset_perfOf]
    rfl
  current r c h := by simp [State.reset] at h

theorem reset_settled : State.reset.Settled := fun v => by rw [reset_voice]; rfl

/-- Settles O3: the four laws at reset, each from the records of `State.reset`. -/
theorem resetMeetsEveryLaw : Obligations.ResetMeetsEveryLaw :=
  ⟨reset_bounded, reset_inRange, reset_balanced, reset_settled⟩

end Sys2Proof.Machine
end

section
/-! PROOFS. Frames and commands (R175 to R179, R182, R196): what a request command is, that frames and commands spell
each other, and what becomes of frames on busy links, of frames during a reset, and of FETCH. -/

namespace Sys2Proof.Machine

/-! ### Requests as commands -/

/-- Every request of the catalogue takes its frame with its own service. -/
theorem exec_commandOf (l : Link) (payload : List Byte) (r : Request) (s : State) :
    exec (commandOf l payload r) s = .next (s.takeRequest r r.service l payload) := by
  cases r <;> rfl

theorem eq_commandOf_of_request {i : Instr} {r : Request} {l : Link} {payload : List Byte}
    (h : i.request? = some (r, l, payload)) : i = commandOf l payload r := by
  cases i <;> simp only [Instr.request?, Option.some.injEq, Prod.mk.injEq, reduceCtorEq] at h <;>
    obtain ⟨rfl, rfl, rfl⟩ := h <;> rfl

theorem Request.ofCode_code (r : Request) : Request.ofCode r.code = some r := by
  cases r <;> rfl

theorem Request.code_of_ofCode {c : Byte} {r : Request} (h : Request.ofCode c = some r) : r.code = c := by
  simpa using List.find?_some h

theorem Request.code_ne_zero (r : Request) : r.code ≠ 0x00#8 := by
  cases r <;> decide

/-- A length byte that tells a payload of at most 250 bytes passes the frame length check (R177). -/
theorem goodLength_of_le {payload : List Byte} (h : payload.length ≤ 250) :
    goodLength (BitVec.ofNat 8 payload.length :: payload) = true := by
  simp [goodLength, Nat.mod_eq_of_lt (show payload.length < 256 by omega), h]

theorem length_of_goodLength {rest : List Byte} (h : goodLength rest = true) :
    1 + rest.length = 2 + (rest.drop 1).length := by
  cases rest with
  | nil => simp [goodLength] at h
  | cons len payload => simp; omega

/-! ### Frames spell commands -/

theorem decodeFrame_request (l : Link) {payload : List Byte} (h : payload.length ≤ 250) (r : Request) :
    decodeFrame l (r.code :: BitVec.ofNat 8 payload.length :: payload) = commandOf l payload r := by
  simp [decodeFrame, Request.code_ne_zero, goodLength_of_le h, Request.ofCode_code]

theorem decodeFrame_refused (l : Link) {frame : List Byte} (h : refusedFrame frame = true) :
    decodeFrame l frame = .unknownRequest l frame := by
  cases frame with
  | nil => simp [refusedFrame] at h
  | cons code rest =>
    obtain ⟨hcode, hbad⟩ : code ≠ 0x00#8 ∧ (goodLength rest = false ∨ Request.ofCode code = none) := by
      simpa [refusedFrame] using h
    rw [decodeFrame, if_neg hcode]
    split
    · next hgood =>
      rw [hbad.resolve_left (by simp [hgood])]
    · rfl

theorem decodeFrame_fetch (l : Link) {n : Nat} (h : 1 ≤ n) :
    decodeFrame l (List.replicate n 0x00#8) = .fetch l n := by
  obtain ⟨m, rfl⟩ := Nat.exists_eq_add_of_le h
  simp [decodeFrame, Nat.add_comm 1 m, List.replicate_succ]

/-- Settles O8: by the kind of command, since only requests, refused frames, FETCH and the empty frame have bytes. -/
theorem frameOfCommandReadsBack : Obligations.FrameOfCommandReadsBack := by
  intro i l bytes hwf hencode
  cases hrequest : i.request? with
  | some x =>
    obtain ⟨r, m, payload⟩ := x
    simp only [Instr.wf, hrequest, decide_eq_true_eq] at hwf
    simp only [encodeFrame, hrequest, Option.some.injEq, Prod.mk.injEq] at hencode
    obtain ⟨rfl, rfl⟩ := hencode
    rw [decodeFrame_request m hwf, eq_commandOf_of_request hrequest]
  | none =>
    cases i <;> simp [encodeFrame, Instr.request?] at hencode hrequest
    case unknownRequest m frame =>
      obtain ⟨rfl, rfl⟩ := hencode
      exact decodeFrame_refused m hwf
    case fetch m n =>
      obtain ⟨rfl, rfl⟩ := hencode
      exact decodeFrame_fetch m (by simpa [Instr.wf, Instr.request?] using hwf)
    case emptyFrame m =>
      obtain ⟨rfl, rfl⟩ := hencode
      rfl

/-- Settles O9: along the checks that both the reading of a frame and the link unit make (R175, R177). -/
theorem commandOfFrameActsAsFrame : Obligations.CommandOfFrameActsAsFrame := by
  intro l bytes s
  cases bytes with
  | nil => rfl
  | cons code rest =>
    by_cases hfetch : code = 0x00#8
    · simp [decodeFrame, hfetch, State.frame, exec, execFetch]
    by_cases hgood : goodLength rest = true
    · cases hcode : Request.ofCode code with
      | none => simp [decodeFrame, hfetch, hgood, hcode, exec, execUnknownRequest]
      | some r =>
        have hwork : frameService l code rest = r.service l (rest.drop 1) := by
          funext s'
          simp [frameService, hgood, hcode]
        rw [decodeFrame, if_neg hfetch, if_pos hgood, hcode]
        rw [exec_commandOf, State.takeRequest, State.frame, if_neg hfetch, hwork, length_of_goodLength hgood,
          Request.code_of_ofCode hcode]
    · simp [decodeFrame, hfetch, hgood, exec, execUnknownRequest]

/-! ### Frames that are discarded -/

theorem Given.busy_iff_running {s : State} {l : Link} (h : Given.busy s l) : s.inReset = false ∧ s.busy l = true := by
  obtain ⟨hrun, hbusy⟩ := h
  exact ⟨by simp [State.inReset, hrun], hbusy⟩

theorem discardBusy_shiftOut (l : Link) (n : Nat) (s : State) :
    (s.shiftOut l (fillers n)).discardBusy l = s.setLink l { s.link l with
      shifted := List.replicate n 0xFF#8, overruns := min 65535 ((s.link l).overruns + 1), overrunMark := true } := by
  simp [State.discardBusy, State.shiftOut, fillers, incSat16]

theorem shiftOut_fillers (l : Link) (n : Nat) (s : State) :
    s.shiftOut l (fillers n) = s.setLink l { s.link l with shifted := List.replicate n 0xFF#8 } := rfl

/-- A frame that is neither empty nor a FETCH frame is taken by the link unit as a request frame of all its bytes. -/
theorem exec_unknownRequest_of_request (l : Link) {frame : List Byte} (h : Given.requestFrame frame) (s : State) :
    ∃ code work, exec (.unknownRequest l frame) s = .next (s.takeFrame l frame.length code work) := by
  cases frame with
  | nil => simp [Given.requestFrame] at h
  | cons code rest =>
    have hcode : code ≠ 0x00#8 := by simpa [Given.requestFrame] using h
    refine ⟨code, frameService l code rest, ?_⟩
    simp [exec, execUnknownRequest, State.frame, hcode, Nat.add_comm]

/-- Settles O10: every request frame goes through `takeFrame`, which discards it on a busy link and during a reset. -/
theorem busyAndResetFramesAreDiscarded : Obligations.BusyAndResetFramesAreDiscarded := by
  constructor
  · intro s l hgiven after
    obtain ⟨hreset, hbusy⟩ := Given.busy_iff_running hgiven
    refine ⟨fun r payload => ?_, fun frame hframe => ?_, fun n hn => ?_⟩
    · rw [exec_commandOf, State.takeRequest, State.takeFrame_busy hreset hbusy, discardBusy_shiftOut]
    · obtain ⟨code, work, hexec⟩ := exec_unknownRequest_of_request l hframe s
      rw [hexec, State.takeFrame_busy hreset hbusy, discardBusy_shiftOut]
    · simp [exec, execRequestBusyDiscard, hreset, hbusy, Nat.ne_of_gt hn, discardBusy_shiftOut, after]
  · intro s l hrun after
    have hreset : s.inReset = true := hrun
    refine ⟨fun r payload => ?_, fun frame hframe => ?_, fun n hn => ?_, fun n hn => ?_⟩
    · rw [exec_commandOf, State.takeRequest, State.takeFrame_inReset hreset, shiftOut_fillers]
    · obtain ⟨code, work, hexec⟩ := exec_unknownRequest_of_request l hframe s
      rw [hexec, State.takeFrame_inReset hreset, shiftOut_fillers]
    · simp [exec, execFetch, State.fetchFrame, hreset, Nat.ne_of_gt hn, shiftOut_fillers, after]
    · simp [exec, execFrameDuringReset, hreset, Nat.ne_of_gt hn, shiftOut_fillers, after]

/-! ### FETCH and the end of processing -/

theorem exec_fetch (l : Link) (n : Nat) (s : State) : exec (.fetch l n) s = .next (s.fetchFrame l n) := rfl

theorem exec_replyReady (l : Link) (s : State) : exec (.replyReady l) s = .next (s.replyReady l) := rfl

/-- FETCH writes its own link alone: the bytes shifted out, and the slot that it may empty (R178). -/
theorem fetchFrame_eq_setLink {s : State} (hrun : s.resetRun = none) (l : Link) {n : Nat} (hn : 1 ≤ n) :
    s.fetchFrame l n = s.setLink l { s.link l with
      shifted := fetchOut n (s.link l).fetchBytes
      slot := match (s.link l).inProcess, (s.link l).slot with
        | none, some r => if 5 + r.data.length ≤ n then none else some r
        | _, slot => slot } := by
  have hreset : s.inReset = false := by simp [State.inReset, hrun]
  rw [State.fetchFrame, if_neg (by omega), if_neg (by simp [hreset])]
  cases hu : s.link l with | _ slot inProcess
  cases inProcess with
  | some r => simp [State.shiftOut, hu]
  | none =>
    cases slot with
    | none => simp [State.shiftOut, hu]
    | some r => by_cases hread : 5 + r.data.length ≤ n <;> simp [State.shiftOut, hu, hread]

/-- Settles O11: FETCH by what the link holds, REPLY_READY by whether a request is in process. -/
theorem repliesAreFetchedAndPlaced : Obligations.RepliesAreFetchedAndPlaced := by
  constructor
  · intro s l n hrun hn
    refine ⟨_, by rw [exec_fetch, fetchFrame_eq_setLink hrun l hn], sameButLinks_setLink l _ s, by simp, ?_⟩
    rw [State.link_setLink_self]
    cases hprocess : (s.link l).inProcess <;> cases hslot : (s.link l).slot <;>
      simp [LinkUnit.fetchBytes, hprocess, hslot, fetchOut, pendingBytes, noReplyBytes, Reply.bytes, fillers]
  · intro s l
    cases hprocess : (s.link l).inProcess with
    | none =>
      exact ⟨s, by rw [exec_replyReady, State.replyReady_idle hprocess], rfl, rfl, rfl⟩
    | some r =>
      exact ⟨_, by rw [exec_replyReady, State.replyReady_busy hprocess], sameButLinks_setLink l _ s, by simp, by simp⟩

end Sys2Proof.Machine
end

section
/-! PROOFS. What keeps the laws: a relation between the states before and after a piece of work that carries the three
laws of every step (values in range, capacities, note balance) across it, and what each write of a record keeps. -/

namespace Sys2Proof.Machine

/-! ### Notes in flight -/

/-- A note in flight in part p: counted in notes_in, and not yet in one of the six places of R30. -/
def owe (p : PartId) : PartId → Nat := fun q => if q = p then 1 else 0

/-- The successor of kind NOTE that a voice holds for a part (R16, R30). -/
def Voice.waits (x : Voice) : PartId → Nat := fun p =>
  if x.phase.successor?.any (fun su => su.part == p && su.kind == .note) then 1 else 0

/-- The balance of R30 for a part, with `d` notes of it in flight. -/
def State.owes (s : State) (d : Nat) (p : PartId) : Prop :=
  (s.perfOf p).counters.saturated ∨
    (s.perfOf p).counters.notesIn = (s.perfOf p).counters.sounded + (s.perfOf p).counters.dropped
      + (s.perfOf p).counters.refused + (s.perfOf p).counters.cancelled + s.deferredOf p + s.noteSuccessorsOf p + d

theorem State.balanced_iff (s : State) (p : PartId) : s.balanced p ↔ s.owes 0 p := Iff.rfl

theorem Voice.waits_of_successor_none {x : Voice} (h : x.phase.successor? = none) : x.waits = 0 := by
  funext p
  simp [Voice.waits, h]

theorem Voice.waits_of_successor {x : Voice} {su : Successor} (h : x.phase.successor? = some su) :
    x.waits = if su.kind = .note then owe su.part else 0 := by
  funext p
  simp only [Voice.waits, h, Option.any_some]
  by_cases hpart : p = su.part
  · by_cases hkind : su.kind = .note <;> simp [hkind, hpart, owe]
  · by_cases hkind : su.kind = .note <;> simp [hkind, hpart, owe, Ne.symm hpart]

theorem length_filter_eq_sum {α : Type} (test : α → Bool) (l : List α) :
    (l.filter test).length = (l.map fun a => if test a then 1 else 0).sum := by
  induction l with
  | nil => rfl
  | cons a l ih => cases h : test a <;> simp [h, ih, Nat.add_comm]

/-- Replacing one voice moves the number of NOTE successors by what the two voices hold. -/
theorem State.noteSuccessorsOf_setVoice (v : VoiceId) (x : Voice) (s : State) (p : PartId) :
    (s.setVoice v x).noteSuccessorsOf p + (s.voice v).waits p = s.noteSuccessorsOf p + x.waits p := by
  have hsum (t : State) : t.noteSuccessorsOf p = ∑ w : VoiceId, (t.voice w).waits p := by
    rw [State.noteSuccessorsOf, length_filter_eq_sum, Fin.sum_univ_def]
    rfl
  rw [hsum, hsum, ← Finset.add_sum_erase _ _ (Finset.mem_univ v), ← Finset.add_sum_erase _ _ (Finset.mem_univ v),
    State.voice_setVoice_self, Finset.sum_congr rfl fun w hw => by
      rw [State.voice_setVoice_ne (Finset.ne_of_mem_erase hw)]]
  omega

/-! ### Posting -/

/-- No reset begins or ends from `s` to `t`, and each link of `t` is that of `s` after notices were posted to it, and no
more. -/
structure Posted (s t : State) : Prop where
  running : t.resetRun = s.resetRun
  notices : ∀ l, ∃ ns : List Notice,
    t.link l = { s.link l with queue := ns.foldl (fun q n => q.post n) (s.link l).queue }

theorem Posted.of_links {s t : State} (h : ∀ l, t.link l = s.link l) (hr : t.resetRun = s.resetRun := by rfl) :
    Posted s t := ⟨hr, fun l => ⟨[], h l⟩⟩

theorem Posted.refl (s : State) : Posted s s := .of_links fun _ => rfl

theorem Posted.trans {s t u : State} (h : Posted s t) (k : Posted t u) : Posted s u := by
  refine ⟨k.running.trans h.running, fun l => ?_⟩
  obtain ⟨ns, hns⟩ := h.notices l
  obtain ⟨ms, hms⟩ := k.notices l
  exact ⟨ns ++ ms, by rw [hms, hns, List.foldl_append]⟩

theorem posted_postWhere (d : Link → Bool) (k : NoticeKind) (a b c : Nat) (s : State) :
    Posted s (s.postWhere d k a b c) := by
  refine ⟨by simp, fun l => ?_⟩
  rw [State.link_postWhere]
  split
  · exact ⟨[_], rfl⟩
  · exact ⟨[], rfl⟩

theorem Posted.staging {s t : State} (h : Posted s t) (l : Link) : (t.link l).staging = (s.link l).staging := by
  obtain ⟨ns, hns⟩ := h.notices l
  rw [hns]

/-- All of a link but its queue stands as it was. -/
theorem Posted.frame {s t : State} (h : Posted s t) (l : Link) :
    t.link l = { s.link l with queue := (t.link l).queue } := by
  obtain ⟨ns, hns⟩ := h.notices l
  rw [hns]

theorem NoticeQueue.good_post {q : NoticeQueue} (h : q.good) (n : Notice) : (q.post n).good := by
  obtain ⟨hstored, hlost, hmark, hmark', hmask, hmask'⟩ := h
  exact ⟨NoticeQueue.fill_post_le hstored n, NoticeQueue.lost_post_le hlost n, by simpa, by simpa, by simpa, by simpa⟩

theorem Posted.good {s t : State} (h : Posted s t) {l : Link} (hgood : (s.link l).good) : (t.link l).good := by
  obtain ⟨ns, hns⟩ := h.notices l
  obtain ⟨hqueue, hover⟩ := hgood
  rw [hns]
  refine ⟨?_, hover⟩
  exact List.foldlRecOn ns _ hqueue fun q hq n _ => NoticeQueue.good_post hq n

/-! ### The laws carried across a piece of work -/

/-- The capacities of the state, all but those of the run, which hold again only when the run's own work is done. -/
abbrev State.RestBounded (s : State) : Prop := { s with run := none }.Bounded

theorem State.bounded_iff (s : State) : s.Bounded ↔ s.RestBounded ∧ ∀ r, s.run = some r → r.good where
  mp h := ⟨{ h with run := nofun }, h.run⟩
  mpr h := { h.1 with run := h.2 }

/-- What is known from the start of a command: of its TUNING voices, on which the balance may rest, and of the values
that it carries, on which the ranges may rest. -/
structure Known where
  tuning : Prop
  values : Prop

/-- The work from `s` to `t` keeps the laws that do not speak of the run. Before it the notes `o` are in flight, after
it the notes `o'`. -/
structure Keeps (c : Known) (o o' : PartId → Nat) (s t : State) : Prop where
  inRange : c.values → s.InRange → t.InRange
  rest : c.values → s.InRange → s.RestBounded → t.RestBounded
  balance : c.tuning → ∀ p, s.owes (o p) p → t.owes (o' p) p
  posted : Posted s t

/-- The work keeps every law. -/
structure Safe (c : Known) (o o' : PartId → Nat) (s t : State) : Prop extends Keeps c o o' s t where
  run : c.values → s.InRange → s.RestBounded → (∀ r, s.run = some r → r.good) → ∀ r, t.run = some r → r.good
  current : c.tuning → s.currentTuning → t.currentTuning

section
variable {c : Known} {o o' o'' : PartId → Nat} {s t u : State}

theorem Keeps.refl (c : Known) (o : PartId → Nat) (s : State) : Keeps c o o s s where
  inRange _ h := h
  rest _ _ h := h
  balance _ _ h := h
  posted := .refl s

theorem Keeps.trans (h : Keeps c o o' s t) (k : Keeps c o' o'' t u) : Keeps c o o'' s u where
  inRange hv hs := k.inRange hv (h.inRange hv hs)
  rest hv hr hs := k.rest hv (h.inRange hv hr) (h.rest hv hr hs)
  balance hc p hp := k.balance hc p (h.balance hc p hp)
  posted := h.posted.trans k.posted

theorem Safe.refl (c : Known) (o : PartId → Nat) (s : State) : Safe c o o s s where
  toKeeps := .refl c o s
  run _ _ _ h := h
  current _ h := h

theorem Safe.trans (h : Safe c o o' s t) (k : Safe c o' o'' t u) : Safe c o o'' s u where
  toKeeps := h.toKeeps.trans k.toKeeps
  run hv hr hb hs := k.run hv (h.inRange hv hr) (h.rest hv hr hb) (h.run hv hr hb hs)
  current hc hs := k.current hc (h.current hc hs)

/-- Work in turns keeps what each turn keeps. -/
theorem Safe.foldl {α : Type} {f : State → α → State} (h : ∀ s a, Safe c o o s (f s a)) (l : List α) (s : State) :
    Safe c o o s (l.foldl f s) := by
  induction l generalizing s with
  | nil => exact .refl c o s
  | cons a l ih => exact (h s a).trans (ih _)

theorem Keeps.foldl {α : Type} {f : State → α → State} (h : ∀ s a, Keeps c o o s (f s a)) (l : List α) (s : State) :
    Keeps c o o s (l.foldl f s) := by
  induction l generalizing s with
  | nil => exact .refl c o s
  | cons a l ih => exact (h s a).trans (ih _)

/-- Work that leaves the run, and leaves TUNING voices TUNING, keeps the run's laws. -/
theorem Keeps.safe (h : Keeps c o o' s t) (hrun : t.run = s.run)
    (hvoice : c.tuning → ∀ v, (s.voice v).phase.isTuning = true → (t.voice v).phase.isTuning = true) : Safe c o o' s t where
  toKeeps := h
  run _ _ _ hs := by rwa [hrun]
  current hc hs r x hr hx := hvoice hc _ (hs r x (hrun ▸ hr) hx)

/-! ### Writes of voice records -/

/-- A voice may be replaced while the notes in flight make up for the successor that it loses or gains. -/
theorem keeps_setVoice {v : VoiceId} {x : Voice} (hwait : c.tuning → o' + x.waits = o + (s.voice v).waits) :
    Keeps c o o' s (s.setVoice v x) where
  inRange _ h := ⟨h.params, h.globals, h.staging, h.slots, h.template, h.controls⟩
  rest _ _ h := { h with }
  balance hc p hp := by
    have hsum := State.noteSuccessorsOf_setVoice v x s p
    have hpart : o' p + x.waits p = o p + (s.voice v).waits p := congrFun (hwait hc) p
    refine hp.imp id fun hp => ?_
    show (s.perfOf p).counters.notesIn = _ + s.deferredOf p + _ + _
    simp only [State.setVoice_perfOf]
    omega
  posted := .of_links fun _ => rfl

theorem safe_setVoice {v : VoiceId} {x : Voice} (hwait : c.tuning → o' + x.waits = o + (s.voice v).waits)
    (htuning : c.tuning → (s.voice v).phase.isTuning = true → x.phase.isTuning = true) :
    Safe c o o' s (s.setVoice v x) :=
  (keeps_setVoice hwait).safe rfl fun hc w hw => by
    by_cases h : w = v
    · subst h
      simpa using htuning hc hw
    · rwa [State.voice_setVoice_ne h]

/-- A write that leaves the phase of its voice keeps every law. -/
theorem safe_setVoice_of_phase {v : VoiceId} {x : Voice} (h : x.phase = (s.voice v).phase) :
    Safe c o o s (s.setVoice v x) :=
  safe_setVoice (fun _ => by rw [show x.waits = (s.voice v).waits by unfold Voice.waits; rw [h]]) (fun _ => by rw [h]; exact id)

theorem safe_setClaim (v : VoiceId) (b : Bool) : Safe c o o s (s.setClaim v b) := safe_setVoice_of_phase rfl

/-- A change between phases that hold no successor, out of a state other than TUNING. -/
theorem safe_setVoice_of_free {v : VoiceId} {x : Voice} (hold : (s.voice v).phase.successor? = none)
    (hnew : x.phase.successor? = none) (htuning : (s.voice v).phase.isTuning = false) :
    Safe c o o s (s.setVoice v x) :=
  safe_setVoice (fun _ => by rw [Voice.waits_of_successor_none hold, Voice.waits_of_successor_none hnew])
    (fun _ h => by rw [htuning] at h; exact absurd h nofun)

/-! ### Writes of the other records -/

theorem safe_serial (x : Stamp) : Safe c o o s { s with serial := x } where
  inRange _ h := ⟨h.params, h.globals, h.staging, h.slots, h.template, h.controls⟩
  rest _ _ h := { h with }
  balance _ _ h := h
  posted := .of_links fun _ => rfl
  run _ _ _ h := h
  current _ h := h

/-- A performance record may be replaced by one that meets the record's laws. -/
theorem safe_setPerf {p : PartId} {x : Perf} (hgood : s.InRange → (s.perfOf p).good → x.good)
    (hcount : ∀ q, (s.perfOf p).counters.saturated ∨ (s.perfOf p).counters.notesIn = (s.perfOf p).counters.sounded
      + (s.perfOf p).counters.dropped + (s.perfOf p).counters.refused + (s.perfOf p).counters.cancelled + q + o p →
      x.counters.saturated ∨ x.counters.notesIn = x.counters.sounded + x.counters.dropped + x.counters.refused
        + x.counters.cancelled + q + o' p)
    (ho : ∀ q, q ≠ p → o' q = o q) : Safe c o o' s (s.setPerf p x) where
  inRange _ h := ⟨h.params, h.globals, h.staging, h.slots, h.template, h.controls⟩
  rest _ hr h := { h with
    perf := fun q => by
      show ((s.setPerf p x).perfOf q).good
      rw [State.perfOf_setPerf]
      split
      · exact hgood hr (h.perf p)
      · exact h.perf q }
  balance _ q hq := by
    by_cases h : q = p
    · subst h
      have hnew := hcount (s.deferredOf q + s.noteSuccessorsOf q) (hq.imp id fun hq => by omega)
      rw [State.owes, State.perfOf_setPerf_self]
      exact hnew.imp id fun hnew => by rw [hnew]; exact by rw [← Nat.add_assoc]; rfl
    · rw [State.owes, State.perfOf_setPerf_ne h, ho q h]
      exact hq
  posted := .of_links fun _ => rfl
  run _ _ _ h := h
  current _ h := h

theorem safe_setPerf_of_counters {p : PartId} {x : Perf} (hcount : x.counters = (s.perfOf p).counters)
    (hgood : s.InRange → (s.perfOf p).good → x.good) : Safe c o o s (s.setPerf p x) :=
  safe_setPerf hgood (fun q h => by rwa [hcount]) (fun _ _ => rfl)

theorem safe_setGlide {v : VoiceId} {g : Glide}
    (hgood : (s.glide v).position ≤ 32512 ∧ (∀ x, (s.glide v).target = some x → x ≤ 32512) →
      g.position ≤ 32512 ∧ ∀ x, g.target = some x → x ≤ 32512) : Safe c o o s (s.setGlide v g) where
  inRange _ h := ⟨h.params, h.globals, h.staging, h.slots, h.template, h.controls⟩
  rest _ _ h := { h with
    glides := fun w => by
      show ((s.setGlide v g).glide w).position ≤ 32512 ∧ _
      by_cases hw : w = v
      · subst hw
        have := hgood (h.glides w)
        simpa [State.glide, State.setGlide] using this
      · have hv : v.val ≠ w.val := fun e => hw (Fin.ext e.symm)
        simpa [State.glide, State.setGlide, hv] using h.glides w }
  balance _ _ h := h
  posted := .of_links fun _ => rfl
  run _ _ _ h := h
  current _ h := h

/-- Posting keeps every law. -/
theorem safe_of_posted (hsame : SameButLinks s t) (hp : Posted s t) : Safe c o o s t := by
  have ha := hp.good (l := .a)
  have hb := hp.good (l := .b)
  have hstaging := hp.staging
  rw [SameButLinks] at hsame
  generalize t.linkA = ua at hsame
  generalize t.linkB = ub at hsame
  subst hsame
  exact {
    inRange := fun _ h =>
      ⟨h.params, h.globals, fun l => by rw [hstaging l]; exact h.staging l, h.slots, h.template, h.controls⟩
    rest := fun _ _ h => { h with linkA := ha h.linkA, linkB := hb h.linkB }
    balance := fun _ _ h => h
    posted := hp
    run := fun _ _ _ h => h
    current := fun _ h => h }

theorem sameButLinks_postWhere (d : Link → Bool) (k : NoticeKind) (a b e : Nat) (s : State) :
    SameButLinks s (s.postWhere d k a b e) := by
  unfold State.postWhere
  dsimp only
  split <;> split <;> rfl

theorem safe_postWhere (d : Link → Bool) (k : NoticeKind) (a b e : Nat) : Safe c o o s (s.postWhere d k a b e) :=
  safe_of_posted (sameButLinks_postWhere d k a b e s) (posted_postWhere d k a b e s)

theorem safe_post (k : NoticeKind) (a b e : Nat) : Safe c o o s (s.post k a b e) := safe_postWhere _ k a b e

theorem safe_postAlso (d : Link → Bool) (k : NoticeKind) (a b e : Nat) : Safe c o o s (s.postAlso d k a b e) :=
  safe_postWhere _ k a b e

theorem safe_postDropped (p : PartId) (k : Key) (reason : Nat) : Safe c o o s (s.postDropped p k reason) :=
  safe_post _ _ _ _

/-! ### Counters -/

/-- A note of part p comes in, and is in flight (R7). -/
theorem safe_countIn (p : PartId) : Safe c o (o + owe p) s (s.countIn p) :=
  safe_setPerf (fun _ h => ⟨h.1, h.2.1, h.2.2.1, h.2.2.2.1, by
      simpa [Counters.good, incSat16] using h.2.2.2.2.2⟩)
    (fun q h => by simp only [Counters.saturated, incSat16, Pi.add_apply, owe, if_true] at h ⊢; omega)
    (fun q hq => by simp [owe, hq])

/-- A count that takes a note of part p out of flight (R30). -/
theorem safe_countOut {p : PartId} {f : Counters → Counters} (hgood : ∀ x : Counters, x.good → (f x).good)
    (hout : ∀ (x : Counters) (q : Nat),
      x.saturated ∨ x.notesIn = x.sounded + x.dropped + x.refused + x.cancelled + q + 1 →
      (f x).saturated ∨ (f x).notesIn = (f x).sounded + (f x).dropped + (f x).refused + (f x).cancelled + q) :
    Safe c (o + owe p) o s (s.countWith p f) :=
  safe_setPerf (fun _ h => ⟨h.1, h.2.1, h.2.2.1, h.2.2.2.1, hgood _ h.2.2.2.2⟩)
    (fun q h => by
      have hin := hout _ (q + o p) (h.imp id fun h => by simp [owe] at h; omega)
      exact hin.imp id fun hin => by dsimp only; omega)
    (fun q hq => by simp [owe, hq])

theorem safe_countSounded (p : PartId) : Safe c (o + owe p) o s (s.countSounded p) :=
  safe_countOut (fun x h => by simp only [Counters.good, incSat16] at h ⊢; omega)
    (fun x q h => by simp only [Counters.saturated, incSat16] at h ⊢; omega)

theorem safe_countDropped (p : PartId) : Safe c (o + owe p) o s (s.countDropped p) :=
  safe_countOut (fun x h => by simp only [Counters.good, incSat16] at h ⊢; omega)
    (fun x q h => by simp only [Counters.saturated, incSat16] at h ⊢; omega)

theorem safe_countRefused (p : PartId) : Safe c (o + owe p) o s (s.countRefused p) :=
  safe_countOut (fun x h => by simp only [Counters.good, incSat16] at h ⊢; omega)
    (fun x q h => by simp only [Counters.saturated, incSat16] at h ⊢; omega)

theorem safe_countCancelled (p : PartId) : Safe c (o + owe p) o s (s.countCancelled p) :=
  safe_countOut (fun x h => by simp only [Counters.good, incSat16] at h ⊢; omega)
    (fun x q h => by simp only [Counters.saturated, incSat16] at h ⊢; omega)

/-! ### The deferred list -/

/-- The deferred list may change while the notes in flight make up for the entries that join or leave it. -/
theorem safe_deferred {ds : List Deferred} (hlen : s.deferred.length ≤ 8 → ds.length ≤ 8)
    (ho : ∀ p, o' p + (ds.filter fun d => d.part == p).length = o p + s.deferredOf p) :
    Safe c o o' s { s with deferred := ds } where
  inRange _ h := ⟨h.params, h.globals, h.staging, h.slots, h.template, h.controls⟩
  rest _ _ h := { h with deferred := hlen h.deferred }
  balance _ p hp := by
    have := ho p
    refine hp.imp id fun hp => ?_
    have hnew : (s.perfOf p).counters.notesIn = (s.perfOf p).counters.sounded + (s.perfOf p).counters.dropped
      + (s.perfOf p).counters.refused + (s.perfOf p).counters.cancelled + (ds.filter fun d => d.part == p).length
      + s.noteSuccessorsOf p + o' p := by omega
    exact hnew
  posted := .of_links fun _ => rfl
  run _ _ _ h := h
  current _ h := h

theorem length_filter_part_cons (d : Deferred) (ds : List Deferred) (p : PartId) :
    ((d :: ds).filter fun d => d.part == p).length = owe d.part p + (ds.filter fun d => d.part == p).length := by
  by_cases h : d.part = p
  · simp [h, owe, Nat.add_comm]
  · simp [h, owe, Ne.symm h]

/-- A note in flight joins the deferred list (R14). -/
theorem safe_defer {d : Deferred} (hroom : s.deferred.length < 8) :
    Safe c (o + owe d.part) o s { s with deferred := s.deferred ++ [d] } :=
  safe_deferred (fun _ => by simp; omega) fun p => by
    simp only [List.filter_append, List.length_append, length_filter_part_cons, State.deferredOf, Pi.add_apply]
    simp; omega

/-- An entry that leaves the deferred list is a note in flight (R23, R24). -/
theorem safe_undefer {d : Deferred} {pre post : List Deferred} (h : s.deferred = pre ++ d :: post) :
    Safe c o (o + owe d.part) s { s with deferred := pre ++ post } :=
  safe_deferred (fun hlen => by rw [h] at hlen; simp at hlen ⊢; omega) fun p => by
    simp only [State.deferredOf, h, List.filter_append, List.length_append, length_filter_part_cons, Pi.add_apply]
    omega

end

end Sys2Proof.Machine
end

section
/-! PROOFS. The laws across the work of the allocator: glides, voices, mono sets, the deferred list, notes given and
taken back. -/

namespace Sys2Proof.Machine

/-! ### What a choice among voices answers -/

/-- A fold that keeps its choice or takes an element of the list ends on one of them. -/
theorem foldl_choice_mem {α : Type} {f : α → α → α} (hf : ∀ a b, f a b = a ∨ f a b = b) (l : List α) (a : α) :
    l.foldl f a ∈ a :: l := by
  induction l generalizing a with
  | nil => simp
  | cons b l ih =>
    rw [List.foldl_cons]
    rcases hf a b with h | h
    · exact h.symm ▸ (by grind [ih a])
    · exact h.symm ▸ (by grind [ih b])

theorem chooseOldest_mem {stamp : VoiceId → Stamp} {vs : List VoiceId} {v : VoiceId}
    (h : chooseOldest stamp vs = some v) : v ∈ vs := by
  cases vs with
  | nil => simp [chooseOldest] at h
  | cons w ws =>
    rw [chooseOldest, Option.some.injEq] at h
    exact h ▸ foldl_choice_mem (fun a b => by split <;> simp) ws w

theorem chooseLowest_mem {measure : VoiceId → Nat} {vs : List VoiceId} {v : VoiceId}
    (h : chooseLowest measure vs = some v) : v ∈ vs := by
  cases vs with
  | nil => simp [chooseLowest] at h
  | cons w ws =>
    rw [chooseLowest, Option.some.injEq] at h
    exact h ▸ foldl_choice_mem (fun a b => by split <;> simp) ws w

theorem chooseHighest_mem {measure : VoiceId → Nat} {vs : List VoiceId} {v : VoiceId}
    (h : chooseHighest measure vs = some v) : v ∈ vs := by
  cases vs with
  | nil => simp [chooseHighest] at h
  | cons w ws =>
    rw [chooseHighest, Option.some.injEq] at h
    exact h ▸ foldl_choice_mem (fun a b => by split <;> simp) ws w

theorem State.pickVictim_mem {s : State} {p : PartId} {vs : List VoiceId} {v : VoiceId}
    (h : s.pickVictim p vs = some v) : v ∈ vs := by
  unfold State.pickVictim at h
  split at h
  · exact chooseOldest_mem h
  · exact chooseLowest_mem h
  · exact chooseLowest_mem h
  · exact chooseHighest_mem h

theorem State.ofVictim_pickVictim_mem {s : State} {p : PartId} {vs : List VoiceId} {v : VoiceId}
    (h : Pick.ofVictim (s.pickVictim p vs) = .steal v) : v ∈ vs := by
  cases hv : s.pickVictim p vs with
  | none => simp [hv, Pick.ofVictim] at h
  | some w =>
    rw [hv, Pick.ofVictim, Pick.steal.injEq] at h
    exact h ▸ State.pickVictim_mem hv

theorem Pick.ofVictim_ne_idle (w : Option VoiceId) (v : VoiceId) : Pick.ofVictim w ≠ .idle v := by
  cases w <;> simp [Pick.ofVictim]

theorem State.pickVoice_idle {s : State} {p : PartId} {taken : List VoiceId} {own : Bool} {v : VoiceId}
    (h : s.pickVoice p taken own = .idle v) : (s.voice v).phase = .idle := by
  unfold State.pickVoice at h
  dsimp only at h
  split at h
  · exact absurd h (Pick.ofVictim_ne_idle _ v)
  · split at h
    · next w hw =>
      obtain rfl : w = v := by simpa using h
      simpa using (List.mem_filter.mp (chooseOldest_mem hw)).2
    · split at h
      · simp at h
      · exact absurd h (Pick.ofVictim_ne_idle _ v)

/-- A voice that is stolen sounds: it is GATED or RELEASED (R12, R13). -/
theorem State.pickVoice_steal {s : State} {p : PartId} {taken : List VoiceId} {own : Bool} {v : VoiceId}
    (h : s.pickVoice p taken own = .steal v) :
    (s.voice v).phase.isGated = true ∨ (s.voice v).phase.isReleased = true := by
  unfold State.pickVoice at h
  dsimp only at h
  split at h
  · have hv := (List.mem_filter.mp (State.ofVictim_pickVictim_mem h)).2
    exact .inl (by simp [Voice.gatedFor] at hv; exact hv.1)
  · split at h
    · simp at h
    · split at h
      · next w hw =>
        obtain rfl : w = v := by simpa using h
        exact .inr (List.mem_filter.mp (chooseOldest_mem hw)).2
      · have hv := (List.mem_filter.mp (State.ofVictim_pickVictim_mem h)).2
        exact .inl (by simp [State.isVictim] at hv; exact hv.1)

/-! ### Phases -/

/-- The notes that wait on a bound successor. -/
def pending : Option Successor → PartId → Nat
  | some su => if su.kind = .note then owe su.part else 0
  | none => 0

theorem Voice.waits_eq (x : Voice) : x.waits = pending x.phase.successor? := by
  cases h : x.phase.successor? with
  | none => exact Voice.waits_of_successor_none h
  | some su => exact Voice.waits_of_successor h

/-- The phase holds no successor and is not TUNING: a voice may leave it and take no note along. -/
def VoicePhase.loose (ph : VoicePhase) : Prop := ph.successor? = none ∧ ph.isTuning = false

theorem VoicePhase.loose_of_sounding {ph : VoicePhase} (h : ph.isGated = true ∨ ph.isReleased = true) : ph.loose := by
  cases ph <;> simp_all [VoicePhase.isGated, VoicePhase.isReleased, VoicePhase.loose, VoicePhase.successor?,
    VoicePhase.isTuning]

theorem VoicePhase.note_of_sounding {ph : VoicePhase} (h : ph.isGated = true ∨ ph.isReleased = true) :
    ∃ n, ph.note? = some n := by
  cases ph <;> simp_all [VoicePhase.isGated, VoicePhase.isReleased, VoicePhase.note?]

section
variable {c : Known} {o : PartId → Nat} {s : State}

theorem safe_setVoice_of_loose {v : VoiceId} {x : Voice} (hold : (s.voice v).phase.loose)
    (hnew : x.phase.successor? = none) : Safe c o o s (s.setVoice v x) :=
  safe_setVoice_of_free hold.1 hnew hold.2

theorem safe_setPhase_of_loose {v : VoiceId} {ph : VoicePhase} (hold : (s.voice v).phase.loose)
    (hnew : ph.successor? = none) : Safe c o o s (s.setPhase v ph) :=
  safe_setVoice_of_loose hold hnew

/-! ### Glide records -/

theorem safe_stopGlide (v : VoiceId) : Safe c o o s (s.stopGlide v) := safe_setGlide fun h => ⟨h.1, nofun⟩

theorem safe_jumpGlide (v : VoiceId) (k : Key) : Safe c o o s (s.jumpGlide v k) :=
  safe_setGlide fun _ => ⟨by have := k.isLt; dsimp only; omega, nofun⟩

theorem safe_turnGlide (v : VoiceId) (k : Key) : Safe c o o s (s.turnGlide v k) := by
  unfold State.turnGlide
  split
  · exact safe_jumpGlide v k
  · exact safe_setGlide fun h => ⟨h.1, fun x hx => by
      have := k.isLt
      simp only [Option.some.injEq] at hx
      omega⟩

/-! ### Starting a note -/

/-- A voice that goes GATED gives up the successor that it held. -/
theorem safe_gateOn {v : VoiceId} (p : PartId) (n : Note) (h : (s.voice v).phase.isTuning = false) :
    Safe c o (o + pending (s.voice v).phase.successor?) s (s.gateOn v p n) := by
  refine (safe_serial (s.serial + 1)).trans (safe_setVoice (fun _ => ?_) (fun _ ht => ?_))
  · rw [Voice.waits_eq, Voice.waits_eq]
    rfl
  · exact absurd (h.symm.trans ht) nofun

theorem safe_soundIdle {v : VoiceId} (p : PartId) (n : Note) (h : (s.voice v).phase = .idle) :
    Safe c o o s (s.soundIdle v p n) := by
  have hgate := safe_gateOn (c := c) (o := o) p n (show (s.voice v).phase.isTuning = false by rw [h]; rfl)
  rw [h] at hgate
  exact hgate.trans (safe_jumpGlide v n.key)

theorem safe_retrigger (v : VoiceId) (velocity : Nat) : Safe c o o s (s.retrigger v velocity) := by
  unfold State.retrigger
  split
  · next h => exact (safe_serial _).trans (safe_setVoice_of_loose (show (s.voice v).phase.loose by rw [h]; exact ⟨rfl, rfl⟩) rfl)
  · exact .refl c o s

theorem safe_reuse (v : VoiceId) (velocity : Nat) : Safe c o o s (s.reuse v velocity) := by
  unfold State.reuse
  split
  · next h => exact (safe_serial _).trans (safe_setVoice_of_loose (show (s.voice v).phase.loose by rw [h]; exact ⟨rfl, rfl⟩) rfl)
  · exact .refl c o s

/-! ### Mono sets and successors -/

theorem safe_clearHeld (p : PartId) : Safe c o o s (s.clearHeld p) :=
  safe_setPerf_of_counters rfl fun _ h => ⟨by simp, by simp, nofun, h.2.2.2⟩

theorem safe_leaveSet (v : VoiceId) (p : PartId) : Safe c o o s (s.leaveSet v p) := by
  unfold State.leaveSet
  dsimp only
  split
  · split
    · exact safe_clearHeld p
    · exact safe_setPerf_of_counters rfl fun _ h => ⟨h.1, (List.length_filter_le _ _).trans h.2.1, h.2.2⟩
  · exact .refl c o s

theorem safe_leaveSets (v : VoiceId) : Safe c o o s (s.leaveSets v) := Safe.foldl (fun _ p => safe_leaveSet v p) _ s

theorem safe_bind (v : VoiceId) (p : PartId) : Safe c o o s (s.bind v p) := safe_setPerf_of_counters rfl fun _ h => h

theorem safe_unbind (v : VoiceId) (p : PartId) : Safe c o o s (s.unbind v p) := safe_setPerf_of_counters rfl fun _ h => h

/-- A cancelled NOTE successor is in flight until cancelled counts it (R19). -/
theorem safe_cancelSuccessor (v : VoiceId) : Safe c o o s (s.cancelSuccessor v) := by
  unfold State.cancelSuccessor
  split
  · next n su dp timer h =>
    have hphase : Safe c o (o + pending (some su)) s (s.setPhase v (.damping n none dp timer)) := by
      refine safe_setVoice (fun _ => ?_) (fun _ ht => ?_)
      · rw [Voice.waits_eq, Voice.waits_eq, h]
        rfl
      · rw [h] at ht
        exact absurd ht nofun
    dsimp only
    split
    · next hkind =>
      rw [pending, if_pos hkind] at hphase
      exact (hphase.trans (safe_unbind v su.part)).trans (safe_countCancelled su.part)
    · next hkind =>
      rw [pending, if_neg hkind, add_zero] at hphase
      exact hphase.trans (safe_unbind v su.part)
  · exact .refl c o s

theorem safe_cancelAndLeave (v : VoiceId) : Safe c o o s (s.cancelAndLeave v) :=
  (safe_cancelSuccessor v).trans (safe_leaveSets v)

/-! ### Damping and release -/

/-- A sounding voice that goes DAMPING takes a note in flight as its successor (R15). -/
theorem safe_damp {v : VoiceId} (su : Option Successor)
    (h : (s.voice v).phase.isGated = true ∨ (s.voice v).phase.isReleased = true) :
    Safe c (o + pending su) o s (s.damp v su) := by
  obtain ⟨n, hn⟩ := VoicePhase.note_of_sounding h
  have hvoice : (s.leaveSets v).voice v = s.voice v := by rw [State.voice, voices_leaveSets]; rfl
  obtain ⟨hfree, htuning⟩ := VoicePhase.loose_of_sounding h
  have hphase : Safe c (o + pending su) o s
      ((s.leaveSets v).setPhase v (.damping n su false (s.global gDampTime))) := by
    refine (safe_leaveSets v).trans (safe_setVoice (fun _ => ?_) (fun _ ht => ?_))
    · rw [Voice.waits_eq, Voice.waits_eq, hvoice, hfree]
      rfl
    · rw [hvoice, htuning] at ht
      exact absurd ht nofun
  unfold State.damp
  rw [hn]
  cases su with
  | none => exact hphase
  | some su => exact hphase.trans (safe_bind v su.part)

theorem safe_release (v : VoiceId) : Safe c o o s (s.release v) := by
  unfold State.release
  split
  · next h => exact safe_setPhase_of_loose (by rw [h]; exact ⟨rfl, rfl⟩) rfl
  · exact .refl c o s

theorem safe_releaseAndLeave (v : VoiceId) : Safe c o o s (s.releaseAndLeave v) :=
  (safe_release v).trans (safe_leaveSets v)

theorem safe_releaseWhere (pick : Voice → Bool) : Safe c o o s (s.releaseWhere pick) := by
  refine Safe.foldl (fun s v => ?_) _ s
  split
  · exact safe_release v
  · exact .refl c o s

theorem safe_releaseHeld (v : VoiceId) : Safe c o o s (s.releaseHeld v) :=
  (safe_release v).trans (safe_setVoice_of_phase rfl)

theorem safe_releaseSustained (p : PartId) : Safe c o o s (s.releaseSustained p) := by
  refine Safe.foldl (fun s v => ?_) _ s
  split
  · exact safe_releaseHeld v
  · exact .refl c o s

/-! ### IDLE and the deferred list -/

theorem keeps_goIdle {v : VoiceId} (h : c.tuning → (s.voice v).phase.successor? = none) : Keeps c o o s (s.goIdle v) :=
  (keeps_setVoice fun hc => by
    rw [Voice.waits_of_successor_none (h hc), Voice.waits_of_successor_none rfl]).trans (safe_stopGlide v).toKeeps

theorem safe_goIdle {v : VoiceId} (h : (s.voice v).phase.loose) : Safe c o o s (s.goIdle v) :=
  (safe_setVoice_of_loose h rfl).trans (safe_stopGlide v)

theorem safe_offer (v : VoiceId) : Safe c o o s (s.offer v) := by
  unfold State.offer
  split
  · next hidle =>
    split
    · next d rest htake =>
      obtain ⟨-, before, after, hlist, rfl, -⟩ := takeFirst_spec htake
      exact ((safe_undefer hlist).trans (safe_soundIdle _ _ hidle)).trans (safe_countSounded d.part)
    · exact .refl c o s
  · exact .refl c o s

theorem safe_offerAll (vs : List VoiceId) : Safe c o o s (s.offerAll vs) := Safe.foldl (fun _ v => safe_offer v) vs s

/-- The entries that leave the list are in flight until cancelled counts them (R25). -/
theorem safe_cancelDeferred (p : PartId) : Safe c o o s (s.cancelDeferred p) := by
  refine (safe_deferred (o' := fun q => o q + if q = p then s.deferredOf p else 0)
    (fun h => (List.length_filter_le _ _).trans h) fun q => ?_).trans
    (safe_setPerf (fun _ h => ⟨h.1, h.2.1, h.2.2.1, h.2.2.2.1, ?_⟩) (fun q h => ?_) (fun q hq => by simp [hq]))
  · by_cases hq : q = p
    · subst hq
      simp [List.filter_filter, State.deferredOf]
    · have hkeep : (s.deferred.filter fun d => d.part == q && d.part != p) = s.deferred.filter fun d => d.part == q :=
        List.filter_congr fun d _ => by
          by_cases hd : d.part = q
          · simp [hd, hq]
          · simp [hd]
      simp [hq, List.filter_filter, hkeep, State.deferredOf]
  · obtain ⟨-, -, -, -, h⟩ := h
    simp only [Counters.good] at h ⊢
    omega
  · simp only [Counters.saturated, if_true, State.deferredOf] at h ⊢
    omega

theorem safe_cancelSuccessorsOf (p : PartId) : Safe c o o s (s.cancelSuccessorsOf p) := by
  refine Safe.foldl (fun s v => ?_) _ s
  split
  · exact safe_cancelSuccessor v
  · exact .refl c o s

theorem safe_allOffPart (p : PartId) : Safe c o o s (s.allOffPart p) :=
  (((safe_releaseWhere _).trans (safe_cancelDeferred p)).trans (safe_cancelSuccessorsOf p)).trans (safe_clearHeld p)

/-! ### The run and the measurement -/

/-- The run may be replaced by one that meets the run's laws. -/
theorem safe_run {x : Option Run} (hgood : (∀ r, s.run = some r → r.good) → ∀ r, x = some r → r.good)
    (hcurrent : c.tuning → s.currentTuning → ∀ r y, x = some r → r.current = some y → (s.voice y.voice).phase.isTuning = true) :
    Safe c o o s { s with run := x } where
  inRange _ h := ⟨h.params, h.globals, h.staging, h.slots, h.template, h.controls⟩
  rest _ _ h := h
  balance _ _ h := h
  posted := .of_links fun _ => rfl
  run _ _ _ h := hgood h
  current hc h := hcurrent hc h

theorem safe_withRun {f : Run → Run} (hgood : ∀ r : Run, r.good → (f r).good)
    (hcurrent : ∀ r : Run, (f r).current = r.current) : Safe c o o s (s.withRun f) := by
  refine safe_run (fun h r hr => ?_) (fun _ h r y hr hy => ?_) <;>
    obtain ⟨r', hr', rfl⟩ := Option.map_eq_some_iff.mp hr
  · exact hgood r' (h r' hr')
  · exact h r' y hr' (hcurrent r' ▸ hy)

/-- The records of the measurement unit but for the calibration records. -/
theorem safe_measure {m : Option Measurement} {pc : Nat} {f : OscId} {k : Option CalCandidate} {i : Nat}
    (hm : (∀ x, s.measurement = some x → x.good) → ∀ x, m = some x → x.good)
    (hpc : s.periodCounter ≤ 16777215 → pc ≤ 16777215)
    (hk : (∀ x, s.candidate = some x → x.good) → ∀ x, k = some x → x.good) :
    Safe c o o s { s with measurement := m, periodCounter := pc, fsel := f, candidate := k, freeIndex := i } where
  inRange _ h := ⟨h.params, h.globals, h.staging, h.slots, h.template, h.controls⟩
  rest _ _ h := { h with measurement := hm h.measurement, counter := hpc h.counter, candidate := hk h.candidate }
  balance _ _ h := h
  posted := .of_links fun _ => rfl
  run _ _ _ h := h
  current _ h := h

/-- A measurement starts on a voice that holds no successor, such as one that is TUNING (R123). -/
theorem safe_startAnchor {v : VoiceId} (second : Bool) (a : AnchorId)
    (h : c.tuning → (s.voice v).phase.successor? = none) : Safe c o o s (s.startAnchor v second a) := by
  refine (safe_measure (fun _ x hx => ?_) id id).trans (safe_setVoice (fun hc => ?_) (fun _ _ => rfl))
  · cases hx
    exact ⟨by simp, by simp, trivial⟩
  · have hold : (s.voice v).waits = 0 := Voice.waits_of_successor_none (h hc)
    show o + _ = o + (s.voice v).waits
    rw [hold, Voice.waits_of_successor_none rfl]

theorem safe_openOscillator {v : VoiceId} (second : Bool) (h : c.tuning → (s.voice v).phase.successor? = none) :
    Safe c o o s (s.openOscillator v second) := by
  refine (safe_measure id id fun _ x hx => ?_).trans (safe_startAnchor second 0 h)
  cases hx
  intro y hy p hp
  simp [hp] at hy

theorem VoicePhase.successor_of_tuning {ph : VoicePhase} (h : ph.isTuning = true) : ph.successor? = none := by
  cases ph <;> first | rfl | exact absurd h nofun

theorem safe_takeNext : Safe c o o s s.takeNext := by
  unfold State.takeNext
  split
  · next r hr =>
    split
    · next v rest hcurrent hqueue =>
      split
      · next htuning =>
        refine (safe_run (fun h r' hr' => ?_) (fun _ _ r' y hr' hy => ?_)).trans
          (safe_openOscillator false fun _ => VoicePhase.successor_of_tuning htuning)
        · have hgood := h r hr
          cases hr'
          simp only [Run.good, hcurrent, hqueue, List.length_cons] at hgood ⊢
          simp; omega
        · cases hr'
          cases hy
          exact htuning
      · exact .refl c o s
    · exact .refl c o s
  · exact .refl c o s

theorem safe_enterTuning {v : VoiceId} (fromFault : Bool) (h : (s.voice v).phase.loose) :
    Safe c o o s (s.enterTuning v fromFault) :=
  ((safe_setPhase_of_loose h rfl).trans (safe_stopGlide v)).trans (safe_withRun (fun _ h => h) (fun _ => rfl))

theorem safe_becomeFree {v : VoiceId} (h : (s.voice v).phase.loose) : Safe c o o s (s.becomeFree v) := by
  unfold State.becomeFree
  split
  · exact (safe_enterTuning false h).trans safe_takeNext
  · exact (safe_goIdle h).trans (safe_offer v)

theorem safe_windowExpiry (v : VoiceId) : Safe c o o s (s.windowExpiry v) := by
  unfold State.windowExpiry
  split
  · next h => exact safe_becomeFree (VoicePhase.loose_of_sounding (.inr h))
  · exact .refl c o s

theorem safe_passZeroWindows : Safe c o o s s.passZeroWindows := by
  refine Safe.foldl (fun s v => ?_) _ s
  split
  · exact safe_windowExpiry v
  · exact .refl c o s

theorem safe_dampEnd (v : VoiceId) : Safe c o o s (s.dampEnd v) := by
  unfold State.dampEnd
  split
  · next n su dp timer h =>
    have hgate : Safe c o (o + pending (some su)) (s.unbind v su.part)
        ((s.unbind v su.part).gateOn v su.part { key := su.key, velocity := su.velocity }) := by
      have hvoice : (s.unbind v su.part).voice v = s.voice v := rfl
      have := safe_gateOn (c := c) (o := o) (s := s.unbind v su.part) (v := v) su.part
        { key := su.key, velocity := su.velocity } (by rw [hvoice, h]; rfl)
      rwa [hvoice, h] at this
    have hturn := ((safe_unbind (c := c) (o := o) v su.part).trans hgate).trans (safe_turnGlide v su.key)
    dsimp only
    split
    · next hkind =>
      rw [pending, if_pos hkind] at hturn
      exact hturn.trans (safe_countSounded su.part)
    · next hkind => rwa [pending, if_neg hkind, add_zero] at hturn
  · next h => exact (safe_setPhase_of_loose (by rw [h]; exact ⟨rfl, rfl⟩) rfl).trans (safe_stopGlide v)
  · next h => exact safe_becomeFree (by rw [h]; exact ⟨rfl, rfl⟩)
  · exact .refl c o s

/-! ### Giving notes -/

theorem safe_deferOrDrop (p : PartId) (k : Key) (velocity : Nat) :
    Safe c (o + owe p) o s (s.deferOrDrop p k velocity) := by
  unfold State.deferOrDrop
  split
  · next h =>
    simp only [Bool.and_eq_true, decide_eq_true_eq] at h
    exact safe_defer (d := { part := p, key := k, velocity, arrival := _, timeout := _ }) h.2
  · exact (safe_countDropped p).trans (safe_postDropped p k _)

theorem safe_allocate (p : PartId) (k : Key) (velocity : Nat) (src : Source) :
    Safe c (o + owe p) o s (s.allocate p k velocity src) := by
  unfold State.allocate
  split
  · next h => exact (safe_soundIdle p _ (State.pickVoice_idle h)).trans (safe_countSounded p)
  · next h => exact safe_damp (some { part := p, key := k, velocity, source := src, kind := .note }) (State.pickVoice_steal h)
  · exact safe_deferOrDrop p k velocity

theorem safe_polyNote (p : PartId) (k : Key) (velocity : Nat) (src : Source) :
    Safe c (o + owe p) o s (s.polyNote p k velocity src) := by
  unfold State.polyNote
  split
  · split
    · exact (safe_reuse _ velocity).trans (safe_countSounded p)
    · exact ((safe_release _).trans safe_passZeroWindows).trans (safe_allocate p k velocity src)
  · exact safe_allocate p k velocity src

theorem safe_followVoice (p : PartId) (e : HeldKey) (v : VoiceId) : Safe c o o s (s.followVoice p e v) := by
  unfold State.followVoice
  split
  · next h =>
    have hloose : (s.voice v).phase.loose := by rw [h]; exact ⟨rfl, rfl⟩
    split
    · refine Safe.trans ?_ (safe_turnGlide v e.key)
      exact (safe_serial _).trans (safe_setVoice_of_loose hloose rfl)
    · exact (safe_setVoice_of_loose hloose rfl).trans (safe_turnGlide v e.key)
  · next h =>
    split
    · next hset =>
      refine safe_setVoice (fun _ => ?_) (fun _ ht => by rw [h] at ht; exact absurd ht nofun)
      rw [Voice.waits_eq, Voice.waits_eq, h]
      simp [VoicePhase.successor?, pending, Successor.follow]
    · exact .refl c o s
  · exact .refl c o s

theorem safe_reselect (p : PartId) : Safe c o o s (s.reselect p) := by
  unfold State.reselect
  split
  · next e _ =>
    split
    · exact .refl c o s
    · refine Safe.trans ?_ (Safe.foldl (fun _ v => safe_followVoice p e v) _ _)
      exact safe_setPerf_of_counters rfl fun _ h => h
  · exact .refl c o s

theorem safe_refreshVoice (p : PartId) (e : HeldKey) (v : VoiceId) : Safe c o o s (s.refreshVoice p e v) := by
  unfold State.refreshVoice
  split
  · exact safe_retrigger v e.velocity
  · next h =>
    split
    · refine safe_setVoice (fun _ => ?_) (fun _ ht => by rw [h] at ht; exact absurd ht nofun)
      rw [Voice.waits_eq, Voice.waits_eq, h]
      simp [VoicePhase.successor?, pending]
    · exact .refl c o s
  · exact .refl c o s

theorem safe_refreshSet (p : PartId) (e : HeldKey) : Safe c o o s (s.refreshSet p e) := by
  unfold State.refreshSet
  split
  · exact Safe.foldl (fun _ v => safe_refreshVoice p e v) _ s
  · exact .refl c o s

theorem safe_pickSet (p : PartId) (e : HeldKey) (n : Nat) (taken : List VoiceId) :
    Safe c o o s (State.pickSet p e n taken s).2 := by
  induction n generalizing taken s with
  | zero => exact .refl c o s
  | succ n ih =>
    unfold State.pickSet
    split
    · next h => exact (safe_soundIdle p _ (State.pickVoice_idle h)).trans (ih _)
    · next h =>
      have hdamp := safe_damp (c := c) (o := o) (some { part := p, key := e.key, velocity := e.velocity, source := e.source, kind := .set })
        (State.pickVoice_steal h)
      rw [pending, if_neg nofun, add_zero] at hdamp
      exact hdamp.trans (ih _)
    · exact .refl c o s

theorem length_pickSet_le (p : PartId) (e : HeldKey) (n : Nat) (taken : List VoiceId) (s : State) :
    (State.pickSet p e n taken s).1.length ≤ taken.length + n := by
  induction n generalizing taken s with
  | zero => simp [State.pickSet]
  | succ n ih =>
    unfold State.pickSet
    split
    · exact (ih _ _).trans (by simp; omega)
    · exact (ih _ _).trans (by simp; omega)
    · simp

theorem wantedCount_congr {t : State} (h : t.params = s.params) (p : PartId) : t.wantedCount p = s.wantedCount p := by
  unfold State.wantedCount State.param
  rw [h]

theorem wantedCount_le (h : s.InRange) (p : PartId) : s.wantedCount p ≤ 8 := by
  have hcount := (h.params p pUnisonCount).2
  rw [show (descriptor pUnisonCount).max = 8 from rfl] at hcount
  unfold State.wantedCount
  split <;> omega

/-- The voices of a list, in ascending order, are no more than the list. -/
theorem length_filter_contains_le (vs : List VoiceId) : (allVoices.filter fun v => vs.contains v).length ≤ vs.length :=
  ((List.nodup_finRange 16).filter _).subperm (fun v hv => by simpa using (List.mem_filter.mp hv).2) |>.length_le

theorem safe_firstKey (p : PartId) (e : HeldKey) : Safe c (o + owe p) o s (s.firstKey p e) := by
  have hpick : Safe c (o + owe p) (o + owe p) s (State.pickSet p e (s.wantedCount p) [] s).2 := safe_pickSet p e _ []
  have hlength := length_pickSet_le p e (s.wantedCount p) [] s
  have hsame := (sameButVoices_pickSet p e (s.wantedCount p) [] s).notes.params
  unfold State.firstKey
  dsimp only
  split
  · exact (hpick.trans (safe_countDropped p)).trans (safe_postDropped p e.key 0)
  · have hset := (hpick.trans (safe_setPerf_of_counters (x := { (State.pickSet p e (s.wantedCount p) [] s).2.perfOf p with
        held := [e], selected := some e.key, wanted := some (s.wantedCount p)
        monoSet := allVoices.filter fun v => (State.pickSet p e (s.wantedCount p) [] s).1.contains v }) rfl
        fun hr h => ?_)).trans (safe_countSounded p)
    · split
      · exact hset.trans (safe_post _ _ _ _)
      · exact hset
    · have hwanted : s.wantedCount p ≤ 8 := wantedCount_congr hsame p ▸ wantedCount_le hr p
      refine ⟨by simp, (length_filter_contains_le _).trans ?_, fun n hn => ?_, h.2.2.2⟩
      · simp only [List.length_nil] at hlength
        omega
      · cases hn
        exact hwanted

theorem length_storeHeld_le (e : HeldKey) {held : List HeldKey} (h : held.length ≤ 10) :
    (storeHeld e held).length ≤ 10 := by
  unfold storeHeld
  split
  · next hany =>
    have hlt : (held.filter fun x => x.key != e.key).length < held.length := by
      rw [List.length_filter_lt_length_iff_exists]
      simpa [List.any_eq_true] using hany
    simp; omega
  · split <;> simp <;> omega

theorem safe_nextKey (p : PartId) (e : HeldKey) : Safe c (o + owe p) o s (s.nextKey p e) := by
  have hstore := (safe_setPerf_of_counters (c := c) (o := o + owe p) (p := p) (s := s)
    (x := { s.perfOf p with held := storeHeld e (s.perfOf p).held }) rfl
    fun _ h => ⟨length_storeHeld_le e h.1, h.2⟩).trans (safe_countSounded p)
  unfold State.nextKey
  dsimp only
  split
  · exact hstore.trans (safe_refreshSet p e)
  · exact hstore.trans (safe_reselect p)

theorem safe_monoNote (p : PartId) (k : Key) (velocity : Nat) (src : Source) :
    Safe c (o + owe p) o s (s.monoNote p k velocity src) := by
  unfold State.monoNote
  dsimp only
  split
  · exact safe_firstKey p _
  · exact safe_nextKey p _

/-- A note that is given to a part is counted in and ends in one of its six places (R7 to R14, R30). -/
theorem safe_giveNote (p : PartId) (k : Key) (velocity : Nat) (src : Source) :
    Safe c o o s (s.giveNote p k velocity src).1 := by
  unfold State.giveNote
  dsimp only
  split
  · exact (safe_countIn p).trans (safe_countRefused p)
  · split
    · exact (safe_countIn p).trans (safe_polyNote p k _ src)
    · exact (safe_countIn p).trans (safe_monoNote p k _ src)

/-! ### Taking notes back -/

theorem safe_sustain (v : VoiceId) : Safe c o o s (s.sustain v) := by
  unfold State.sustain
  split
  · next h => exact safe_setPhase_of_loose (by rw [h]; exact ⟨rfl, rfl⟩) rfl
  · exact .refl c o s

theorem safe_polyKeyOff (p : PartId) (k : Key) : Safe c o o s (s.polyKeyOff p k).1 := by
  unfold State.polyKeyOff
  split
  · dsimp only
    split
    · exact safe_sustain _
    · exact (safe_release _).trans safe_passZeroWindows
  · split
    · next d rest htake =>
      obtain ⟨htest, before, after, hlist, rfl, -⟩ := takeFirst_spec htake
      simp only [Bool.and_eq_true, beq_iff_eq] at htest
      exact htest.1 ▸ (safe_undefer hlist).trans (safe_countCancelled d.part)
    · split
      · exact safe_cancelSuccessor _
      · exact .refl c o s

theorem safe_dissolve (p : PartId) : Safe c o o s (s.dissolve p) := by
  refine (Safe.foldl (fun s v => ?_) _ s).trans (safe_clearHeld p)
  split
  · exact safe_release v
  · split
    · exact safe_cancelSuccessor v
    · exact .refl c o s
  · exact .refl c o s

theorem safe_keepHeld (p : PartId) {held : List HeldKey} (h : held.length ≤ (s.perfOf p).held.length) :
    Safe c o o s (s.keepHeld p held) := by
  unfold State.keepHeld
  split
  · exact safe_dissolve p
  · refine Safe.trans ?_ (safe_reselect p)
    exact safe_setPerf_of_counters rfl fun _ hgood => ⟨h.trans hgood.1, hgood.2⟩

theorem safe_monoKeyOff (p : PartId) (k : Key) : Safe c o o s (s.monoKeyOff p k).1 := by
  unfold State.monoKeyOff
  dsimp only
  split
  · exact .refl c o s
  · split
    · exact .refl c o s
    · split
      · exact safe_setPerf_of_counters rfl fun _ h => ⟨(List.length_map _).trans_le h.1, h.2⟩
      · dsimp only
        exact (safe_keepHeld p (List.length_filter_le _ _)).trans safe_passZeroWindows

theorem safe_keyOff (p : PartId) (k : Key) : Safe c o o s (s.keyOff p k).1 := by
  unfold State.keyOff
  split
  · exact safe_polyKeyOff p k
  · exact safe_monoKeyOff p k

theorem safe_holdOff (p : PartId) : Safe c o o s (s.holdOff p) := by
  unfold State.holdOff
  dsimp only
  split
  · exact safe_releaseSustained p
  · split
    · exact .refl c o s
    · exact safe_keepHeld p (List.length_filter_le _ _)

theorem safe_setHold (on : Bool) (p : PartId) : Safe c o o s (s.setHold on p) := by
  have hflag : Safe c o o s (s.setPerf p { s.perfOf p with hold := on }) := safe_setPerf_of_counters rfl fun _ h => h
  unfold State.setHold
  dsimp only
  split
  · exact .refl c o s
  · split
    · exact hflag
    · exact hflag.trans (safe_holdOff p)

theorem safe_setHolds (on : Bool) (mask : BitVec 4) : Safe c o o s (s.setHolds on mask) :=
  (Safe.foldl (fun _ p => safe_setHold on p) _ s).trans safe_passZeroWindows

theorem safe_toggleHolds (mask : BitVec 4) : Safe c o o s (s.toggleHolds mask) :=
  (Safe.foldl (fun _ p => safe_setHold _ p) _ s).trans safe_passZeroWindows

theorem safe_allOff (mask : BitVec 4) : Safe c o o s (s.allOff mask) :=
  (Safe.foldl (fun _ p => safe_allOffPart p) _ s).trans safe_passZeroWindows

theorem safe_setBend {p : PartId} {x : Nat} (h : x ≤ 16383) : Safe c o o s (s.setBend p x) :=
  safe_setPerf_of_counters rfl fun _ hgood => ⟨hgood.1, hgood.2.1, hgood.2.2.1, h, hgood.2.2.2.2⟩

end

end Sys2Proof.Machine
end

section
/-! PROOFS. The laws across the work of the tune engine: measurements, candidates and their kept run, hand-backs, and a
run from its creation to its end. -/

namespace Sys2Proof.Machine

/-! ### The kept run (R143) -/

/-- A run of P values from anchor `a` on lies within the anchors below `n`, with values of 16 bits. -/
def KeptWithin (n a : Nat) (ps : List Nat) : Prop := a + ps.length ≤ n ∧ ∀ p ∈ ps, p ≤ 65535

theorem passedPitch_eq_some {e : Option AnchorResult} {p : Nat} (h : passedPitch e = some p) : e = some (.passed p) := by
  unfold passedPitch at h
  split at h
  · exact congrArg (fun p => some (AnchorResult.passed p)) (Option.some.inj h)
  · exact absurd h nofun

theorem chainFrom_within {es : List (Option AnchorResult)} (hes : ∀ x ∈ es, ∀ p, x = some (.passed p) → p ≤ 65535)
    {p : Nat} (hp : p ≤ 65535) (a : Nat) : KeptWithin (a + 1 + es.length) a (chainFrom p es) := by
  induction es generalizing a p with
  | nil => exact ⟨by simp [chainFrom], by simpa [chainFrom] using hp⟩
  | cons e es ih =>
    have hone : KeptWithin (a + 1 + (e :: es).length) a [p] := ⟨by simp, by simpa using hp⟩
    unfold chainFrom
    split
    · next q hq =>
      split
      · have hlast := hes e (by simp) q (passedPitch_eq_some hq)
        obtain ⟨hlen, hvals⟩ := ih (fun x hx => hes x (by simp [hx])) hlast (a + 1)
        refine ⟨by simp at hlen ⊢; omega, fun y hy => ?_⟩
        rcases List.mem_cons.mp hy with rfl | hy
        · exact hp
        · exact hvals y hy
      · exact hone
    · exact hone

theorem keptRun_within {es : List (Option AnchorResult)} (hes : ∀ x ∈ es, ∀ p, x = some (.passed p) → p ≤ 65535)
    (a : Nat) : KeptWithin (a + es.length) (keptRun a es).1 (keptRun a es).2 := by
  induction es generalizing a with
  | nil => exact ⟨by simp [keptRun], by simp [keptRun]⟩
  | cons e es ih =>
    have hes' : ∀ x ∈ es, ∀ p, x = some (.passed p) → p ≤ 65535 := fun x hx => hes x (by simp [hx])
    have hlater := ih hes' (a + 1)
    rw [show a + (e :: es).length = a + 1 + es.length by rw [List.length_cons]; omega]
    unfold keptRun
    dsimp only
    cases hp : passedPitch e with
    | none =>
      dsimp only
      split
      · exact ⟨by simp; omega, by simp⟩
      · exact hlater
    | some p =>
      dsimp only
      split
      · exact chainFrom_within hes' (hes e (by simp) p (passedPitch_eq_some hp)) a
      · exact hlater

/-- The map that a decision commits is a good one (R144, R152). -/
theorem decideCandidate_map {k : CalCandidate} (hk : k.good) {m : CalMap}
    (h : (decideCandidate k.entries.toList).2 = some m) :
    ∃ first ps, m = .calibrated first ps ∧ 4 ≤ ps.length ∧ first + ps.length ≤ 8 ∧ ∀ p ∈ ps, p ≤ 65535 := by
  have hkept := keptRun_within hk 0
  unfold decideCandidate at h
  dsimp only at h
  split at h
  · next hlen =>
    cases h
    exact ⟨_, _, rfl, hlen, by simpa using hkept.1, hkept.2⟩
  · exact absurd h nofun

section
variable {c : Known} {o o' : PartId → Nat} {s t : State}

/-! ### Calibration records -/

theorem safe_setCal {osc : OscId} {x : CalRecord} (hgood : s.RestBounded → x.good) : Safe c o o s (s.setCal osc x) where
  inRange _ h := ⟨h.params, h.globals, h.staging, h.slots, h.template, h.controls⟩
  rest _ _ h := { h with
    calibration := fun w => by
      show ((s.setCal osc x).cal w).good
      by_cases hw : w = osc
      · subst hw
        rw [State.cal_setCal_self]
        exact hgood h
      · rw [State.cal_setCal_ne hw]
        exact h.calibration w }
  balance _ _ h := h
  posted := .of_links fun _ => rfl
  run _ _ _ h := h
  current _ h := h

theorem safe_countUnstable (osc : OscId) : Safe c o o s (s.countUnstable osc) :=
  safe_setCal fun h => by
    obtain ⟨-, htune, hmap⟩ := h.calibration osc
    exact ⟨by simp [incSat16], htune, hmap⟩

theorem safe_writeMap {osc : OscId} {m : CalMap} (hm : CalRecord.good { CalRecord.atReset with map := m }) :
    Safe c o o s (s.writeMap osc m) :=
  safe_setCal fun h => by
    obtain ⟨hunstable, htune, -⟩ := h.calibration osc
    exact ⟨hunstable, htune, hm.2.2⟩

/-! ### Measurements that end -/

theorem safe_noMeasurement : Safe c o o s { s with measurement := none } :=
  safe_measure (fun _ => nofun) id id

theorem safe_noCandidate : Safe c o o s { s with candidate := none } :=
  safe_measure id id fun _ => nofun

theorem safe_abandonMeasurement : Safe c o o s s.abandonMeasurement := by
  unfold State.abandonMeasurement
  split
  · exact .refl c o s
  · split
    · exact safe_noMeasurement
    · exact safe_noMeasurement
    · exact safe_measure (fun _ => nofun) (fun _ => min_le_left _ _) id
    · exact safe_measure (fun _ => nofun) (fun _ => min_le_left _ _) id

theorem safe_abortCurrent (x : Current) : Safe c o o s (s.abortCurrent x) :=
  (safe_abandonMeasurement.trans safe_noCandidate).trans (safe_setCal fun h => h.calibration _)

theorem voice_abandonMeasurement (v : VoiceId) : s.abandonMeasurement.voice v = s.voice v := by
  unfold State.abandonMeasurement
  split
  · rfl
  · split <;> rfl

theorem run_abandonMeasurement : s.abandonMeasurement.run = s.run := by
  unfold State.abandonMeasurement
  split
  · rfl
  · split <;> rfl

@[simp] theorem voice_abortCurrent (x : Current) (v : VoiceId) : (s.abortCurrent x).voice v = s.voice v :=
  voice_abandonMeasurement v

@[simp] theorem run_abortCurrent (x : Current) : (s.abortCurrent x).run = s.run := run_abandonMeasurement

/-! ### Hand-backs and notices -/

/-- A voice without a successor is handed back (R29). It leaves TUNING, so the run has to let go of it. -/
theorem keeps_handBack {v : VoiceId} (fault : Bool) (h : c.tuning → (s.voice v).phase.successor? = none) :
    Keeps c o o s (s.handBack v fault) := by
  have hclaim (hc : c.tuning) : ((s.setClaim v false).voice v).phase.successor? = none := by
    simpa [State.voice_setClaim] using h hc
  unfold State.handBack
  dsimp only
  split
  · refine (safe_setClaim v false).toKeeps.trans (keeps_setVoice fun hc => ?_)
    rw [Voice.waits_of_successor_none (hclaim hc), Voice.waits_of_successor_none rfl]
  · exact (safe_setClaim v false).toKeeps.trans (keeps_goIdle hclaim)

theorem run_handBack (v : VoiceId) (fault : Bool) : (s.handBack v fault).run = s.run := by
  unfold State.handBack
  split <;> rfl

/-- A hand-back leaves no successor on any voice that had none. -/
theorem successor_handBack {v w : VoiceId} (fault : Bool) (h : (s.voice w).phase.successor? = none) :
    ((s.handBack v fault).voice w).phase.successor? = none := by
  by_cases hw : w = v
  · subst hw
    unfold State.handBack
    cases fault
    · simp [VoicePhase.successor?]
    · simp [VoicePhase.successor?]
  · have hsame : (s.handBack v fault).voice w = s.voice w := by
      unfold State.handBack State.goIdle State.stopGlide
      cases fault <;>
        simp [State.voice_setPhase, State.voice_setClaim, State.voice_setVoice_ne hw, hw]
    rwa [hsame]

theorem safe_postVoiceDone (v : VoiceId) (a b : CalResult) : Safe c o o s (s.postVoiceDone v a b) := safe_post _ _ _ _

theorem safe_postVoiceOffline (v : VoiceId) (a b : Bool) : Safe c o o s (s.postVoiceOffline v a b) := safe_post _ _ _ _

theorem safe_postRunDone (r : Run) (aborted : Bool) : Safe c o o s (s.postRunDone r aborted) := safe_postAlso _ _ _ _ _

/-! ### A run that goes on or ends -/

theorem keeps_run (x : Option Run) : Keeps c o o s { s with run := x } where
  inRange _ h := ⟨h.params, h.globals, h.staging, h.slots, h.template, h.controls⟩
  rest _ _ h := h
  balance _ _ h := h
  posted := .of_links fun _ => rfl

/-- Work may end a run, whatever it did to its voices. -/
theorem Keeps.endRun (h : Keeps c o o' s t) : Safe c o o' s { t with run := none } where
  toKeeps := h.trans (keeps_run none)
  run _ _ _ _ := nofun
  current _ _ := nofun

/-- Work may let a run go of its current voice, whatever it did to its voices. -/
theorem Keeps.dropCurrent (h : Keeps c o o' s t)
    (hgood : (∀ r, s.run = some r → r.good) → ∀ r, t.run = some r → { r with current := none }.good) :
    Safe c o o' s (t.withRun fun r => { r with current := none }) where
  toKeeps := h.trans (keeps_run _)
  run _ _ _ hs r hr := by
    obtain ⟨r', hr', rfl⟩ := Option.map_eq_some_iff.mp hr
    exact hgood hs r' hr'
  current _ _ r x hr hx := by
    obtain ⟨r', -, rfl⟩ := Option.map_eq_some_iff.mp hr
    exact absurd hx nofun

theorem Run.good_dropCurrent {r : Run} (h : r.good) : { r with current := none }.good := by
  simp only [Run.good] at h ⊢
  omega

theorem safe_unmark (v : VoiceId) : Safe c o o s (s.unmark v) := safe_withRun (fun _ h => h) fun _ => rfl

theorem safe_dequeue (v : VoiceId) : Safe c o o s (s.dequeue v) :=
  safe_withRun (fun r h => by
    have := List.length_filter_le (· != v) r.queue
    simp only [Run.good] at h ⊢
    omega) fun _ => rfl

theorem safe_endRun (r : Run) : Safe c o o s (s.endRun r) := (safe_postRunDone r false).toKeeps.endRun

theorem safe_claimVoice (v : VoiceId) : Safe c o o s (s.claimVoice v) := by
  have hphase : ((s.setClaim v true).voice v).phase = (s.voice v).phase := by simp [State.voice_setClaim]
  unfold State.claimVoice
  split
  · next h => exact (safe_setClaim v true).trans (safe_enterTuning false (by rw [hphase, h]; exact ⟨rfl, rfl⟩))
  · next h => exact (safe_setClaim v true).trans (safe_enterTuning true (by rw [hphase, h]; exact ⟨rfl, rfl⟩))
  · exact safe_setClaim v true
  · exact safe_setClaim v true
  · exact safe_setClaim v true
  · exact .refl c o s

theorem safe_dampNone {v : VoiceId} (h : (s.voice v).phase.isGated = true ∨ (s.voice v).phase.isReleased = true) :
    Safe c o o s (s.damp v none) := by
  simpa [pending] using safe_damp (c := c) (o := o) none h

theorem safe_claimForeground (v : VoiceId) : Safe c o o s (s.claimForeground v) := by
  have hphase : ((s.setClaim v true).voice v).phase = (s.voice v).phase := by simp [State.voice_setClaim]
  unfold State.claimForeground
  split
  · next h => exact (safe_setClaim v true).trans (safe_dampNone (.inl (by rw [hphase, h]; rfl)))
  · next h => exact (safe_setClaim v true).trans (safe_dampNone (.inr (by rw [hphase, h]; rfl)))
  · exact (safe_setClaim v true).trans (safe_cancelAndLeave v)
  · exact safe_claimVoice v

theorem safe_runContinue : Safe c o o s s.runContinue := by
  unfold State.runContinue
  split
  · split
    · exact safe_endRun _
    · split
      · exact (safe_claimVoice _).trans safe_takeNext
      · exact safe_takeNext
    · exact .refl c o s
  · exact .refl c o s

/-- A created run counts each oscillator of at most 16 queued voices once (R137). -/
theorem safe_createRun (mode : RunMode) (requester : Option Link) {queue : List VoiceId} (h : queue.length ≤ 16) :
    Safe c o o s (s.createRun mode requester queue) := by
  have hrun : Safe c o o s { s with
      run := some { mode, requester, queue, current := none, marks := [], passCount := 0, failCount := 0 } } := by
    refine safe_run (fun _ r hr => ?_) (fun _ _ r x hr hx => ?_)
    · cases hr
      simp only [Run.good]
      omega
    · cases hr
      exact absurd hx nofun
  unfold State.createRun
  dsimp only
  cases mode with
  | background => exact hrun.trans safe_runContinue
  | foreground => exact (hrun.trans (Safe.foldl (fun _ v => safe_claimForeground v) _ _)).trans safe_takeNext

theorem length_tuneQueue_le (mask : Nat) : (s.tuneQueue mask).length ≤ 16 :=
  (List.length_filter_le _ _).trans (by simp [allVoices])

/-! ### Measuring the current voice -/

/-- The state in which the current voice is handed back and reported, before the run goes on (R145, steps 1 to 4). -/
def State.handedBack (v : VoiceId) (a b : CalResult) (s : State) : State :=
  let fault := a == .noSignal || b == .noSignal
  let s := s.handBack v fault
  let s := if fault then s.postVoiceOffline v (a == .noSignal) (b == .noSignal) else s
  let s := s.postVoiceDone v a b
  if fault then s else s.offer v

theorem voiceDone_eq (v : VoiceId) (a b : CalResult) (s : State) :
    s.voiceDone v a b =
      (((s.handedBack v a b).withRun fun r => { r with current := none }).unmark v).runContinue := rfl

theorem keeps_handedBack {v : VoiceId} (a b : CalResult) (h : c.tuning → (s.voice v).phase.successor? = none) :
    Keeps c o o s (s.handedBack v a b) := by
  unfold State.handedBack
  dsimp only
  split
  · exact ((keeps_handBack _ h).trans (safe_postVoiceOffline v _ _).toKeeps).trans (safe_postVoiceDone v a b).toKeeps
  · exact ((keeps_handBack _ h).trans (safe_postVoiceDone v a b).toKeeps).trans (safe_offer v).toKeeps

theorem run_offer (v : VoiceId) : (s.offer v).run = s.run := by
  rw [sameButVoices_offer v s]

theorem run_handedBack (v : VoiceId) (a b : CalResult) : (s.handedBack v a b).run = s.run := by
  unfold State.handedBack State.postVoiceOffline State.postVoiceDone
  dsimp only
  split
  · simp [run_handBack]
  · rw [run_offer]
    simp [run_handBack]

/-- The records that a decision writes, before the run counts it (R144). -/
def State.decided (k : CalCandidate) (s : State) : State :=
  let d := decideCandidate k.entries.toList
  { s.setCal k.osc { s.cal k.osc with
      map := d.2.getD (s.cal k.osc).map, lastResult := d.1, tuneCount := incSat16 (s.cal k.osc).tuneCount } with
    candidate := none }

/-- A decided oscillator is counted (R144). -/
def Run.counted (res : CalResult) (r : Run) : Run :=
  if res = .pass then { r with passCount := r.passCount + 1 } else { r with failCount := r.failCount + 1 }

theorem decideOscillator_eq (k : CalCandidate) (s : State) :
    s.decideOscillator k =
      ((s.decided k).withRun (Run.counted (decideCandidate k.entries.toList).1), (decideCandidate k.entries.toList).1) :=
  rfl

theorem safe_decided {k : CalCandidate} (hk : s.candidate = some k) : Safe c o o s (s.decided k) := by
  refine (safe_setCal fun h => ?_).trans safe_noCandidate
  obtain ⟨hunstable, -, hmap⟩ := h.calibration k.osc
  refine ⟨hunstable, by simp [incSat16], ?_⟩
  cases hd : (decideCandidate k.entries.toList).2 with
  | none => exact hmap
  | some m =>
    obtain ⟨first, ps, rfl, hgood⟩ := decideCandidate_map (h.candidate k hk) hd
    exact hgood

theorem Run.good_counted_second {r : Run} {x : Current} (hx : r.current = some x) (hsecond : x.second = true)
    (h : r.good) (res : CalResult) : { r.counted res with current := none }.good := by
  unfold Run.counted
  simp only [Run.good, hx, hsecond, if_true] at h
  split <;> (simp only [Run.good]; omega)

theorem Run.good_counted_first {r : Run} {x : Current} (hx : r.current = some x) (hsecond : x.second = false)
    (h : r.good) (res : CalResult) (y : Current) (hy : y.second = true) :
    { r.counted res with current := some y }.good := by
  unfold Run.counted
  simp only [Run.good, hx, hsecond] at h
  split <;> (simp only [Run.good, hy, if_true]; simp at h; omega)

theorem safe_voiceDone_counted {r : Run} {x : Current} {k : CalCandidate} (hr : s.run = some r)
    (hx : r.current = some x) (hsecond : x.second = true) (hk : s.candidate = some k)
    (hc : c.tuning → s.currentTuning) (res a b : CalResult) :
    Safe c o o s (((s.decided k).withRun (Run.counted res)).voiceDone x.voice a b) := by
  have hvoice (hknown : c.tuning) : (s.voice x.voice).phase.successor? = none :=
    VoicePhase.successor_of_tuning (hc hknown r x hr hx)
  have hkeeps : Keeps c o o s (((s.decided k).withRun (Run.counted res)).handedBack x.voice a b) :=
    ((safe_decided hk).toKeeps.trans (keeps_run _)).trans (keeps_handedBack a b hvoice)
  rw [voiceDone_eq]
  refine ((hkeeps.dropCurrent fun hgood r' hr' => ?_).trans (safe_unmark _)).trans safe_runContinue
  rw [run_handedBack] at hr'
  have hr'' : (some r).map (Run.counted res) = some r' := hr ▸ hr'
  cases hr''
  exact Run.good_counted_second hx hsecond (hgood r hr) res

/-- The completion of an anchor keeps the laws: the current voice is TUNING, and holds no successor (R136, R142). -/
theorem safe_anchorCompleted (hc : c.tuning → s.currentTuning) : Safe c o o s s.anchorCompleted := by
  unfold State.anchorCompleted
  split
  · next r hr =>
    split
    · next x k hx hk =>
      have hvoice (hknown : c.tuning) : (s.voice x.voice).phase.isTuning = true := hc hknown r x hr hx
      split
      · refine Safe.trans (safe_run (fun hgood r' hr' => ?_) fun hknown _ r' y hr' hy => ?_)
          (safe_startAnchor _ _ fun hknown => VoicePhase.successor_of_tuning (hvoice hknown))
        · cases hr'
          have hr := hgood r hr
          simp only [Run.good, hx] at hr ⊢
          exact hr
        · cases hr'
          cases hy
          exact hvoice hknown
      · rw [decideOscillator_eq]
        dsimp only
        split
        · next hsecond => exact safe_voiceDone_counted hr hx hsecond hk hc _ _ _
        · next hsecond =>
          refine (safe_decided hk).trans (Safe.trans (safe_run (x := ((s.decided k).run.map _).map _)
            (fun hgood r' hr' => ?_) fun hknown _ r' y hr' hy => ?_)
            (safe_openOscillator _ fun hknown => VoicePhase.successor_of_tuning (hvoice hknown)))
          · have hr'' : ((some r).map _).map _ = some r' := hr ▸ hr'
            cases hr''
            exact Run.good_counted_first hx (by simpa using hsecond) (hgood r hr) _ _ rfl
          · have hr'' : ((some r).map _).map _ = some r' := hr ▸ hr'
            cases hr''
            cases hy
            exact hvoice hknown
    · exact .refl c o s
  · exact .refl c o s

theorem safe_finishAnchor (m : Measurement) {res : AnchorResult} (hres : ∀ p, res = .passed p → p ≤ 65535)
    (hc : c.tuning → s.currentTuning) : Safe c o o s (s.finishAnchor m res) := by
  refine (safe_measure (m := none) (fun _ => nofun) id fun hk k' hk' => ?_).trans (safe_anchorCompleted hc)
  obtain ⟨k, hkey, rfl⟩ := Option.map_eq_some_iff.mp hk'
  intro x hx p hp
  subst hp
  rw [Vector.mem_toList_iff] at hx
  rcases Vector.mem_or_eq_of_mem_set (hi := m.anchor.isLt) hx with hx | hx
  · exact hk k hkey _ (Vector.mem_toList_iff.mpr hx) p rfl
  · cases hx
    exact hres p rfl

/-! ### Runs that are aborted -/

theorem keeps_abortCurrentVoice {r : Run} (h : ∀ x, r.current = some x → c.tuning → (s.voice x.voice).phase.isTuning = true) :
    Keeps c o o s (s.abortCurrentVoice r).1 := by
  unfold State.abortCurrentVoice
  split
  · exact .refl c o s
  · next x hx =>
    have hback (fault : Bool) : Keeps c o o s ((s.abortCurrent x).handBack x.voice fault) :=
      (safe_abortCurrent x).toKeeps.trans (keeps_handBack fault fun hc => by
        rw [voice_abortCurrent]
        exact VoicePhase.successor_of_tuning (h x hx hc))
    dsimp only
    split
    · exact ((hback _).trans (safe_postVoiceOffline _ _ _).toKeeps).trans (safe_postVoiceDone _ _ _).toKeeps
    · exact (hback _).trans (safe_postVoiceDone _ _ _).toKeeps

theorem keeps_handBacks (fault : VoiceId → Bool) (vs : List VoiceId)
    (h : ∀ v ∈ vs, c.tuning → (s.voice v).phase.successor? = none) :
    Keeps c o o s (vs.foldl (fun s v => s.handBack v (fault v)) s) := by
  induction vs generalizing s with
  | nil => exact .refl c o s
  | cons v vs ih =>
    exact (keeps_handBack _ (h v (by simp))).trans
      (ih fun w hw hc => successor_handBack _ (h w (by simp [hw]) hc))

theorem keeps_abortWaiting (r : Run) : Keeps c o o s (s.abortWaiting r).1 :=
  keeps_handBacks _ _ fun _ hv _ => VoicePhase.successor_of_tuning (List.mem_filter.mp hv).2

theorem safe_clearClaims : Safe c o o s s.clearClaims := by
  refine Safe.foldl (fun s v => ?_) _ s
  split
  · exact safe_setClaim v false
  · exact .refl c o s

theorem safe_abortRun {r : Run} (hr : s.run = some r) (hc : c.tuning → s.currentTuning) :
    Safe c o o s (s.abortRun r) := by
  have hvoices : Keeps c o o s ((s.abortCurrentVoice r).1.abortWaiting r).1 :=
    (keeps_abortCurrentVoice fun x hx hknown => hc hknown r x hr hx).trans (keeps_abortWaiting r)
  exact ((hvoices.trans (safe_clearClaims.trans (safe_postRunDone r true)).toKeeps).endRun).trans (safe_offerAll _)

theorem keeps_abortRunForReset : Keeps c o o s s.abortRunForReset := by
  unfold State.abortRunForReset
  split
  · exact .refl c o s
  · dsimp only
    split
    · exact (((safe_abortCurrent _).trans (safe_postVoiceDone _ _ _)).trans (safe_postRunDone _ true)).toKeeps.trans
        (keeps_run none)
    · exact (safe_postRunDone _ true).toKeeps.trans (keeps_run none)

/-! ### VOICE_ENABLE and VOICE_DISABLE -/

theorem safe_enableVoice (v : VoiceId) : Safe c o o s (s.enableVoice v) := by
  unfold State.enableVoice
  split
  · next h => exact safe_goIdle (by rw [h]; exact ⟨rfl, rfl⟩)
  · next h =>
    refine safe_setVoice (fun _ => ?_) (fun _ ht => by rw [h] at ht; exact absurd ht nofun)
    rw [Voice.waits_eq, Voice.waits_eq, h]
    rfl
  · exact .refl c o s

theorem safe_enableVoices (mask : Nat) : Safe c o o s (s.enableVoices mask) :=
  (Safe.foldl (fun _ v => safe_enableVoice v) _ s).trans (safe_offerAll _)

theorem safe_pendDisable (v : VoiceId) : Safe c o o s (s.pendDisable v) := by
  unfold State.pendDisable
  split
  · next h =>
    refine safe_setVoice (fun _ => ?_) (fun _ ht => by rw [h] at ht; exact absurd ht nofun)
    rw [Voice.waits_eq, Voice.waits_eq, h]
    rfl
  · exact .refl c o s

theorem keeps_goDisabled {v : VoiceId} (h : (s.voice v).phase.successor? = none) : Keeps c o o s (s.goDisabled v) :=
  ((keeps_setVoice fun _ => by
      rw [Voice.waits_of_successor_none h, Voice.waits_of_successor_none rfl]).trans
    (safe_setClaim v false).toKeeps).trans (safe_stopGlide v).toKeeps

theorem safe_goDisabled {v : VoiceId} (h : (s.voice v).phase.loose) : Safe c o o s (s.goDisabled v) :=
  ((safe_setPhase_of_loose h rfl).trans (safe_setClaim v false)).trans (safe_stopGlide v)

theorem safe_leaveRun (v : VoiceId) : Safe c o o s (s.leaveRun v) := by
  unfold State.leaveRun
  split
  · exact ((safe_dequeue v).trans (safe_unmark v)).trans safe_runContinue
  · exact .refl c o s

theorem safe_disableCurrent {x : Current} (h : (s.voice x.voice).phase.isTuning = true) :
    Safe c o o s (s.disableCurrent x) := by
  have hkeeps : Keeps c o o s (((s.abortCurrent x).goDisabled x.voice).postVoiceDone x.voice x.resultA .aborted) :=
    ((safe_abortCurrent x).toKeeps.trans (keeps_goDisabled (by
      rw [voice_abortCurrent]
      exact VoicePhase.successor_of_tuning h))).trans (safe_postVoiceDone _ _ _).toKeeps
  refine ((hkeeps.dropCurrent fun hgood r hr => ?_).trans (safe_unmark _)).trans safe_runContinue
  rw [State.postVoiceDone, State.post_run] at hr
  have hr' : (s.abortCurrent x).run = some r := hr
  exact Run.good_dropCurrent (hgood r (run_abortCurrent x ▸ hr'))

/-- A TUNING voice that is not the current one may leave TUNING. -/
theorem safe_goDisabled_waiting {v : VoiceId} (h : (s.voice v).phase.isTuning = true)
    (hv : ∀ r x, s.run = some r → r.current = some x → x.voice ≠ v) : Safe c o o s (s.goDisabled v) where
  toKeeps := keeps_goDisabled (VoicePhase.successor_of_tuning h)
  run _ _ _ hs := hs
  current _ hs r x hr hx := by
    have hne := hv r x hr hx
    have hsame : (s.goDisabled v).voice x.voice = s.voice x.voice := by
      simp [State.goDisabled, State.stopGlide, State.voice_setClaim, State.voice_setPhase, hne]
    rw [hsame]
    exact hs r x hr hx

theorem safe_disableTuning {v : VoiceId} (h : (s.voice v).phase.isTuning = true) : Safe c o o s (s.disableTuning v) := by
  unfold State.disableTuning
  split
  · next x hx =>
    obtain ⟨r, hr, hcurrent⟩ := Option.bind_eq_some_iff.mp hx
    split
    · next hv => exact safe_disableCurrent (hv ▸ h)
    · next hv =>
      refine Safe.trans (safe_goDisabled_waiting h fun r' x' hr' hx' => ?_) (safe_leaveRun v)
      cases hr.symm.trans hr'
      cases hcurrent.symm.trans hx'
      exact hv
  · next hx =>
    refine Safe.trans (safe_goDisabled_waiting h fun r' x' hr' hx' => ?_) (safe_leaveRun v)
    rw [hr', Option.bind_some, hx'] at hx
    exact absurd hx nofun

theorem safe_disableVoice (v : VoiceId) : Safe c o o s (s.disableVoice v) := by
  unfold State.disableVoice
  split
  · next h => exact (safe_goDisabled (by rw [h]; exact ⟨rfl, rfl⟩)).trans (safe_leaveRun v)
  · next h =>
    exact (((safe_dampNone (.inl (by rw [h]; rfl))).trans (safe_pendDisable v)).trans (safe_setClaim v false)).trans
      (safe_leaveRun v)
  · next h =>
    exact (((safe_dampNone (.inr (by rw [h]; rfl))).trans (safe_pendDisable v)).trans (safe_setClaim v false)).trans
      (safe_leaveRun v)
  · exact (((safe_cancelAndLeave v).trans (safe_pendDisable v)).trans (safe_setClaim v false)).trans (safe_leaveRun v)
  · exact .refl c o s
  · next h => exact safe_disableTuning (by rw [h]; rfl)
  · next h => exact (safe_goDisabled (by rw [h]; exact ⟨rfl, rfl⟩)).trans (safe_leaveRun v)
  · exact .refl c o s

/-! ### Edges and timers of a measurement -/

theorem State.currentTuning_counter (x : Nat) (h : s.currentTuning) : { s with periodCounter := x }.currentTuning := h

theorem safe_edgeExpiry {m : Measurement} (hc : c.tuning → s.currentTuning) : Safe c o o s (s.edgeExpiry m) := by
  unfold State.edgeExpiry
  split
  · exact .refl c o s
  · exact safe_finishAnchor (res := .dead) m nofun hc
  · exact (safe_measure id (fun _ => min_le_left counterMax _) id).trans
      (safe_finishAnchor m nofun fun hknown => State.currentTuning_counter _ (hc hknown))
  · exact (safe_measure id (fun _ => min_le_left counterMax _) id).trans
      (safe_finishAnchor m nofun fun hknown => State.currentTuning_counter _ (hc hknown))

theorem safe_saturate (m : Measurement) (hc : c.tuning → s.currentTuning) : Safe c o o s (s.saturate m) :=
  (safe_measure id (fun _ => le_refl 16777215) id).trans (safe_finishAnchor (res := .dead) m nofun hc)

theorem stableResult_passed {cnt n p : Nat} (h : stableResult cnt n = .passed p) : p ≤ 65535 := by
  unfold stableResult at h
  split at h
  · next hrange =>
    rw [AnchorResult.passed.injEq] at h
    omega
  · exact absurd h nofun

theorem chooseN_le (c1 : Nat) : 1 ≤ chooseN c1 ∧ chooseN c1 ≤ 256 := by
  unfold chooseN
  cases h : [1, 2, 4, 8, 16, 32, 64, 128].find? fun n => 65536 ≤ n * c1 with
  | none => simp
  | some n =>
    have hmem := List.mem_of_find?_eq_some h
    simp only [List.mem_cons, List.not_mem_nil, or_false] at hmem
    simp only [Option.getD_some]
    omega

theorem safe_closeCount {m : Measurement} {cnt : Nat} (n c1 : Nat) (hcnt : cnt ≤ 16777215)
    (hc : c.tuning → s.currentTuning) : Safe c o o s (s.closeCount m cnt n c1) := by
  have hcounter : Safe c o o s { s with periodCounter := cnt } := safe_measure id (fun _ => hcnt) id
  unfold State.closeCount
  dsimp only
  split
  · exact hcounter.trans (safe_finishAnchor m (fun _ => stableResult_passed) hc)
  · split
    · next hlt =>
      refine (hcounter.trans (safe_countUnstable m.osc)).trans (safe_measure (fun hgood x hx => ?_) id id)
      cases hx
      exact ⟨by simp, by simp; omega, trivial⟩
    · exact (hcounter.trans (safe_countUnstable m.osc)).trans (safe_finishAnchor (res := .unstable) m nofun hc)

theorem safe_countEdge {m : Measurement} {c1 n periods : Nat} (ticks : Nat) (hm : s.measurement = some m)
    (hphase : m.phase = .count c1 n periods) (hc : c.tuning → s.currentTuning) :
    Safe c o o s (s.countEdge m ticks c1 n periods) := by
  unfold State.countEdge
  dsimp only
  split
  · exact safe_saturate m hc
  · next hcount =>
    have hcnt : s.periodCounter + ticks ≤ 16777215 := by
      unfold counterMax at hcount
      omega
    split
    · refine safe_measure (fun hgood x hx => ?_) (fun _ => hcnt) id
      have hm' := hgood m hm
      cases hx
      simp only [Measurement.good, hphase] at hm' ⊢
      omega
    · exact safe_closeCount n c1 hcnt hc

end

end Sys2Proof.Machine
end

section
/-! PROOFS. The laws across the work on parameters, morphs, the panel and Link N: what each computed value lies between,
and what each write keeps. -/

namespace Sys2Proof.Machine

/-! ### Values between two bounds -/

/-- A fraction of a distance lies between 0 and the distance: the quotient rounded toward 0. -/
theorem tdiv_between {d f n : Int} (hn : 0 < n) (hf : 0 ≤ f) (hfn : f ≤ n) :
    (0 ≤ d → 0 ≤ (d * f).tdiv n ∧ (d * f).tdiv n ≤ d) ∧ (d ≤ 0 → d ≤ (d * f).tdiv n ∧ (d * f).tdiv n ≤ 0) := by
  have hpos (e : Int) (he : 0 ≤ e) : 0 ≤ (e * f).tdiv n ∧ (e * f).tdiv n ≤ e := by
    rw [Int.tdiv_eq_ediv_of_nonneg (mul_nonneg he hf)]
    exact ⟨Int.ediv_nonneg (mul_nonneg he hf) hn.le,
      Int.ediv_le_of_le_mul hn (mul_le_mul_of_nonneg_left hfn he)⟩
  refine ⟨hpos d, fun hd => ?_⟩
  have h := hpos (-d) (by omega)
  rw [neg_mul, Int.neg_tdiv] at h
  omega

/-- The same for the quotient rounded down. -/
theorem ediv_between {d f n : Int} (hn : 0 < n) (hf : 0 ≤ f) (hfn : f ≤ n) :
    (0 ≤ d → 0 ≤ d * f / n ∧ d * f / n ≤ d) ∧ (d ≤ 0 → d ≤ d * f / n ∧ d * f / n ≤ 0) := by
  refine ⟨fun hd => ⟨Int.ediv_nonneg (mul_nonneg hd hf) hn.le,
    Int.ediv_le_of_le_mul hn (mul_le_mul_of_nonneg_left hfn hd)⟩, fun hd => ⟨?_, ?_⟩⟩
  · exact (Int.le_ediv_iff_mul_le hn).mpr (mul_le_mul_of_nonpos_left hfn hd)
  · exact Int.ediv_le_of_le_mul hn (by rw [zero_mul]; exact mul_nonpos_of_nonpos_of_nonneg hd hf)

theorem descriptor_min_le_max (i : ParamId) : (descriptor i).min ≤ (descriptor i).max :=
  (show ∀ i, (descriptor i).min ≤ (descriptor i).max by decide) i

theorem clampTo_between {lo hi : Nat} (h : lo ≤ hi) (x : Nat) : lo ≤ clampTo lo hi x ∧ clampTo lo hi x ≤ hi := by
  unfold clampTo
  omega

theorem inRange_clampParam (i : ParamId) (x : Nat) : inRange i (clampParam i x) :=
  clampTo_between (descriptor_min_le_max i) x

theorem clampGlobal_between (g : GlobalId) (x : Nat) :
    globalRanges[g].1 ≤ clampGlobal g x ∧ clampGlobal g x ≤ globalRanges[g].2 :=
  clampTo_between ((show ∀ g : GlobalId, globalRanges[g].1 ≤ globalRanges[g].2 by decide) g) x

theorem inRange_stepValue {i : ParamId} {v : Nat} (h : inRange i v) : inRange i (stepValue i v) := by
  obtain ⟨hlo, -⟩ := h
  have := descriptor_min_le_max i
  unfold stepValue inRange
  split <;> omega

theorem inRange_knobValue (i : ParamId) {pos : Nat} (h : pos ≤ 4095) : inRange i (knobValue i pos) := by
  have hrange := descriptor_min_le_max i
  have hscale : (((descriptor i).max - (descriptor i).min) * pos + 2047) / 4095 ≤ (descriptor i).max - (descriptor i).min := by
    have := Nat.mul_le_mul_left ((descriptor i).max - (descriptor i).min) h
    omega
  unfold knobValue inRange
  omega

theorem inRange_contValue {i : ParamId} {start target : Nat} (hs : inRange i start) (ht : inRange i target) {phi : Int}
    (hphi : 0 ≤ phi ∧ phi ≤ 1024) : inRange i (contValue start target phi) := by
  obtain ⟨hslo, hshi⟩ := hs
  obtain ⟨htlo, hthi⟩ := ht
  have hmove := tdiv_between (d := (target : Int) - start) (n := 1024) (by decide) hphi.1 hphi.2
  unfold contValue inRange
  omega

/-- A SCALE move that is a move lands in the range of its parameter (R110). -/
theorem inRange_scaleValue {i : ParamId} {v p0 p1 : Nat} (hv : inRange i v) (h0 : p0 ≤ 4095) (h1 : p1 ≤ 4095)
    (hne : p0 ≠ p1) : inRange i (scaleValue i v p0 p1) := by
  obtain ⟨hlo, hhi⟩ := hv
  unfold scaleValue inRange
  dsimp only
  by_cases hup : p0 < p1
  · have hmove := tdiv_between (d := ((descriptor i).max : Int) - v) (f := (p1 : Int) - p0) (n := 4095 - p0)
      (by omega) (by omega) (by omega)
    rw [if_pos hup, if_pos hup]
    omega
  · have hmove := tdiv_between (d := ((descriptor i).min : Int) - v) (f := (p0 : Int) - p1) (n := p0)
      (by omega) (by omega) (by omega)
    rw [if_neg hup, if_neg hup, show (p1 : Int) - p0 = -((p0 : Int) - p1) by omega, show (0 : Int) - p0 = -p0 by omega,
      mul_neg, Int.neg_tdiv, Int.tdiv_neg, neg_neg]
    omega

theorem level_between {s : State} (h : s.InRange) (curve : Curve) (i : Nat) :
    0 ≤ s.level curve i ∧ s.level curve i ≤ 1024 := by
  obtain ⟨h1, h2, h3⟩ := h.template
  unfold State.level
  split
  · omega
  · cases curve <;> dsimp only <;> omega
  · cases curve <;> dsimp only <;> omega
  · cases curve <;> dsimp only <;> omega
  · omega

/-- The curve value of a running morph lies in 0 to 1024 (R74). -/
theorem phi_between {s : State} (h : s.InRange) (curve : Curve) {e total : Nat} (he : e < total) :
    0 ≤ s.phi curve e total ∧ s.phi curve e total ≤ 1024 := by
  have hx : e * 1024 / total < 1024 := Nat.div_lt_of_lt_mul (by nlinarith)
  unfold State.phi
  dsimp only
  generalize e * 1024 / total = x at hx
  have h0 := level_between h curve (min 3 (x / 256))
  have h1 := level_between h curve (min 3 (x / 256) + 1)
  generalize s.level curve (min 3 (x / 256)) = y0 at h0
  generalize s.level curve (min 3 (x / 256) + 1) = y1 at h1
  have hmove := ediv_between (d := y1 - y0) (f := (x : Int) - 256 * (min 3 (x / 256) : Nat)) (n := 256) (by decide)
    (by omega) (by omega)
  omega

/-- The filter moves toward the sample and not past it (R90). -/
theorem filterStep_le (shift : Nat) {filtered raw : Nat} (hf : filtered ≤ 65520) (hr : raw ≤ 4095) :
    filterStep shift filtered raw ≤ 65520 := by
  have hpow : 1 ≤ 2 ^ shift := Nat.one_le_two_pow
  have hmove := ediv_between (d := ((raw * 16 : Nat) : Int) - filtered) (f := 1) (n := (2 ^ shift : Nat)) (by omega)
    (by decide) (by omega)
  rw [mul_one] at hmove
  unfold filterStep
  omega

section
variable {c : Known} {o : PartId → Nat} {s : State}

/-! ### Writes of the image, of slots and of the template -/

/-- The records on which no law rests. -/
theorem safe_free {pend : List Instr} {ks : Vector (Option KnobBinding) 128} {sa : Vector SwitchAction 64}
    {ret : Option Nat} {out : Output} {now : Stamp} {rst : Bool} : Safe c o o s { s with
      pending := pend, knobs := ks, switchActions := sa, retune := ret, output := out, timestamp := now
      rstb := rst } where
  inRange _ h := ⟨h.params, h.globals, h.staging, h.slots, h.template, h.controls⟩
  rest _ _ h := { h with }
  balance _ _ h := h
  posted := .of_links fun _ => rfl
  run _ _ _ h := h
  current _ h := h

theorem safe_setKnob (k : ControlId) (b : Option KnobBinding) : Safe c o o s (s.setKnob k b) := safe_free

theorem safe_tellMap (p : PartId) (i : ParamId) (ref : Nat) : Safe c o o s (s.tellMap p i ref) := safe_free

theorem safe_tellAll (p : PartId) (es : List (ParamId × Nat)) : Safe c o o s (s.tellAll p es) := by
  unfold State.tellAll
  exact Safe.foldl (fun _ (e : ParamId × Nat) => safe_tellMap p e.1 e.2) es s

/-- Several parameters of a part may be written with values in their ranges. -/
theorem safe_setParams {α : Type} (p : PartId) (index : α → ParamId) (value : α → Nat) (l : List α)
    (h : c.values → s.InRange → ∀ a ∈ l, inRange (index a) (value a)) :
    Safe c o o s (l.foldl (fun s a => s.setParam p (index a) (value a)) s) := by
  have hframe (t : State) : ∃ ps, l.foldl (fun s a => s.setParam p (index a) (value a)) t = { t with params := ps } := by
    clear h
    induction l generalizing t with
    | nil => exact ⟨t.params, rfl⟩
    | cons a l ih =>
      obtain ⟨ps, hps⟩ := ih (t.setParam p (index a) (value a))
      exact ⟨ps, hps⟩
  have hvalues (t : State) (ht : ∀ q j, inRange j (t.param q j)) (hl : ∀ a ∈ l, inRange (index a) (value a)) (q : PartId)
      (j : ParamId) : inRange j ((l.foldl (fun s a => s.setParam p (index a) (value a)) t).param q j) := by
    clear h hframe
    induction l generalizing t with
    | nil => exact ht q j
    | cons a l ih =>
      refine ih _ (fun q' j' => ?_) fun b hb => hl b (by simp [hb])
      rw [State.param_setParam]
      split
      · next heq => exact heq.2 ▸ hl a (by simp)
      · exact ht q' j'
  have hnew := hvalues s
  obtain ⟨ps, hps⟩ := hframe s
  rw [hps] at hnew ⊢
  exact {
    inRange := fun hv hs =>
      ⟨hnew hs.params (h hv hs), hs.globals, hs.staging, hs.slots, hs.template, hs.controls⟩
    rest := fun _ _ hs => { hs with }
    balance := fun _ _ hs => hs
    posted := .of_links fun _ => rfl
    run := fun _ _ _ hs => hs
    current := fun _ hs => hs }

theorem safe_setParam (p : PartId) {i : ParamId} {x : Nat} (h : c.values → s.InRange → inRange i x) :
    Safe c o o s (s.setParam p i x) :=
  safe_setParams p Prod.fst Prod.snd [(i, x)] fun hv hs a ha => by
    cases List.mem_singleton.mp ha
    exact h hv hs

theorem safe_setGlobal {g : GlobalId} {x : Nat} (h : globalRanges[g].1 ≤ x ∧ x ≤ globalRanges[g].2) :
    Safe c o o s (s.setGlobal g x) where
  inRange _ hs := ⟨hs.params, fun g' => by
    by_cases hg : g' = g
    · subst hg
      rw [State.global_setGlobal_self]
      exact h
    · rw [State.global_setGlobal_ne hg]
      exact hs.globals g', hs.staging, hs.slots, hs.template, hs.controls⟩
  rest _ _ hs := { hs with }
  balance _ _ hs := hs
  posted := .of_links fun _ => rfl
  run _ _ _ hs := hs
  current _ hs := hs

theorem safe_setSlot {p : PartId} {x : Option Morph}
    (hvalues : c.values → s.InRange → ∀ m, x = some m → ∀ e ∈ m.entries, e.good)
    (hgood : c.values → (∀ m, s.slotOf p = some m → m.good) → ∀ m, x = some m → m.good) :
    Safe c o o s (s.setSlot p x) where
  inRange hv hs := ⟨hs.params, hs.globals, hs.staging, fun q m hm => by
    by_cases hq : q = p
    · subst hq
      rw [State.slotOf_setSlot_self] at hm
      exact hvalues hv hs m hm
    · rw [State.slotOf_setSlot_ne hq] at hm
      exact hs.slots q m hm, hs.template, hs.controls⟩
  rest hv _ hs := { hs with
    slots := fun q m hm => by
      have hm' : (s.setSlot p x).slotOf q = some m := hm
      by_cases hq : q = p
      · subst hq
        rw [State.slotOf_setSlot_self] at hm'
        exact hgood hv (hs.slots q) m hm'
      · rw [State.slotOf_setSlot_ne hq] at hm'
        exact hs.slots q m hm' }
  balance _ _ hs := hs
  posted := .of_links fun _ => rfl
  run _ _ _ hs := hs
  current _ hs := hs

theorem safe_clearSlot (p : PartId) : Safe c o o s (s.setSlot p none) := safe_setSlot (fun _ _ => nofun) fun _ _ => nofun

theorem safe_template {x : CurveTemplate} (h : x.l1 ≤ 1024 ∧ x.l2 ≤ 1024 ∧ x.l3 ≤ 1024) :
    Safe c o o s { s with template := x } where
  inRange _ hs := ⟨hs.params, hs.globals, hs.staging, hs.slots, h, hs.controls⟩
  rest _ _ hs := { hs with }
  balance _ _ hs := hs
  posted := .of_links fun _ => rfl
  run _ _ _ hs := hs
  current _ hs := hs

/-! ### The part reconcile (R60 to R65) -/

theorem Safe.repeatStep {f : State → State} (h : ∀ s, Safe c o o s (f s)) (n : Nat) (s : State) :
    Safe c o o s (repeatStep f n s) := by
  induction n generalizing s with
  | zero => exact .refl c o s
  | succ n ih => exact (h s).trans (ih _)

theorem safe_maskVoice (p : PartId) (v : VoiceId) : Safe c o o s (s.maskVoice p v) := by
  unfold State.maskVoice
  split
  · exact .refl c o s
  · split
    · exact safe_releaseAndLeave v
    · split
      · exact safe_cancelAndLeave v
      · exact .refl c o s

theorem safe_budgetRelease (p : PartId) (s : State) : Safe c o o s (s.budgetRelease p) := by
  unfold State.budgetRelease
  split
  · split
    · exact safe_releaseAndLeave _
    · exact .refl c o s
  · exact .refl c o s

theorem safe_budgetCancel (p : PartId) (s : State) : Safe c o o s (s.budgetCancel p) := by
  unfold State.budgetCancel
  split
  · split
    · exact safe_cancelAndLeave _
    · exact .refl c o s
  · exact .refl c o s

theorem safe_budgetStage (p : PartId) : Safe c o o s (s.budgetStage p) :=
  (Safe.repeatStep (safe_budgetRelease p) 16 s).trans (Safe.repeatStep (safe_budgetCancel p) 16 _)

/-- Work that is done when its condition holds. -/
theorem Safe.ite {b : Prop} [Decidable b] {t : State} (h : Safe c o o s t) : Safe c o o s (if b then t else s) := by
  split
  · exact h
  · exact .refl c o s

theorem safe_keyStage (old : Vector Nat 40) (p : PartId) : Safe c o o s (s.keyStage old p) :=
  (Safe.ite (safe_allOffPart p)).trans (Safe.ite (safe_reselect p))

theorem safe_reconcile (old : Vector Nat 40) (p : PartId) : Safe c o o s (s.reconcile old p) := by
  unfold State.reconcile
  extract_lets s₁ s₂ s₃ s₄ s₅
  have hmode : Safe c o o s s₁ := Safe.ite (safe_allOffPart p)
  have hmask : Safe c o o s₁ s₂ := Safe.ite (Safe.foldl (fun _ v => safe_maskVoice p v) _ _)
  have hbudget : Safe c o o s₂ s₃ := Safe.ite (safe_budgetStage p)
  have hkey : Safe c o o s₃ s₅ := (safe_keyStage old p).trans safe_passZeroWindows
  exact (((hmode.trans hmask).trans hbudget).trans hkey).trans (Safe.ite (safe_offerAll _))

/-! ### Writes of parameters (R56, R57, R82) -/

theorem safe_takeAway (p : PartId) (i : ParamId) : Safe c o o s (s.takeAway p i) := by
  unfold State.takeAway
  split
  · next m hm =>
    split
    · refine safe_setSlot (fun _ hs m' hm' e he => ?_) fun _ hs m' hm' => ?_
      · cases hm'
        exact hs.slots p m hm e (List.mem_of_mem_filter he)
      · cases hm'
        obtain ⟨hlen, hcls, helapsed, htotal, -⟩ := hs m hm
        exact ⟨(List.length_filter_le _ _).trans hlen, fun e he => hcls e (List.mem_of_mem_filter he), helapsed, htotal,
          by simp [incSat8]⟩
    · exact .refl c o s
  · exact .refl c o s

theorem safe_postApplied (p : PartId) (origin : Link) (applied taken : Nat) :
    Safe c o o s (s.postApplied p origin applied taken) := safe_postAlso _ _ _ _ _

theorem safe_endEmptyChain (p : PartId) : Safe c o o s (s.endEmptyChain p) := by
  unfold State.endEmptyChain
  split
  · exact Safe.ite ((safe_postApplied p _ 0 _).trans (safe_clearSlot p))
  · exact .refl c o s

theorem safe_postParamChanged (w : Writer) (code index value : Nat) :
    Safe c o o s (s.postParamChanged w code index value) := safe_postWhere _ _ _ _ _

/-- A write of a part parameter with a value in its range keeps the laws (R56). -/
theorem safe_writeParam (w : Writer) (p : PartId) {i : ParamId} {x : Nat}
    (h : c.values → s.InRange → inRange i x) : Safe c o o s (s.writeParam w p i x) := by
  have hset : Safe c o o s ((s.setParam p i x).takeAway p i) := (safe_setParam p h).trans (safe_takeAway p i)
  exact (((hset.trans (Safe.ite (safe_reconcile _ p))).trans (safe_tellMap p i x)).trans
    (Safe.ite (safe_endEmptyChain p))).trans (safe_postParamChanged w p i x)

theorem safe_writeGlobal (w : Writer) {g : GlobalId} {x : Nat} (h : globalRanges[g].1 ≤ x ∧ x ≤ globalRanges[g].2) :
    Safe c o o s (s.writeGlobal w g x) :=
  ((safe_setGlobal h).trans (Safe.ite safe_free)).trans (safe_postParamChanged w 4 g x)

/-! ### APPLY, the morph step and MORPH_CANCEL -/

theorem isStruct_eq_false_iff (i : ParamId) : isStruct i = false ↔ (descriptor i).cls ≠ .struct := by
  simp [isStruct]

/-- There are 28 parameters that are not STRUCT (R50). -/
theorem length_nonstruct : ((List.finRange 40).filter fun i => !isStruct i).length = 28 := by decide

theorem length_filterMap_le {α β : Type} {f : α → Option β} {test : α → Bool} (h : ∀ a, (f a).isSome = true → test a = true)
    (l : List α) : (l.filterMap f).length ≤ (l.filter test).length := by
  induction l with
  | nil => simp
  | cons a l ih =>
    cases hf : f a with
    | none =>
      rw [List.filterMap_cons_none hf]
      exact ih.trans (((List.sublist_cons_self a l).filter test).length_le)
    | some b =>
      rw [List.filterMap_cons_some hf, List.filter_cons_of_pos (h a (by rw [hf]; rfl))]
      simpa using ih

/-- Entries that name distinct parameters in index order, as those of a staging buffer do. -/
def Ascending (es : List (ParamId × Nat)) : Prop := (es.map Prod.fst).Sublist (List.finRange 40)

theorem ascending_presentEntries (st : Vector (Option Nat) 40) : Ascending (presentEntries st) := by
  unfold Ascending presentEntries
  generalize List.finRange 40 = l
  induction l with
  | nil => simp
  | cons i l ih =>
    rw [List.filterMap_cons]
    cases hi : st[i] with
    | none => exact ih.cons i
    | some x => exact ih.cons_cons i

theorem length_morphEntries_le {es : List (ParamId × Nat)} (h : Ascending es) :
    (es.filter fun e => !isStruct e.1).length ≤ 28 := by
  have hsub := (h.filter fun i => !isStruct i).length_le
  rw [List.filter_map, List.length_map, length_nonstruct] at hsub
  exact hsub

theorem inRange_presentEntries {st : Vector (Option Nat) 40}
    (h : ∀ (i : ParamId) x, st[i] = some x → inRange i x) : ∀ e ∈ presentEntries st, inRange e.1 e.2 := by
  intro e he
  obtain ⟨i, -, hi⟩ := List.mem_filterMap.mp he
  obtain ⟨x, hx, rfl⟩ := Option.map_eq_some_iff.mp hi
  exact h i x hx

theorem safe_applyStruct (p : PartId) {es : List (ParamId × Nat)} (h : c.values → ∀ e ∈ es, inRange e.1 e.2) :
    Safe c o o s (s.applyStruct p es) :=
  (safe_setParams p Prod.fst Prod.snd es fun hv _ => h hv).trans (Safe.ite (safe_reconcile _ p))

theorem safe_applyNow (p : PartId) {es : List (ParamId × Nat)} (h : c.values → ∀ e ∈ es, inRange e.1 e.2) :
    Safe c o o s (s.applyNow p es) := by
  unfold State.applyNow
  induction es generalizing s with
  | nil => exact .refl c o s
  | cons e es ih =>
    refine Safe.trans ?_ (ih fun hv a ha => h hv a (by simp [ha]))
    exact (safe_setParam p fun hv _ => h hv e (by simp)).trans (safe_takeAway p e.1)

theorem newEntry_good (hs : ∀ p i, inRange i (s.param p i)) (p : PartId) {e : ParamId × Nat} (h : inRange e.1 e.2) : (s.newEntry p e).good :=
  ⟨hs p e.1, h, hs p e.1⟩

/-- What an entry of a retargeted slot comes from: an entry of the running morph, or a staged one that joins (R79). -/
theorem mem_retargetEntries {p : PartId} {es : List (ParamId × Nat)} {ms : List MorphEntry} {x : MorphEntry}
    (h : x ∈ s.retargetEntries p es ms) :
    (∃ m ∈ ms, x = s.rebase p es m) ∨ ∃ e ∈ es, x = s.newEntry p e := by
  obtain ⟨i, -, hi⟩ := List.mem_filterMap.mp h
  split at hi
  · next m hm => exact .inl ⟨m, List.mem_of_find?_eq_some hm, by simpa using hi.symm⟩
  · obtain ⟨e, he, rfl⟩ := Option.map_eq_some_iff.mp hi
    exact .inr ⟨e, List.mem_of_find?_eq_some he, rfl⟩

theorem rebase_good (hs : ∀ p i, inRange i (s.param p i)) (p : PartId) {es : List (ParamId × Nat)} (h : ∀ e ∈ es, inRange e.1 e.2)
    {m : MorphEntry} (hm : m.good) : (s.rebase p es m).good := by
  refine ⟨hs p m.index, ?_, hm.2.2⟩
  unfold State.rebase
  dsimp only
  cases hfind : es.find? fun e => e.1 == m.index with
  | none => exact hm.2.1
  | some e =>
    have hindex : e.1 = m.index := by simpa using List.find?_some hfind
    exact hindex ▸ h e (List.mem_of_find?_eq_some hfind)

theorem length_retargetEntries_le {p : PartId} {es : List (ParamId × Nat)} {ms : List MorphEntry}
    (hes : ∀ e ∈ es, isStruct e.1 = false) (hms : ∀ m ∈ ms, (descriptor m.index).cls ≠ .struct) :
    (s.retargetEntries p es ms).length ≤ 28 := by
  rw [← length_nonstruct]
  refine length_filterMap_le (fun i hi => ?_) _
  split at hi
  · next m hm =>
    have hindex : m.index = i := by simpa using List.find?_some hm
    simpa [isStruct_eq_false_iff, hindex] using hms m (List.mem_of_find?_eq_some hm)
  · rw [Option.isSome_map] at hi
    obtain ⟨e, he⟩ := Option.isSome_iff_exists.mp hi
    have hindex : e.1 = i := by simpa using List.find?_some he
    simpa [hindex] using hes e (List.mem_of_find?_eq_some he)

theorem safe_applyMorph (p : PartId) (origin : Link) {time : Nat} (curve : Curve) {es : List (ParamId × Nat)}
    (htime : time ≤ 20000) (hlen : es.length ≤ 28) (hes : ∀ e ∈ es, isStruct e.1 = false)
    (h : c.values → ∀ e ∈ es, inRange e.1 e.2) : Safe c o o s (s.applyMorph p origin time curve es) := by
  unfold State.applyMorph
  split
  · refine safe_setSlot (fun hv hs m hm e he => ?_) fun _ _ m hm => ?_
    · cases hm
      obtain ⟨e', he', rfl⟩ := List.mem_map.mp he
      exact newEntry_good hs.params p (h hv e' he')
    · cases hm
      refine ⟨by simpa using hlen, fun e he => ?_, Nat.zero_le _, htime, Nat.zero_le _⟩
      obtain ⟨e', he', rfl⟩ := List.mem_map.mp he
      exact (isStruct_eq_false_iff _).mp (hes e' he')
  · next m hm =>
    refine (safe_postWhere _ _ _ _ _).trans (safe_setSlot (fun hv hs m' hm' x hx => ?_) fun _ hs m' hm' => ?_)
    · cases hm'
      have hparams : ∀ p i, inRange i (s.param p i) := by simpa using hs.params
      rcases mem_retargetEntries hx with ⟨y, hy, rfl⟩ | ⟨e, he, rfl⟩
      · exact rebase_good hparams p (h hv) (hs.slots p m (by simpa using hm) y hy)
      · exact newEntry_good hparams p (h hv e he)
    · cases hm'
      obtain ⟨-, hcls, -, -, htaken⟩ := hs m (by simpa using hm)
      refine ⟨length_retargetEntries_le hes hcls, fun x hx => ?_, Nat.zero_le _, htime, htaken⟩
      rcases mem_retargetEntries hx with ⟨y, hy, rfl⟩ | ⟨e, he, rfl⟩
      · exact hcls y hy
      · exact (isStruct_eq_false_iff _).mp (hes e he)

/-- An accepted APPLY keeps the laws when its entries name distinct parameters with values in their ranges (R70,
R71). -/
theorem safe_applyEntries (p : PartId) (origin : Link) {time : Nat} (curve : Curve) {es : List (ParamId × Nat)}
    (htime : time ≤ 20000) (hes : Ascending es) (h : c.values → ∀ e ∈ es, inRange e.1 e.2) :
    Safe c o o s (s.applyEntries p origin time curve es) := by
  have hmorph (hv : c.values) : ∀ e ∈ es.filter fun e => !isStruct e.1, inRange e.1 e.2 :=
    fun e he => h hv e (List.mem_of_mem_filter he)
  have hstruct : Safe c o o s (s.applyStruct p (es.filter fun e => isStruct e.1)) :=
    safe_applyStruct p fun hv e he => h hv e (List.mem_of_mem_filter he)
  unfold State.applyEntries
  dsimp only
  refine Safe.trans (hstruct.trans ?_) (safe_tellAll p es)
  split
  · exact safe_postApplied p origin _ 0
  · split
    · exact ((safe_applyNow p hmorph).trans (Safe.ite (safe_endEmptyChain p))).trans (safe_postApplied p origin _ 0)
    · exact safe_applyMorph p origin curve htime (length_morphEntries_le hes)
        (fun e he => by simpa using (List.mem_filter.mp he).2) hmorph

theorem stepEntry_index (phi : Int) (m : MorphEntry) : (stepEntry phi m).1.index = m.index := by
  unfold stepEntry
  split <;> rfl

theorem stepEntry_good {phi : Int} {m : MorphEntry} (h : m.good) : (stepEntry phi m).1.good := by
  unfold stepEntry
  split <;> exact h

theorem inRange_stepEntry {phi : Int} {m : MorphEntry} (h : m.good) (hphi : 0 ≤ phi ∧ phi ≤ 1024) :
    inRange (stepEntry phi m).1.index (stepEntry phi m).2 := by
  obtain ⟨hstart, htarget, -⟩ := h
  rw [stepEntry_index]
  unfold stepEntry
  split
  · exact inRange_contValue hstart htarget hphi
  · dsimp only
    split
    · exact htarget
    · exact hstart

theorem slotOf_setParams {α : Type} (p : PartId) (index : α → ParamId) (value : α → Nat) (l : List α) (s : State)
    (q : PartId) : (l.foldl (fun s a => s.setParam p (index a) (value a)) s).slotOf q = s.slotOf q := by
  induction l generalizing s with
  | nil => rfl
  | cons a l ih => exact ih _

theorem safe_morphMove (p : PartId) {m : Morph} {e : Nat} (hm : s.slotOf p = some m) (he : e < m.total) :
    Safe c o o s (s.morphMove p m e) := by
  have hslot := slotOf_setParams p (fun x : MorphEntry × Nat => x.1.index) Prod.snd
    (m.entries.map (stepEntry (s.phi m.curve e m.total))) s p
  unfold State.morphMove
  dsimp only
  refine (safe_setParams p (fun x : MorphEntry × Nat => x.1.index) Prod.snd _ fun _ hs x hx => ?_).trans
    (safe_setSlot (fun _ hs m' hm' x hx => ?_) fun _ hs m' hm' => ?_)
  · obtain ⟨y, hy, rfl⟩ := List.mem_map.mp hx
    exact inRange_stepEntry (hs.slots p m hm y hy) (phi_between hs m.curve he)
  · cases hm'
    obtain ⟨y, hy, rfl⟩ := List.mem_map.mp hx
    obtain ⟨z, hz, rfl⟩ := List.mem_map.mp hy
    exact stepEntry_good (hs.slots p m (hslot.trans hm) z hz)
  · obtain ⟨hlen, hcls, -, htotal, htaken⟩ := hs m (hslot.trans hm)
    cases hm'
    refine ⟨by simpa using hlen, fun x hx => ?_, he.le, htotal, htaken⟩
    obtain ⟨y, hy, rfl⟩ := List.mem_map.mp hx
    obtain ⟨z, hz, rfl⟩ := List.mem_map.mp hy
    rw [stepEntry_index]
    exact hcls z hz

/-- The values of a list of entries are written, and the control map is told of them. -/
theorem safe_finals (p : PartId) {m : Morph} (value : MorphEntry → Nat)
    (h : c.values → s.InRange → ∀ x ∈ m.entries, inRange x.index (value x)) :
    Safe c o o s (((m.entries.map fun x => (x.index, value x)).foldl (fun s x => s.setParam p x.1 x.2) s).tellAll p
      (m.entries.map fun x => (x.index, value x))) := by
  refine (safe_setParams p Prod.fst Prod.snd _ fun hv hs x hx => ?_).trans (safe_tellAll p _)
  obtain ⟨y, hy, rfl⟩ := List.mem_map.mp hx
  exact h hv hs y hy

theorem safe_morphStep (p : PartId) : Safe c o o s (s.morphStep p) := by
  unfold State.morphStep
  split
  · next m hm =>
    dsimp only
    split
    · next he => exact safe_morphMove p hm he
    · exact ((safe_finals p _ fun _ hs x hx => (hs.slots p m hm x hx).2.1).trans (safe_postApplied p _ _ _)).trans
        (safe_clearSlot p)
  · exact .refl c o s

theorem safe_cancelMorph (p : PartId) {m : Morph} (revert : Bool) (canceller : Link) (hm : s.slotOf p = some m) :
    Safe c o o s (s.cancelMorph p m revert canceller) := by
  refine ((safe_finals p _ fun _ hs x hx => ?_).trans (safe_postAlso _ _ _ _ _)).trans (safe_clearSlot p)
  cases revert
  · exact hs.params p x.index
  · exact (hs.slots p m hm x hx).2.2

/-! ### Controls, switches and the scan round -/

theorem safe_setControl {k : ControlId} {x : Control}
    (hvalues : c.values → (∀ y, (s.control k).seed = some y → y.filtered ≤ 65520 ∧ y.reported ≤ 4095) →
      ∀ y, x.seed = some y → y.filtered ≤ 65520 ∧ y.reported ≤ 4095)
    (hgood : (s.control k).good → x.good) : Safe c o o s (s.setControl k x) where
  inRange hv hs := ⟨hs.params, hs.globals, hs.staging, hs.slots, hs.template, fun j y hy => by
    by_cases hj : j = k
    · subst hj
      rw [State.control_setControl_self] at hy
      exact hvalues hv (hs.controls j) y hy
    · rw [State.control_setControl_ne hj] at hy
      exact hs.controls j y hy⟩
  rest _ _ hs := { hs with
    controls := fun j => by
      show ((s.setControl k x).control j).good
      by_cases hj : j = k
      · subst hj
        rw [State.control_setControl_self]
        exact hgood (hs.controls j)
      · rw [State.control_setControl_ne hj]
        exact hs.controls j }
  balance _ _ hs := hs
  posted := .of_links fun _ => rfl
  run _ _ _ hs := hs
  current _ hs := hs

/-- A change of a control that leaves its seed. -/
theorem safe_setControl_of_seed {k : ControlId} {x : Control} (hseed : x.seed = (s.control k).seed)
    (hgood : (s.control k).good → x.good) : Safe c o o s (s.setControl k x) :=
  safe_setControl (fun _ h => hseed ▸ h) hgood

theorem safe_postNoisy (k : ControlId) (on : Bool) : Safe c o o s (s.postNoisy k on) := safe_post _ _ _ _

theorem safe_quietRound (k : ControlId) : Safe c o o s (s.quietRound k) := by
  unfold State.quietRound
  dsimp only
  split
  · exact .refl c o s
  · split
    · refine Safe.trans ?_ (safe_postNoisy k false)
      exact safe_setControl_of_seed rfl fun h => ⟨h.1, nofun⟩
    · next hq =>
      refine safe_setControl_of_seed rfl fun h => ⟨h.1, fun n hn => ?_⟩
      simp only [Option.some.injEq] at hn
      omega

theorem safe_noiseGuard (k : ControlId) (p0 p1 : Nat) : Safe c o o s (s.noiseGuard k p0 p1) := by
  unfold State.noiseGuard
  dsimp only
  split
  · split
    · exact safe_setControl_of_seed rfl fun h => ⟨Nat.zero_le _, h.2⟩
    · split
      · split
        · refine Safe.trans ?_ (safe_postNoisy k true)
          refine safe_setControl_of_seed rfl fun _ => ⟨Nat.zero_le _, fun n hn => ?_⟩
          simp only [Option.some.injEq] at hn
          omega
        · next hlen => exact safe_setControl_of_seed rfl fun h => ⟨by dsimp only; omega, h.2⟩
      · exact safe_setControl_of_seed rfl fun h => h
  · split
    · refine Safe.trans ?_ (safe_postNoisy k false)
      exact safe_setControl_of_seed rfl fun _ => ⟨Nat.zero_le _, nofun⟩
    · split
      · refine safe_setControl_of_seed rfl fun h => ⟨h.1, fun n hn => ?_⟩
        simp only [Option.some.injEq] at hn
        omega
      · refine Safe.trans ?_ (safe_quietRound k)
        exact safe_setControl_of_seed rfl fun h => h

theorem safe_take (p : PartId) {i : ParamId} {x : Nat} (h : c.values → s.InRange → inRange i x) :
    Safe c o o s (s.take p i x) := by
  unfold State.take
  split
  · exact .refl c o s
  · exact safe_writeParam .panel p h

theorem safe_goLive (k : ControlId) (b : KnobBinding) : Safe c o o s (s.goLive k b) :=
  (safe_setKnob k _).trans (safe_post _ _ _ _)

/-- A move between two positions of a control keeps the laws (R107 to R110). -/
theorem safe_controlMove (k : ControlId) {p0 p1 : Nat} (h0 : c.values → p0 ≤ 4095) (h1 : c.values → p1 ≤ 4095)
    (hne : p0 ≠ p1) : Safe c o o s (s.controlMove k p0 p1) := by
  unfold State.controlMove
  split
  · exact .refl c o s
  · next b _ =>
    have hknob : Safe c o o s (s.take b.part b.index (knobValue b.index p1)) :=
      safe_take b.part fun hv _ => inRange_knobValue b.index (h1 hv)
    dsimp only
    split
    · exact hknob
    · split
      · exact hknob.trans (safe_goLive k b)
      · exact .refl c o s
    · split
      · exact hknob.trans (safe_goLive k b)
      · exact .refl c o s
    · have hscale : Safe c o o s (s.take b.part b.index (scaleValue b.index (s.param b.part b.index) p0 p1)) :=
        safe_take b.part fun hv hs => inRange_scaleValue (hs.params b.part b.index) (h0 hv) (h1 hv) hne
      exact hscale.trans (Safe.ite (safe_goLive k b))

theorem safe_moveEvent {k : ControlId} {x : Seeded} (hx : c.values → x.filtered ≤ 65520 ∧ x.reported ≤ 4095) {p1 : Nat}
    (h1 : c.values → p1 ≤ 4095) (hne : x.reported ≠ p1) : Safe c o o s (s.moveEvent k x p1) := by
  have hseed : Safe c o o s (s.setControl k { s.control k with
      seed := some { x with reported := p1 }, motion := .moving (s.global gStillTimeout) }) := by
    refine safe_setControl (fun hv _ y hy => ?_) fun h => h
    cases hy
    exact ⟨(hx hv).1, h1 hv⟩
  have hmove := (hseed.trans (safe_noiseGuard k x.reported p1)).trans
    (safe_controlMove k (fun hv => (hx hv).2) h1 hne)
  unfold State.moveEvent
  exact hmove.trans (safe_post _ _ _ _)

theorem safe_seededEvent (k : ControlId) : Safe c o o s (s.seededEvent k) := by
  unfold State.seededEvent
  split
  · exact safe_setKnob k _
  · exact .refl c o s

theorem ne_of_deadband_lt {x : Control} {a b : Nat} (h : x.deadband < distance a b) : b ≠ a := by
  unfold distance at h
  omega

theorem safe_conversion (k : ControlId) {r : Nat} (hr : r ≤ 4095) (hv : c.values → s.InRange) :
    Safe c o o s (s.conversion k r) := by
  unfold State.conversion
  dsimp only
  split
  · refine Safe.trans ?_ (safe_seededEvent k)
    refine safe_setControl (fun _ _ y hy => ?_) fun h => h
    cases hy
    exact ⟨by dsimp only; omega, hr⟩
  · next x hx =>
    have hstep (hvalues : c.values) : filterStep (s.global gKnobFilter) x.filtered r ≤ 65520 ∧ x.reported ≤ 4095 :=
      have hseed := (hv hvalues).controls k x hx
      ⟨filterStep_le _ hseed.1 hr, hseed.2⟩
    have hfilter : Safe c o o s (s.setControl k { s.control k with
        seed := some { x with filtered := filterStep (s.global gKnobFilter) x.filtered r } }) := by
      refine safe_setControl (fun hvalues _ y hy => ?_) fun h => h
      cases hy
      exact hstep hvalues
    split
    · next hmove =>
      refine hfilter.trans (safe_moveEvent hstep (fun hvalues => ?_) (ne_of_deadband_lt hmove))
      have := (hstep hvalues).1
      unfold Seeded.position
      dsimp only
      omega
    · exact hfilter.trans (safe_quietRound k)

theorem safe_switchAction (a : SwitchAction) (press : Bool) : Safe c o o s (s.switchAction a press) := by
  unfold State.switchAction
  split
  · exact .refl c o s
  · exact .refl c o s
  · exact Safe.ite (safe_writeParam .panel _ fun _ hs => inRange_stepValue (hs.params _ _))
  · exact safe_setHolds press _
  · exact Safe.ite (safe_toggleHolds _)
  · exact Safe.ite (safe_allOff _)

theorem sampleSwitch_good {debounce : Nat} (h : debounce ≤ 8) (level : Bool) (x : Option SwitchSeed) :
    (sampleSwitch debounce level x).1.good := by
  cases x with
  | none => nofun
  | some x =>
    by_cases hlevel : level = x.closed
    · rw [sampleSwitch, if_pos hlevel]
      nofun
    · rw [sampleSwitch, if_neg hlevel]
      extract_lets run
      by_cases hrun : debounce ≤ run
      · rw [if_pos hrun]
        nofun
      · rw [if_neg hrun]
        intro y hy
        cases hy
        dsimp only
        omega

theorem safe_switches {i : SwitchId} {x : SwitchSeed} (h : c.values → s.InRange → x.good) :
    Safe c o o s { s with switches := s.switches.set i (some x) } where
  inRange _ hs := ⟨hs.params, hs.globals, hs.staging, hs.slots, hs.template, hs.controls⟩
  rest hv hr hs := { hs with
    switches := fun j y hy => by
      by_cases hj : i.val = j.val
      · simp [hj] at hy
        exact hy ▸ h hv hr
      · simp [hj] at hy
        exact hs.switches j y hy }
  balance _ _ hs := hs
  posted := .of_links fun _ => rfl
  run _ _ _ hs := hs
  current _ hs := hs

theorem safe_sample (i : SwitchId) (level : Bool) : Safe c o o s (s.sample i level) := by
  have hset : Safe c o o s { s with
      switches := s.switches.set i (some (sampleSwitch (s.global gDebounceCount) level s.switches[i]).1) } :=
    safe_switches fun _ hs => sampleSwitch_good (hs.globals gDebounceCount).2 level _
  unfold State.sample
  dsimp only
  split
  · exact (hset.trans (safe_switchAction _ _)).trans (safe_post _ _ _ _)
  · exact hset

theorem safe_scanner {x : Scanner} (h : s.scanner.skipped ≤ 65535 → x.skipped ≤ 65535) :
    Safe c o o s { s with scanner := x } where
  inRange _ hs := ⟨hs.params, hs.globals, hs.staging, hs.slots, hs.template, hs.controls⟩
  rest _ _ hs := { hs with skipped := h hs.skipped }
  balance _ _ hs := hs
  posted := .of_links fun _ => rfl
  run _ _ _ hs := hs
  current _ hs := hs

/-! ### Link N -/

theorem safe_lineUnit {u : LineUnit} (h : s.lineUnit.good → u.good) : Safe c o o s { s with lineUnit := u } where
  inRange _ hs := ⟨hs.params, hs.globals, hs.staging, hs.slots, hs.template, hs.controls⟩
  rest _ _ hs := { hs with lineUnit := h hs.lineUnit }
  balance _ _ hs := hs
  posted := .of_links fun _ => rfl
  run _ _ _ hs := hs
  current _ hs := hs

theorem safe_postLineError : Safe c o o s s.postLineError :=
  (safe_postWhere _ _ _ _ _).trans (safe_lineUnit fun h =>
    ⟨h.1, h.2.1, h.2.2.1, h.2.2.2.1, Nat.zero_le _⟩)

theorem LineUnit.good_count {u : LineUnit} (h : u.good) (k : LineErrorKind) (errors : ErrorMask) :
    { u.count k with accumulator := incSat16 u.accumulator, errors }.good := by
  obtain ⟨hfifo, hframe, hbyte, hover, hacc⟩ := h
  cases k <;> exact ⟨hfifo, by simp [LineUnit.count, incSat16, hframe], by simp [LineUnit.count, incSat16, hbyte],
    by simp [LineUnit.count, incSat16, hover], by simp [incSat16]⟩

theorem LineUnit.accumulator_count (k : LineErrorKind) (u : LineUnit) : (u.count k).accumulator = u.accumulator := by
  cases k <;> rfl

theorem safe_lineError (k : LineErrorKind) : Safe c o o s (s.lineError k) := by
  unfold State.lineError
  dsimp only
  have hcount : Safe c o o s { s with lineUnit := { s.lineUnit.count k with
      accumulator := incSat16 (s.lineUnit.count k).accumulator, errors := (s.lineUnit.count k).errors.add k } } :=
    safe_lineUnit fun h => by
      rw [LineUnit.accumulator_count]
      exact LineUnit.good_count h k _
  split
  · exact hcount
  · exact hcount.trans safe_postLineError

theorem safe_setParser (x : ParserState) : Safe c o o s (s.setParser x) := safe_lineUnit fun h => h

theorem safe_lineHold (on : Bool) (p : PartId) : Safe c o o s (s.lineHold on p) :=
  (safe_setHold on p).trans safe_passZeroWindows

theorem safe_startLineFrame (b : Byte) (k : LineKind) : Safe c o o s (s.startLineFrame b k) := by
  unfold State.startLineFrame
  split
  · exact (safe_setParser _).trans (safe_lineHold true _)
  · exact (safe_setParser _).trans (safe_lineHold false _)
  all_goals exact safe_setParser _

theorem safe_parseStatus (b : Byte) : Safe c o o s (s.parseStatus b) := by
  unfold State.parseStatus
  extract_lets s₁
  have hframe : Safe c o o s s₁ := Safe.ite ((safe_setParser .waitStatus).trans (safe_lineError .frame))
  refine hframe.trans ?_
  split
  · exact safe_startLineFrame b _
  · exact (safe_setParser _).trans (safe_lineError .frame)

theorem safe_parseData (b : Byte) : Safe c o o s (s.parseData b) := by
  unfold State.parseData
  split
  · exact safe_lineError .frame
  · split
    · exact (safe_setParser _).trans (safe_keyOff _ _)
    · exact safe_setParser _
  · next first _ =>
    dsimp only
    split
    · exact (safe_setParser _).trans (safe_giveNote _ _ _ .line)
    · have h1 := (lineKey first).isLt
      have h2 := (lineKey b).isLt
      exact (safe_setParser _).trans (safe_setBend (by omega))
    · exact safe_setParser _

theorem safe_parse (x : LineByte) : Safe c o o s (s.parse x) := by
  unfold State.parse
  split
  · exact (safe_setParser _).trans (safe_lineError .byte)
  · split
    · exact safe_parseStatus x.value
    · exact safe_parseData x.value

/-! ### The output engine -/

theorem glideMove_le {rate position target : Nat} (hp : position ≤ 32512) (ht : target ≤ 32512) :
    (glideMove rate position target).position ≤ 32512 ∧
      ∀ x, (glideMove rate position target).target = some x → x ≤ 32512 := by
  unfold glideMove
  dsimp only
  split
  · exact ⟨ht, nofun⟩
  · refine ⟨?_, fun x hx => ?_⟩
    · dsimp only
      split <;> omega
    · simp only [Option.some.injEq] at hx
      omega

theorem safe_noteClamp (v : VoiceId) (second : Bool) : Safe c o o s (s.noteClamp v second) := by
  unfold State.noteClamp
  dsimp only
  split
  · split
    · exact .refl c o s
    · refine Safe.trans ?_ (safe_post _ _ _ _)
      exact safe_setVoice_of_phase rfl
  · exact .refl c o s

theorem safe_slotClamp (n : ChannelId) : Safe c o o s (s.slotClamp n) := by
  unfold State.slotClamp
  split
  · split
    · exact safe_noteClamp _ false
    · exact safe_noteClamp _ true
    · exact .refl c o s
  · exact .refl c o s

theorem safe_outputSlot (n : ChannelId) : Safe c o o s (s.outputSlot n) := (safe_slotClamp n).trans safe_free

end

end Sys2Proof.Machine
end

section
/-! PROOFS. The laws across every command: values in range, capacities and the note balance. -/

namespace Sys2Proof.Machine

/-- The state `t` meets each of the three laws that `s` meets. -/
structure Lawful (s t : State) : Prop where
  inRange : s.InRange → t.InRange
  bounded : s.InRange → s.Bounded → t.Bounded
  balanced : s.Balanced → t.Balanced

theorem Lawful.refl (s : State) : Lawful s s := ⟨id, fun _ => id, id⟩

theorem Lawful.trans {s t u : State} (h : Lawful s t) (k : Lawful t u) : Lawful s u where
  inRange hs := k.inRange (h.inRange hs)
  bounded hr hs := k.bounded (h.inRange hr) (h.bounded hr hs)
  balanced hs := k.balanced (h.balanced hs)

/-- What is known of a state at the start of a command. -/
def State.known (s : State) : Known := ⟨s.currentTuning, s.InRange⟩

theorem Safe.lawful {s t : State} (h : Safe s.known 0 0 s t) : Lawful s t where
  inRange hs := h.inRange hs hs
  bounded hr hs := by
    rw [State.bounded_iff] at hs ⊢
    exact ⟨h.rest hr hr hs.1, h.run hr hr hs.1 hs.2⟩
  balanced hs := ⟨fun p => h.balance hs.current p (hs.notes p), h.current hs.current hs.current⟩

/-- What a request on link `l` leaves: the laws, whether a reset runs, and all of the other link but its queue. -/
structure Serves (l : Link) (s t : State) : Prop extends Lawful s t where
  running : t.resetRun = s.resetRun
  other : t.link l.other = { s.link l.other with queue := (t.link l.other).queue }

theorem Serves.refl (l : Link) (s : State) : Serves l s s := ⟨.refl s, rfl, rfl⟩

theorem Serves.of_posted {l : Link} {s t : State} (h : Lawful s t) (hp : Posted s t) : Serves l s t :=
  ⟨h, hp.running, hp.frame l.other⟩

theorem Safe.serves {l : Link} {s t : State} (h : Safe s.known 0 0 s t) : Serves l s t := .of_posted h.lawful h.posted

/-- A state that meets the laws whatever came before it. -/
theorem Lawful.of_laws {s t : State} (hr : t.InRange) (hb : t.Bounded) (hn : t.Balanced) : Lawful s t :=
  ⟨fun _ => hr, fun _ _ => hb, fun _ => hn⟩

/-! ### The links -/

theorem lawful_setLink {l : Link} {u : LinkUnit} {s : State} (hgood : (s.link l).good → u.good)
    (hstaging : s.InRange → ∀ (i : ParamId) x, u.staging[i] = some x → inRange i x) : Lawful s (s.setLink l u) := by
  refine ⟨fun h => ⟨?_, ?_, fun m => ?_, ?_, ?_, ?_⟩, fun _ h => ?_, fun h => ?_⟩
  · simpa using h.params
  · simpa using h.globals
  · rw [State.link_setLink]
    split
    · exact hstaging h
    · exact h.staging m
  · simpa using h.slots
  · simpa using h.template
  · simpa using h.controls
  · cases l
    · exact { h with linkA := hgood h.linkA }
    · exact { h with linkB := hgood h.linkB }
  · cases l <;> exact ⟨h.notes, h.current⟩

/-- A change of a link that leaves its staging buffer, its queue and its overrun count. -/
theorem lawful_setLink_of_same {l : Link} {u : LinkUnit} {s : State} (hqueue : u.queue = (s.link l).queue)
    (hover : u.overruns = (s.link l).overruns) (hstaging : u.staging = (s.link l).staging) : Lawful s (s.setLink l u) :=
  lawful_setLink (fun h => by rw [LinkUnit.good, hqueue, hover]; exact h)
    fun h i x hx => h.staging l i x (by rwa [hstaging] at hx)

theorem serves_setLink {l : Link} {u : LinkUnit} {s : State} (h : Lawful s (s.setLink l u)) :
    Serves l s (s.setLink l u) := ⟨h, by simp, by simp⟩

theorem serves_setQueue {l : Link} {q : NoticeQueue} {s : State} (h : (s.link l).queue.good → q.good) :
    Serves l s (s.setQueue l q) :=
  serves_setLink (lawful_setLink (fun hl => ⟨h hl.1, hl.2⟩) fun hs => hs.staging l)

theorem serves_setStaging {l : Link} {st : Vector (Option Nat) 40} {s : State}
    (h : s.InRange → ∀ (i : ParamId) x, st[i] = some x → inRange i x) : Serves l s (s.setStaging l st) :=
  serves_setLink (lawful_setLink (fun hl => hl) h)

theorem lawful_shiftOut (l : Link) (bs : List Byte) (s : State) : Lawful s (s.shiftOut l bs) :=
  lawful_setLink_of_same rfl rfl rfl

theorem lawful_discardBusy (l : Link) (s : State) : Lawful s (s.discardBusy l) :=
  lawful_setLink (fun h => ⟨h.1, by simp [incSat16]⟩) fun hs => hs.staging l

theorem lawful_answer (l : Link) (r : Reply) (s : State) : Lawful s (s.answer l r) := by
  unfold State.answer
  split
  · exact .refl s
  · exact lawful_setLink_of_same rfl rfl rfl

/-- A frame keeps the laws when its work does. -/
theorem lawful_takeFrame (l : Link) (n : Nat) (code : Byte) {work : State → State × Answer}
    (h : ∀ s, Lawful s (work s).1) (s : State) : Lawful s (s.takeFrame l n code work) := by
  have hshift := lawful_shiftOut l (fillers n) s
  unfold State.takeFrame
  dsimp only
  split
  · exact hshift
  · split
    · exact hshift.trans (lawful_discardBusy l _)
    · exact (hshift.trans (h _)).trans (lawful_answer l _ _)

theorem lawful_fetchFrame (l : Link) (n : Nat) (s : State) : Lawful s (s.fetchFrame l n) := by
  unfold State.fetchFrame
  dsimp only
  split
  · exact .refl s
  · split
    · exact lawful_shiftOut l _ s
    · split
      · split
        · exact (lawful_shiftOut l _ s).trans (lawful_setLink_of_same rfl rfl rfl)
        · exact lawful_shiftOut l _ s
      · exact lawful_shiftOut l _ s

theorem lawful_replyReady (l : Link) (s : State) : Lawful s (s.replyReady l) := by
  unfold State.replyReady
  dsimp only
  split
  · exact .refl s
  · exact lawful_setLink_of_same rfl rfl rfl

/-! ### Resets (R31, R196) -/

theorem lawful_cleared {s t : State} {rs : Bool} {rr : Option (ResetCause × Nat)} :
    Lawful s { t.cleared with rstb := rs, resetRun := rr } := by
  have hlink (u : LinkUnit) : u.cleared.good := by
    simp [LinkUnit.good, NoticeQueue.good, LinkUnit.cleared, LinkUnit.atReset, NoticeQueue.atReset]
  refine .of_laws ⟨reset_inRange.params, reset_inRange.globals, fun l i x hx => ?_, reset_inRange.slots,
    reset_inRange.template, reset_inRange.controls⟩ { reset_bounded with
      linkA := hlink _, linkB := hlink _, skipped := Nat.zero_le _ } ⟨reset_balanced.notes, reset_balanced.current⟩
  cases l <;> simp [State.link, State.cleared, LinkUnit.cleared, LinkUnit.atReset] at hx

theorem lawful_resetRun (s : State) (rs : Bool) (rr : Option (ResetCause × Nat)) :
    Lawful s { s with rstb := rs, resetRun := rr } :=
  ⟨fun h => ⟨h.params, h.globals, h.staging, h.slots, h.template, h.controls⟩, fun _ h => { h with },
    fun h => ⟨h.notes, h.current⟩⟩

theorem lawful_beginReset (cause : ResetCause) (s : State) : Lawful s (s.beginReset cause) := lawful_cleared

theorem lawful_endReset (cause : ResetCause) (s : State) : Lawful s (s.endReset cause) := by
  refine Lawful.trans (t := { s.cleared with resetRun := none }) lawful_cleared (Safe.lawful ?_)
  unfold State.endReset
  refine Safe.trans ?_ (safe_postWhere _ _ _ _ _)
  unfold State.startRefresh State.startScanner State.startRound
  refine Safe.trans ?_ safe_free
  exact (safe_scanner fun h => h).trans (safe_scanner fun h => h)

theorem run_abortRunForReset (s : State) : s.abortRunForReset.run = none := by
  unfold State.abortRunForReset
  split
  · assumption
  · rfl

theorem successor_afterReset (now : Stamp) (x : Voice) : (x.afterReset now).phase.successor? = none := by
  unfold Voice.afterReset
  split
  · next h => rw [h]; rfl
  · rfl

theorem Glide.afterReset_le {g : Glide} (h : g.position ≤ 32512 ∧ ∀ x, g.target = some x → x ≤ 32512) :
    g.afterReset.position ≤ 32512 ∧ ∀ x, g.afterReset.target = some x → x ≤ 32512 := by
  refine ⟨?_, nofun⟩
  unfold Glide.afterReset
  cases htarget : g.target with
  | none => exact h.1
  | some x => exact h.2 x htarget

/-- At rest no note is counted and none is anywhere (R30, R31). -/
theorem balanced_resetVoicesNow (s : State) : s.resetVoicesNow.Balanced where
  notes p := by
    have hperf : s.resetVoicesNow.perfOf p = Perf.atReset := by simp [State.resetVoicesNow, State.perfOf]
    have hdeferred : s.resetVoicesNow.deferredOf p = 0 := rfl
    have hsuccessors : s.resetVoicesNow.noteSuccessorsOf p = 0 := by
      unfold State.noteSuccessorsOf
      rw [List.filter_eq_nil_iff.mpr fun v _ => ?_]
      · rfl
      · have hvoice : s.resetVoicesNow.voice v = (s.abortRunForReset.voice v).afterReset s.abortRunForReset.timestamp := by
          simp [State.resetVoicesNow, State.voice]
        simp [hvoice, successor_afterReset]
    right
    rw [hdeferred, hsuccessors, hperf]
    rfl
  current r x hr := by
    have hrun : s.resetVoicesNow.run = none := run_abortRunForReset s
    rw [hrun] at hr
    exact absurd hr nofun

theorem lawful_resetVoicesNow (s : State) : Lawful s s.resetVoicesNow := by
  have hkeeps : Keeps s.known 0 0 s s.abortRunForReset := keeps_abortRunForReset
  refine ⟨fun h => ?_, fun hr h => ?_, fun _ => balanced_resetVoicesNow s⟩
  · have hs := hkeeps.inRange h h
    exact ⟨hs.params, hs.globals, hs.staging, hs.slots, hs.template, hs.controls⟩
  · have hs := hkeeps.rest hr hr ((State.bounded_iff s).mp h).1
    exact { hs with
      deferred := Nat.zero_le _
      perf := fun p => by
        rw [show s.resetVoicesNow.perfOf p = Perf.atReset by simp [State.resetVoicesNow, State.perfOf]]
        exact reset_perfOf p ▸ reset_bounded.perf p
      glides := fun v => by
        have hglide : s.resetVoicesNow.glide v = (s.abortRunForReset.glide v).afterReset := by
          simp [State.resetVoicesNow, State.glide]
        rw [hglide]
        exact Glide.afterReset_le (hs.glides v)
      run := fun r hr => absurd ((run_abortRunForReset s).symm.trans hr) nofun }

theorem posted_resetVoicesNow (s : State) : Posted s s.resetVoicesNow :=
  (keeps_abortRunForReset (c := s.known) (o := 0)).posted.trans (.of_links fun _ => rfl)

/-! ### Services -/

theorem serves_keyOnService (l : Link) (payload : List Byte) (s : State) : Serves l s (keyOnService l payload s).1 := by
  unfold keyOnService
  split
  · split
    · exact (safe_giveNote _ _ _ _).serves
    · exact .refl l s
  · exact .refl l s

theorem serves_keyOffService (l : Link) (payload : List Byte) (s : State) : Serves l s (keyOffService l payload s).1 := by
  unfold keyOffService
  split
  · split
    · exact (safe_keyOff _ _).serves
    · exact .refl l s
  · exact .refl l s

theorem serves_holdService (l : Link) (payload : List Byte) (s : State) : Serves l s (holdService l payload s).1 := by
  unfold holdService
  split
  · split
    · dsimp only
      exact (safe_setHolds _ _).serves
    · exact .refl l s
  · exact .refl l s

theorem serves_bendService (l : Link) (payload : List Byte) (s : State) : Serves l s (bendService l payload s).1 := by
  unfold bendService
  split
  · split
    · exact (safe_setBend (min_le_left _ _)).serves
    · exact .refl l s
  · exact .refl l s

theorem serves_allOffService (l : Link) (payload : List Byte) (s : State) : Serves l s (allOffService l payload s).1 := by
  unfold allOffService
  split
  · split
    · dsimp only
      exact (safe_allOff _).serves
    · exact .refl l s
  · exact .refl l s

theorem serves_paramSetService (l : Link) (payload : List Byte) (s : State) :
    Serves l s (paramSetService l payload s).1 := by
  unfold paramSetService
  split
  · dsimp only
    split
    · exact (safe_writeParam _ _ fun _ _ => inRange_clampParam _ _).serves
    · split
      · exact (safe_writeGlobal _ (clampGlobal_between _ _)).serves
      · exact .refl l s
    · exact .refl l s
  · exact .refl l s

theorem serves_stageWriteService (l : Link) (payload : List Byte) (s : State) :
    Serves l s (stageWriteService l payload s).1 := by
  unfold stageWriteService
  split
  · split
    · split
      · exact .refl l s
      · split
        · exact .refl l s
        · refine serves_setStaging fun hs i x hx => ?_
          simp only [writeStaging, Fin.getElem_fin, Vector.getElem_ofFn] at hx
          split at hx
          · cases hx
            exact inRange_clampParam i _
          · exact hs.staging l i x hx
    · exact .refl l s
  · exact .refl l s

theorem serves_emptyStaging (l : Link) (s : State) : Serves l s (s.setStaging l (Vector.replicate 40 none)) :=
  serves_setStaging fun _ i x hx => by simp at hx

theorem serves_stageClearService (l : Link) (payload : List Byte) (s : State) :
    Serves l s (stageClearService l payload s).1 := by
  unfold stageClearService
  split
  · exact serves_emptyStaging l s
  · exact .refl l s

/-- APPLY empties the staging buffer before its values are written: that they lie in range is known from before. -/
theorem serves_applyStaging (l : Link) (p : PartId) (time : Nat) (curve : Curve) (s : State) :
    Serves l s ((s.setStaging l (Vector.replicate 40 none)).applyEntries p l (min 20000 time) curve
      (presentEntries (s.link l).staging)) := by
  have hempty := serves_emptyStaging l s
  have hsafe := safe_applyEntries (c := ⟨True, s.InRange⟩) (o := 0) (s := s.setStaging l (Vector.replicate 40 none)) p l
    curve (min_le_left 20000 time) (ascending_presentEntries (s.link l).staging)
    fun hv => inRange_presentEntries (State.InRange.staging hv l)
  refine ⟨⟨fun h => hsafe.inRange h (hempty.inRange h), fun h hb => ?_, fun h => ?_⟩,
    hsafe.posted.running.trans hempty.running, ?_⟩
  · have hb' := (State.bounded_iff _).mp (hempty.bounded h hb)
    exact (State.bounded_iff _).mpr ⟨hsafe.rest h (hempty.inRange h) hb'.1,
      hsafe.run h (hempty.inRange h) hb'.1 hb'.2⟩
  · have hbalanced := hempty.balanced h
    exact ⟨fun p => hsafe.balance trivial p (hbalanced.notes p), hsafe.current trivial hbalanced.current⟩
  · have hother := hsafe.posted.frame l.other
    rwa [show (s.setStaging l (Vector.replicate 40 none)).link l.other = s.link l.other from
      State.link_other_setLink l _ s] at hother

theorem serves_applyService (l : Link) (payload : List Byte) (s : State) : Serves l s (applyService l payload s).1 := by
  unfold applyService
  split
  · split
    · dsimp only
      exact serves_applyStaging l _ _ _ s
    · exact .refl l s
  · exact .refl l s

theorem serves_morphCancelService (l : Link) (payload : List Byte) (s : State) :
    Serves l s (morphCancelService l payload s).1 := by
  unfold morphCancelService
  split
  · split
    · split
      · next hm => exact (safe_cancelMorph _ _ l hm).serves
      · exact .refl l s
    · exact .refl l s
  · exact .refl l s

theorem serves_curveSetService (l : Link) (payload : List Byte) (s : State) :
    Serves l s (curveSetService l payload s).1 := by
  unfold curveSetService
  split
  · exact (safe_template ⟨min_le_left 1024 _, min_le_left 1024 _, min_le_left 1024 _⟩).serves
  · exact .refl l s

theorem serves_mapKnobService (l : Link) (payload : List Byte) (s : State) : Serves l s (mapKnobService l payload s).1 := by
  unfold mapKnobService
  split
  · split
    · split
      · exact (safe_setKnob _ none).serves
      · split
        · exact (safe_setKnob _ _).serves
        · exact .refl l s
    · exact .refl l s
  · exact .refl l s

theorem serves_mapSwitchService (l : Link) (payload : List Byte) (s : State) :
    Serves l s (mapSwitchService l payload s).1 := by
  unfold mapSwitchService
  split
  · split
    · exact safe_free.serves
    · exact .refl l s
  · exact .refl l s

theorem serves_tuneStartService (l : Link) (payload : List Byte) (s : State) :
    Serves l s (tuneStartService l payload s).1 := by
  unfold tuneStartService
  split
  · dsimp only
    split
    · exact .refl l s
    · split
      · exact .refl l s
      · split
        · exact .refl l s
        · split
          · exact .refl l s
          · exact (safe_createRun _ _ (length_tuneQueue_le _)).serves
  · exact .refl l s

theorem serves_tuneAbortService (l : Link) (payload : List Byte) (s : State) :
    Serves l s (tuneAbortService l payload s).1 := by
  unfold tuneAbortService
  split
  · split
    · exact .refl l s
    · next hr => exact (safe_abortRun hr id).serves
  · exact .refl l s

theorem le_of_mem_values16 {bs : List Byte} {vs : List Nat} (h : values16? bs = some vs) : ∀ x ∈ vs, x ≤ 65535 := by
  induction bs using values16?.induct generalizing vs with
  | case1 =>
    cases h
    simp
  | case2 lo hi rest ih =>
    obtain ⟨ws, hws, rfl⟩ := Option.map_eq_some_iff.mp h
    intro x hx
    rcases List.mem_cons.mp hx with rfl | hx
    · have hlo := lo.isLt
      have hhi := hi.isLt
      unfold u16
      omega
    · exact ih hws x hx
  | case3 => exact absurd h nofun

theorem serves_checkedMap (l : Link) (ob : Byte) {m : Option CalMap}
    (h : ∀ x, m = some x → CalRecord.good { CalRecord.atReset with map := x }) (s : State) :
    Serves l s (s.checkedMap ob m).1 := by
  unfold State.checkedMap
  split
  · exact .refl l s
  · split
    · exact .refl l s
    · split
      · exact (safe_writeMap (h _ rfl)).serves
      · exact .refl l s

theorem serves_calWriteService (l : Link) (payload : List Byte) (s : State) :
    Serves l s (calWriteService l payload s).1 := by
  unfold calWriteService
  split
  · split
    · split
      · refine serves_checkedMap l _ (fun x hx => ?_) s
        cases hx
        exact ⟨Nat.zero_le _, Nat.zero_le _, trivial⟩
      · exact .refl l s
    · split
      · split
        · split
          · next vs hvs =>
            split
            · next hlen =>
              refine serves_checkedMap l _ (fun x hx => ?_) s
              split at hx
              · next hrange =>
                cases hx
                simp only [calibratedInRange, Bool.and_eq_true, decide_eq_true_eq] at hrange
                exact ⟨Nat.zero_le _, Nat.zero_le _, by omega, by omega, le_of_mem_values16 hvs⟩
              · exact absurd hx nofun
            · exact .refl l s
          · exact .refl l s
        · exact .refl l s
      · exact .refl l s
  · exact .refl l s

theorem serves_voiceEnableService (l : Link) (payload : List Byte) (s : State) :
    Serves l s (voiceEnableService l payload s).1 := by
  unfold voiceEnableService
  split
  · dsimp only
    split
    · exact .refl l s
    · exact (safe_enableVoices _).serves
  · exact .refl l s

theorem serves_voiceDisableService (l : Link) (payload : List Byte) (s : State) :
    Serves l s (voiceDisableService l payload s).1 := by
  unfold voiceDisableService
  split
  · dsimp only
    split
    · exact .refl l s
    · exact (Safe.foldl (fun _ v => safe_disableVoice v) _ s).serves
  · exact .refl l s

theorem serves_noticeReadService (l : Link) (payload : List Byte) (s : State) :
    Serves l s (noticeReadService l payload s).1 := by
  unfold noticeReadService
  split
  · exact serves_setQueue fun h => ⟨h.1, Nat.zero_le _, h.2.2⟩
  · exact .refl l s

theorem serves_noticeAckService (l : Link) (payload : List Byte) (s : State) :
    Serves l s (noticeAckService l payload s).1 := by
  unfold noticeAckService
  split
  · dsimp only
    split
    · exact serves_setQueue fun h => ⟨by simp only [NoticeQueue.ack, List.length_drop]; have := h.1; unfold State.queueOf; omega, h.2⟩
    · exact .refl l s
  · exact .refl l s

theorem groupMask_good {mb : Byte} (h : mb.toNat < 32) :
    (mb ||| 0x10#8).getLsbD 4 = true ∧ (mb ||| 0x10#8).toNat < 32 := by
  revert mb
  decide

theorem serves_noticeConfigService (l : Link) (payload : List Byte) (s : State) :
    Serves l s (noticeConfigService l payload s).1 := by
  unfold noticeConfigService
  split
  · split
    · exact .refl l s
    · next mb wb hmask =>
      have hmark := clampTo_between (show 1 ≤ 32 by decide) wb.toNat
      have hgroups := groupMask_good (not_le.mp hmask)
      exact serves_setQueue fun h => ⟨h.1, h.2.1, hmark.1, hmark.2, hgroups.1, hgroups.2⟩
  · exact .refl l s

theorem serves_resetVoicesService (l : Link) (payload : List Byte) (s : State) :
    Serves l s (resetVoicesService l payload s).1 := by
  unfold resetVoicesService
  split
  · exact .of_posted (lawful_resetVoicesNow s) (posted_resetVoicesNow s)
  · exact .refl l s

theorem safe_unseedPanel {c : Known} {o : PartId → Nat} {s : State} : Safe c o o s { s with
    controls := Vector.replicate 128 Control.atReset, switches := Vector.replicate 64 none } where
  inRange _ hs := ⟨hs.params, hs.globals, hs.staging, hs.slots, hs.template, reset_inRange.controls⟩
  rest _ _ hs := { hs with controls := reset_bounded.controls, switches := reset_bounded.switches }
  balance _ _ hs := hs
  posted := .of_links fun _ => rfl
  run _ _ _ hs := hs
  current _ hs := hs

theorem serves_resetPanelService (l : Link) (payload : List Byte) (s : State) :
    Serves l s (resetPanelService l payload s).1 := by
  unfold resetPanelService
  split
  · unfold State.startRound
    refine Safe.serves (Safe.trans ?_ (safe_scanner fun h => h))
    exact safe_unseedPanel
  · exact .refl l s

theorem lawful_resetDeviceService (l : Link) (payload : List Byte) (s : State) :
    Lawful s (resetDeviceService l payload s).1 := by
  unfold resetDeviceService
  split
  · exact lawful_beginReset _ s
  · exact .refl s

/-- A service that only reads answers the state as it found it. -/
theorem paramGetService_state (l : Link) (payload : List Byte) (s : State) : (paramGetService l payload s).1 = s := by
  unfold paramGetService
  repeat' split
  all_goals rfl

theorem panelReadService_state (l : Link) (payload : List Byte) (s : State) : (panelReadService l payload s).1 = s := by
  unfold panelReadService
  dsimp only
  repeat' split
  all_goals rfl

theorem calReadService_state (l : Link) (payload : List Byte) (s : State) : (calReadService l payload s).1 = s := by
  unfold calReadService
  repeat' split
  all_goals rfl

theorem voiceReadService_state (l : Link) (payload : List Byte) (s : State) : (voiceReadService l payload s).1 = s := by
  unfold voiceReadService
  repeat' split
  all_goals rfl

theorem statusService_state (l : Link) (payload : List Byte) (s : State) : (statusService l payload s).1 = s := by
  unfold statusService
  split <;> rfl

theorem serves_service {r : Request} (hr : r ≠ .resetDevice) (l : Link) (payload : List Byte) (s : State) :
    Serves l s (r.service l payload s).1 := by
  cases r with
  | keyOn => exact serves_keyOnService l payload s
  | keyOff => exact serves_keyOffService l payload s
  | hold => exact serves_holdService l payload s
  | bend => exact serves_bendService l payload s
  | allOff => exact serves_allOffService l payload s
  | paramSet => exact serves_paramSetService l payload s
  | paramGet => exact (paramGetService_state l payload s).symm ▸ .refl l s
  | stageWrite => exact serves_stageWriteService l payload s
  | stageClear => exact serves_stageClearService l payload s
  | apply => exact serves_applyService l payload s
  | morphCancel => exact serves_morphCancelService l payload s
  | curveSet => exact serves_curveSetService l payload s
  | mapKnob => exact serves_mapKnobService l payload s
  | mapSwitch => exact serves_mapSwitchService l payload s
  | panelRead => exact (panelReadService_state l payload s).symm ▸ .refl l s
  | tuneStart => exact serves_tuneStartService l payload s
  | tuneAbort => exact serves_tuneAbortService l payload s
  | calRead => exact (calReadService_state l payload s).symm ▸ .refl l s
  | calWrite => exact serves_calWriteService l payload s
  | voiceEnable => exact serves_voiceEnableService l payload s
  | voiceDisable => exact serves_voiceDisableService l payload s
  | voiceRead => exact (voiceReadService_state l payload s).symm ▸ .refl l s
  | noticeRead => exact serves_noticeReadService l payload s
  | noticeAck => exact serves_noticeAckService l payload s
  | noticeConfig => exact serves_noticeConfigService l payload s
  | status => exact (statusService_state l payload s).symm ▸ .refl l s
  | resetVoices => exact serves_resetVoicesService l payload s
  | resetPanel => exact serves_resetPanelService l payload s
  | resetDevice => exact absurd rfl hr

theorem lawful_service (r : Request) (l : Link) (payload : List Byte) (s : State) :
    Lawful s (r.service l payload s).1 := by
  by_cases hr : r = .resetDevice
  · exact hr ▸ lawful_resetDeviceService l payload s
  · exact (serves_service hr l payload s).toLawful

theorem lawful_frameService (l : Link) (code : Byte) (rest : List Byte) (s : State) :
    Lawful s (frameService l code rest s).1 := by
  unfold frameService
  split
  · split
    · exact lawful_service _ l _ s
    · exact .refl s
  · exact .refl s

theorem lawful_frame (l : Link) (bytes : List Byte) (s : State) : Lawful s (s.frame l bytes) := by
  unfold State.frame
  split
  · exact .refl s
  · split
    · exact lawful_fetchFrame l _ s
    · exact lawful_takeFrame l _ _ (lawful_frameService l _ _) s

/-! ### Every command -/

/-- A command that answers with one next state, which meets the laws. -/
def KeepsLaws (s : State) (r : Result) : Prop := ∃ t, r = .next t ∧ Lawful s t

theorem KeepsLaws.of_safe {s t : State} (h : Safe s.known 0 0 s t) : KeepsLaws s (.next t) := ⟨t, rfl, h.lawful⟩

theorem KeepsLaws.same (s : State) : KeepsLaws s (.next s) := ⟨s, rfl, .refl s⟩

section
variable (s : State)

theorem keepsLaws_requestBusyDiscard (l : Link) (n : Nat) : KeepsLaws s (execRequestBusyDiscard l n s) := by
  unfold execRequestBusyDiscard
  split
  · exact .same s
  · exact ⟨_, rfl, (lawful_shiftOut l _ s).trans (lawful_discardBusy l _)⟩

theorem keepsLaws_frameDuringReset (l : Link) (n : Nat) : KeepsLaws s (execFrameDuringReset l n s) := by
  unfold execFrameDuringReset
  split
  · exact .same s
  · exact ⟨_, rfl, lawful_shiftOut l _ s⟩

theorem keepsLaws_rstbRelease : KeepsLaws s (execRstbRelease s) := by
  unfold execRstbRelease
  split
  · exact .same s
  · exact ⟨_, rfl, lawful_resetRun s _ _⟩

theorem keepsLaws_resetEnd : KeepsLaws s (execResetEnd s) := by
  unfold execResetEnd
  split
  · exact ⟨_, rfl, lawful_endReset _ s⟩
  · exact .same s

theorem keepsLaws_linkNByte (good : Bool) (value : Byte) : KeepsLaws s (execLinkNByte good value s) := by
  unfold execLinkNByte
  split
  · exact .same s
  · split
    · next hroom => exact .of_safe (safe_lineUnit fun h => ⟨by simp; omega, h.2⟩)
    · exact .of_safe (safe_lineError .overrun)

theorem keepsLaws_parseByte : KeepsLaws s (execParseByte s) := by
  unfold execParseByte
  split
  · exact .same s
  · next hfifo =>
    refine .of_safe (Safe.trans ?_ (safe_parse _))
    refine safe_lineUnit fun h => ⟨?_, h.2⟩
    have := h.1
    rw [hfifo] at this
    simp at this ⊢
    omega

theorem keepsLaws_lineErrorTimerExpiry : KeepsLaws s (execLineErrorTimerExpiry s) := by
  unfold execLineErrorTimerExpiry
  split
  · exact .same s
  · split
    · exact .of_safe safe_postLineError
    · exact .of_safe (safe_lineUnit fun h => h)

theorem keepsLaws_deferTimeout (place : Fin 8) : KeepsLaws s (execDeferTimeout place s) := by
  unfold execDeferTimeout
  split
  · next d hd =>
    obtain ⟨hlt, hget⟩ := List.getElem?_eq_some_iff.mp hd
    have hlist : s.deferred = s.deferred.take place.val ++ d :: s.deferred.drop (place.val + 1) := by
      rw [← hget, List.getElem_cons_drop, List.take_append_drop]
    refine .of_safe (Safe.trans (Safe.trans ?_ (safe_countDropped d.part)) (safe_postDropped _ _ _))
    rw [List.eraseIdx_eq_take_drop_succ]
    exact safe_undefer hlist
  · exact .same s

theorem keepsLaws_retriggerPulseEnd (v : VoiceId) : KeepsLaws s (execRetriggerPulseEnd v s) := by
  unfold execRetriggerPulseEnd
  split
  · next h => exact .of_safe (safe_setPhase_of_loose (by rw [h]; exact ⟨rfl, rfl⟩) rfl)
  · exact .same s

theorem keepsLaws_scanPeriodExpiry : KeepsLaws s (execScanPeriodExpiry s) := by
  unfold execScanPeriodExpiry
  split
  · exact .same s
  · dsimp only
    split
    · exact .of_safe ((safe_scanner fun h => h).trans (safe_scanner fun h => h))
    · exact .of_safe ((safe_scanner fun h => h).trans (safe_scanner fun _ => by simp [incSat16]))

theorem keepsLaws_scanAddressSettled (columns : BitVec 8) : KeepsLaws s (execScanAddressSettled columns s) := by
  unfold execScanAddressSettled
  split
  · next address _ =>
    have hsample := Safe.foldl (c := s.known) (o := 0)
      (f := fun s (col : Fin 8) => s.sample (switchAt address col) (columns.getLsbD col.val))
      (fun _ _ => safe_sample _ _) (List.finRange 8) s
    dsimp only
    generalize (List.finRange 8).foldl _ s = t at hsample ⊢
    exact .of_safe (hsample.trans (safe_scanner fun h => h))
  · exact .same s

theorem keepsLaws_controlConversion (raw : BitVec 12) : KeepsLaws s (execControlConversion raw s) := by
  unfold execControlConversion
  split
  · have hraw : raw.toNat ≤ 4095 := by have := raw.isLt; omega
    exact .of_safe ((safe_conversion _ hraw id).trans (safe_scanner fun h => h))
  · exact .same s

theorem keepsLaws_stillTimeoutExpiry (k : ControlId) : KeepsLaws s (execStillTimeoutExpiry k s) := by
  unfold execStillTimeoutExpiry
  split
  · exact .of_safe (safe_setControl_of_seed rfl fun h => h)
  · exact .same s

theorem keepsLaws_settleExpiry : KeepsLaws s (execSettleExpiry s) := by
  unfold execSettleExpiry
  split
  · next m hm =>
    split
    · refine .of_safe (safe_measure (fun hgood x hx => ?_) id id)
      cases hx
      exact ⟨(hgood m hm).1, (hgood m hm).2.1, trivial⟩
    · exact .same s
  · exact .same s

theorem keepsLaws_finEdge (ticks : Nat) : KeepsLaws s (execFinEdge ticks s) := by
  unfold execFinEdge
  split
  · exact .same s
  · next m hm =>
    have hexpiry : KeepsLaws s (.next (s.edgeExpiry m)) := .of_safe (safe_edgeExpiry id)
    split
    · exact .same s
    · split
      · exact hexpiry
      · split
        · exact .same s
        · refine .of_safe (safe_measure (fun hgood x hx => ?_) (fun _ => Nat.zero_le _) id)
          cases hx
          exact ⟨(hgood m hm).1, (hgood m hm).2.1, trivial⟩
    · split
      · exact hexpiry
      · split
        · exact .same s
        · refine .of_safe (safe_measure (fun hgood x hx => ?_) (fun _ => Nat.zero_le _) id)
          cases hx
          have hn := chooseN_le (min counterMax (s.periodCounter + ticks))
          exact ⟨(hgood m hm).1, (hgood m hm).2.1, min_le_left counterMax _, hn.2, hn.1⟩
    · next hphase =>
      split
      · exact hexpiry
      · split
        · exact .same s
        · exact .of_safe (safe_countEdge ticks hm hphase id)

theorem keepsLaws_edgeTimerExpiry : KeepsLaws s (execEdgeTimerExpiry s) := by
  unfold execEdgeTimerExpiry
  split
  · exact .of_safe (safe_edgeExpiry id)
  · exact .same s

theorem keepsLaws_periodCounterSaturation : KeepsLaws s (execPeriodCounterSaturation s) := by
  unfold execPeriodCounterSaturation
  split
  · split
    · exact .of_safe (safe_saturate _ id)
    · exact .same s
  · exact .same s

theorem keepsLaws_retuneTimerExpiry : KeepsLaws s (execRetuneTimerExpiry s) := by
  unfold execRetuneTimerExpiry
  split
  · exact .same s
  · exact .of_safe ((Safe.ite (safe_createRun _ _ (length_tuneQueue_le _))).trans safe_free)

theorem keepsLaws_glideStep (v : VoiceId) : KeepsLaws s (execGlideStep v s) := by
  unfold execGlideStep
  dsimp only
  split
  · next target htarget => exact .of_safe (safe_setGlide fun h => glideMove_le h.1 (h.2 target htarget))
  · exact .same s

theorem keepsLaws_outputSlot : KeepsLaws s (execOutputSlot s) := by
  unfold execOutputSlot
  split
  · exact .of_safe (safe_outputSlot _)
  · exact .same s

theorem keepsLaws_timestampTick : KeepsLaws s (execTimestampTick s) := by
  unfold execTimestampTick
  split
  · exact .same s
  · exact .of_safe safe_free

theorem keepsLaws_request (r : Request) (l : Link) (payload : List Byte) :
    KeepsLaws s (.next (s.takeRequest r r.service l payload)) :=
  ⟨_, rfl, lawful_takeFrame l _ _ (lawful_service r l payload) s⟩

/-- Every command keeps the laws. -/
theorem keepsLaws_exec (i : Instr) : KeepsLaws s (exec i s) := by
  cases i with
  | unknownRequest l frame => exact ⟨_, rfl, lawful_frame l frame s⟩
  | fetch l n => exact ⟨_, rfl, lawful_fetchFrame l n s⟩
  | requestBusyDiscard l n => exact keepsLaws_requestBusyDiscard s l n
  | frameDuringReset l n => exact keepsLaws_frameDuringReset s l n
  | emptyFrame l => exact .same s
  | replyReady l => exact ⟨_, rfl, lawful_replyReady l s⟩
  | powerOnReset => exact ⟨_, rfl, lawful_cleared⟩
  | rstbRelease => exact keepsLaws_rstbRelease s
  | resetEnd => exact keepsLaws_resetEnd s
  | linkNByte good value => exact keepsLaws_linkNByte s good value
  | parseByte => exact keepsLaws_parseByte s
  | lineErrorTimerExpiry => exact keepsLaws_lineErrorTimerExpiry s
  | dampExpiry v => exact .of_safe (safe_dampEnd v)
  | releaseWindowExpiry v => exact .of_safe (safe_windowExpiry v)
  | deferTimeout place => exact keepsLaws_deferTimeout s place
  | retriggerPulseEnd v => exact keepsLaws_retriggerPulseEnd s v
  | morphStep p => exact .of_safe (safe_morphStep p)
  | scanPeriodExpiry => exact keepsLaws_scanPeriodExpiry s
  | scanAddressSettled columns => exact keepsLaws_scanAddressSettled s columns
  | controlConversion raw => exact keepsLaws_controlConversion s raw
  | stillTimeoutExpiry k => exact keepsLaws_stillTimeoutExpiry s k
  | settleExpiry => exact keepsLaws_settleExpiry s
  | finEdge ticks => exact keepsLaws_finEdge s ticks
  | edgeTimerExpiry => exact keepsLaws_edgeTimerExpiry s
  | periodCounterSaturation => exact keepsLaws_periodCounterSaturation s
  | retuneTimerExpiry => exact keepsLaws_retuneTimerExpiry s
  | glideStep v => exact keepsLaws_glideStep s v
  | outputSlot => exact keepsLaws_outputSlot s
  | timestampTick => exact keepsLaws_timestampTick s
  | keyOn l payload => exact keepsLaws_request s .keyOn l payload
  | keyOff l payload => exact keepsLaws_request s .keyOff l payload
  | hold l payload => exact keepsLaws_request s .hold l payload
  | bend l payload => exact keepsLaws_request s .bend l payload
  | allOff l payload => exact keepsLaws_request s .allOff l payload
  | paramSet l payload => exact keepsLaws_request s .paramSet l payload
  | paramGet l payload => exact keepsLaws_request s .paramGet l payload
  | stageWrite l payload => exact keepsLaws_request s .stageWrite l payload
  | stageClear l payload => exact keepsLaws_request s .stageClear l payload
  | apply l payload => exact keepsLaws_request s .apply l payload
  | morphCancel l payload => exact keepsLaws_request s .morphCancel l payload
  | curveSet l payload => exact keepsLaws_request s .curveSet l payload
  | mapKnob l payload => exact keepsLaws_request s .mapKnob l payload
  | mapSwitch l payload => exact keepsLaws_request s .mapSwitch l payload
  | panelRead l payload => exact keepsLaws_request s .panelRead l payload
  | tuneStart l payload => exact keepsLaws_request s .tuneStart l payload
  | tuneAbort l payload => exact keepsLaws_request s .tuneAbort l payload
  | calRead l payload => exact keepsLaws_request s .calRead l payload
  | calWrite l payload => exact keepsLaws_request s .calWrite l payload
  | voiceEnable l payload => exact keepsLaws_request s .voiceEnable l payload
  | voiceDisable l payload => exact keepsLaws_request s .voiceDisable l payload
  | voiceRead l payload => exact keepsLaws_request s .voiceRead l payload
  | noticeRead l payload => exact keepsLaws_request s .noticeRead l payload
  | noticeAck l payload => exact keepsLaws_request s .noticeAck l payload
  | noticeConfig l payload => exact keepsLaws_request s .noticeConfig l payload
  | status l payload => exact keepsLaws_request s .status l payload
  | resetVoices l payload => exact keepsLaws_request s .resetVoices l payload
  | resetPanel l payload => exact keepsLaws_request s .resetPanel l payload
  | resetDevice l payload => exact keepsLaws_request s .resetDevice l payload

end

/-- A step keeps the laws: taking a command off the queue touches none of them. -/
theorem lawful_step {s t : State} (h : step s = .next t) : Lawful s t := by
  unfold step at h
  split at h
  · cases h
    exact .refl s
  · next i rest _ =>
    obtain ⟨t', ht', hlaw⟩ := keepsLaws_exec { s with pending := rest } i
    cases h.symm.trans ht'
    exact Lawful.trans (Safe.lawful safe_free) hlaw

/-- Settles O4. -/
theorem stepKeepsCapacities : Obligations.StepKeepsCapacities :=
  fun _ _ hbounded hrange hstep => (lawful_step hstep).bounded hrange hbounded

/-- Settles O5. -/
theorem stepKeepsValuesInRange : Obligations.StepKeepsValuesInRange :=
  fun _ _ hrange hstep => (lawful_step hstep).inRange hrange

/-- Settles O6. -/
theorem stepKeepsNoteBalance : Obligations.StepKeepsNoteBalance :=
  fun _ _ hbalanced hstep => (lawful_step hstep).balanced hbalanced

end Sys2Proof.Machine
end

section
/-! PROOFS. Release windows of 0 (R20, assumption log 7): which operations may open one, and that the pass that follows
them closes all. -/

namespace Sys2Proof.Machine

/-- A release window of 0 that stands open in `t` stood open in `s`. -/
def NoNewWindow (s t : State) : Prop :=
  ∀ v, (t.voice v).phase.zeroWindow = true → (s.voice v).phase.zeroWindow = true

theorem NoNewWindow.refl (s : State) : NoNewWindow s s := fun _ h => h

theorem NoNewWindow.trans {s t u : State} (h : NoNewWindow s t) (k : NoNewWindow t u) : NoNewWindow s u :=
  fun v hv => h v (k v hv)

theorem NoNewWindow.of_voices {s t : State} (h : t.voices = s.voices) : NoNewWindow s t := fun v hv => by
  unfold State.voice at *
  rwa [h] at hv

theorem NoNewWindow.settled {s t : State} (h : NoNewWindow s t) (hs : s.Settled) : t.Settled := fun v =>
  Bool.eq_false_iff.mpr fun hv => absurd (hs v) (by simp [h v hv])

theorem NoNewWindow.foldl {α : Type} {f : State → α → State} (h : ∀ s a, NoNewWindow s (f s a)) (l : List α)
    (s : State) : NoNewWindow s (l.foldl f s) := by
  induction l generalizing s with
  | nil => exact .refl s
  | cons a l ih => exact (h s a).trans (ih _)

theorem State.Settled.of_voices {s t : State} (h : t.voices = s.voices) (hs : s.Settled) : t.Settled :=
  (NoNewWindow.of_voices h).settled hs

section
variable {s : State}

/-! ### Operations that open no window -/

theorem noNewWindow_setVoice (v : VoiceId) {x : Voice}
    (h : x.phase.zeroWindow = true → (s.voice v).phase.zeroWindow = true) : NoNewWindow s (s.setVoice v x) :=
  fun w hw => by
    rw [State.voice_setVoice] at hw
    split at hw
    · next e => exact e ▸ h hw
    · exact hw

theorem noNewWindow_setPhase (v : VoiceId) {ph : VoicePhase} (h : ph.zeroWindow = false) :
    NoNewWindow s (s.setPhase v ph) := noNewWindow_setVoice v fun hz => by simp [h] at hz

theorem noNewWindow_setClaim (v : VoiceId) (b : Bool) : NoNewWindow s (s.setClaim v b) := noNewWindow_setVoice v id

theorem noNewWindow_postWhere (d : Link → Bool) (k : NoticeKind) (a b c : Nat) :
    NoNewWindow s (s.postWhere d k a b c) := .of_voices (by unfold State.postWhere; dsimp only; split <;> split <;> rfl)

theorem noNewWindow_leaveSets (v : VoiceId) : NoNewWindow s (s.leaveSets v) := .of_voices (voices_leaveSets v s)

theorem noNewWindow_turnGlide (v : VoiceId) (k : Key) : NoNewWindow s (s.turnGlide v k) :=
  .of_voices (by unfold State.turnGlide; split <;> rfl)

/-- A voice that starts a note, whatever else is written besides its record. -/
theorem noNewWindow_gateOn (v : VoiceId) (p : PartId) (n : Note) : NoNewWindow s (s.gateOn v p n) :=
  (NoNewWindow.of_voices rfl).trans (noNewWindow_setVoice v nofun)

theorem noNewWindow_soundIdle (v : VoiceId) (p : PartId) (n : Note) : NoNewWindow s (s.soundIdle v p n) :=
  (noNewWindow_gateOn v p n).trans (.of_voices rfl)

theorem noNewWindow_retrigger (v : VoiceId) (velocity : Nat) : NoNewWindow s (s.retrigger v velocity) := by
  unfold State.retrigger
  split
  · exact (NoNewWindow.of_voices rfl).trans (noNewWindow_setVoice v nofun)
  · exact .refl s

theorem noNewWindow_reuse (v : VoiceId) (velocity : Nat) : NoNewWindow s (s.reuse v velocity) := by
  unfold State.reuse
  split
  · exact (NoNewWindow.of_voices rfl).trans (noNewWindow_setVoice v nofun)
  · exact .refl s

theorem noNewWindow_cancelSuccessor (v : VoiceId) : NoNewWindow s (s.cancelSuccessor v) := by
  unfold State.cancelSuccessor
  split
  · next n su dp timer _ =>
    dsimp only
    refine (noNewWindow_setPhase v (ph := .damping n none dp timer) rfl).trans (.of_voices ?_)
    split <;> rfl
  · exact .refl s

theorem noNewWindow_cancelAndLeave (v : VoiceId) : NoNewWindow s (s.cancelAndLeave v) :=
  (noNewWindow_cancelSuccessor v).trans (noNewWindow_leaveSets v)

theorem noNewWindow_damp (v : VoiceId) (su : Option Successor) : NoNewWindow s (s.damp v su) := by
  unfold State.damp
  split
  · next n _ =>
    refine ((noNewWindow_leaveSets v).trans (noNewWindow_setPhase v (ph := .damping n su false (s.global gDampTime)) rfl)).trans
      (.of_voices ?_)
    split <;> rfl
  · exact .refl s

theorem noNewWindow_goIdle (v : VoiceId) : NoNewWindow s (s.goIdle v) :=
  (noNewWindow_setVoice v (x := { s.voice v with phase := .idle, releaseStamp := s.timestamp }) nofun).trans
    (.of_voices rfl)

theorem noNewWindow_offer (v : VoiceId) : NoNewWindow s (s.offer v) := by
  unfold State.offer
  split
  · split
    · exact ((NoNewWindow.of_voices rfl).trans (noNewWindow_soundIdle v _ _)).trans (.of_voices rfl)
    · exact .refl s
  · exact .refl s

theorem noNewWindow_offerAll (vs : List VoiceId) : NoNewWindow s (s.offerAll vs) :=
  NoNewWindow.foldl (fun _ v => noNewWindow_offer v) vs s

/-! ### The run -/

theorem noNewWindow_startAnchor (v : VoiceId) (second : Bool) (a : AnchorId) :
    NoNewWindow s (s.startAnchor v second a) := (NoNewWindow.of_voices rfl).trans (noNewWindow_setPhase v rfl)

theorem noNewWindow_openOscillator (v : VoiceId) (second : Bool) : NoNewWindow s (s.openOscillator v second) :=
  (NoNewWindow.of_voices rfl).trans (noNewWindow_startAnchor v second 0)

theorem noNewWindow_enterTuning (v : VoiceId) (fromFault : Bool) : NoNewWindow s (s.enterTuning v fromFault) :=
  (noNewWindow_setPhase v rfl).trans (.of_voices rfl)

theorem noNewWindow_takeNext : NoNewWindow s s.takeNext := by
  unfold State.takeNext
  split
  · split
    · split
      · exact (NoNewWindow.of_voices rfl).trans (noNewWindow_openOscillator _ _)
      · exact .refl s
    · exact .refl s
  · exact .refl s

theorem noNewWindow_becomeFree (v : VoiceId) : NoNewWindow s (s.becomeFree v) := by
  unfold State.becomeFree
  split
  · exact (noNewWindow_enterTuning v false).trans noNewWindow_takeNext
  · exact (noNewWindow_goIdle v).trans (noNewWindow_offer v)

theorem noNewWindow_windowExpiry (v : VoiceId) : NoNewWindow s (s.windowExpiry v) := by
  unfold State.windowExpiry
  split
  · exact noNewWindow_becomeFree v
  · exact .refl s

/-- A voice that is freed stands RELEASED no longer. -/
theorem zeroWindow_becomeFree_self (v : VoiceId) : ((s.becomeFree v).voice v).phase.zeroWindow = false := by
  unfold State.becomeFree
  split
  · refine Bool.eq_false_iff.mpr fun h => ?_
    have h' := noNewWindow_takeNext v h
    simp [State.enterTuning, State.withRun, State.voice, State.stopGlide, State.setGlide, State.setPhase, State.setVoice,
      VoicePhase.zeroWindow] at h'
  · refine Bool.eq_false_iff.mpr fun h => ?_
    have h' := noNewWindow_offer v v h
    simp [VoicePhase.zeroWindow] at h'

/-- The pass over windows of 0, at one voice. -/
def State.passWindow (s : State) (v : VoiceId) : State :=
  match (s.voice v).phase with
  | .released _ _ 0 => s.windowExpiry v
  | _ => s

theorem State.passZeroWindows_eq_foldl (s : State) : s.passZeroWindows = allVoices.foldl State.passWindow s := rfl

theorem noNewWindow_passWindow (v : VoiceId) : NoNewWindow s (s.passWindow v) := by
  unfold State.passWindow
  split
  · exact noNewWindow_windowExpiry v
  · exact .refl s

theorem zeroWindow_passWindow_self (v : VoiceId) : ((s.passWindow v).voice v).phase.zeroWindow = false := by
  unfold State.passWindow
  split
  · next h =>
    unfold State.windowExpiry
    rw [h, if_pos (by rfl)]
    exact zeroWindow_becomeFree_self v
  · next h =>
    cases hphase : (s.voice v).phase with
    | released n start window =>
      cases window with
      | zero => exact absurd hphase (h n start)
      | succ => rfl
    | _ => rfl

theorem zeroWindow_foldl_passWindow {v : VoiceId} {l : List VoiceId} (hv : v ∈ l) (s : State) :
    ((l.foldl State.passWindow s).voice v).phase.zeroWindow = false := by
  induction l generalizing s with
  | nil => cases hv
  | cons w l ih =>
    rcases List.mem_cons.mp hv with rfl | hv
    · refine Bool.eq_false_iff.mpr fun h => ?_
      have h' := NoNewWindow.foldl (fun _ => noNewWindow_passWindow) l (s.passWindow v) v h
      simp [zeroWindow_passWindow_self] at h'
    · exact ih hv _

/-- After the pass over windows of 0 none stands open: the pass closes the window of each voice and opens none. -/
theorem settled_passZeroWindows (s : State) : s.passZeroWindows.Settled :=
  fun v => zeroWindow_foldl_passWindow (List.mem_finRange v) s

theorem noNewWindow_dampEnd (v : VoiceId) : NoNewWindow s (s.dampEnd v) := by
  unfold State.dampEnd
  split
  · next n su dp timer _ =>
    have hturned := ((NoNewWindow.of_voices (s := s) (t := s.unbind v su.part) rfl).trans
      (noNewWindow_gateOn v su.part { key := su.key, velocity := su.velocity })).trans (noNewWindow_turnGlide v su.key)
    dsimp only
    split
    · exact hturned.trans (.of_voices rfl)
    · exact hturned
  · exact (noNewWindow_setPhase v rfl).trans (.of_voices rfl)
  · exact noNewWindow_becomeFree v
  · exact .refl s

/-! ### Notes -/

theorem noNewWindow_deferOrDrop (p : PartId) (k : Key) (velocity : Nat) :
    NoNewWindow s (s.deferOrDrop p k velocity) := by
  unfold State.deferOrDrop
  split
  · exact .of_voices rfl
  · exact (NoNewWindow.of_voices (t := s.countDropped p) rfl).trans (noNewWindow_postWhere _ _ _ _ _)

theorem noNewWindow_allocate (p : PartId) (k : Key) (velocity : Nat) (src : Source) :
    NoNewWindow s (s.allocate p k velocity src) := by
  unfold State.allocate
  split
  · exact (noNewWindow_soundIdle _ p _).trans (.of_voices rfl)
  · exact noNewWindow_damp _ _
  · exact noNewWindow_deferOrDrop p k velocity

theorem noNewWindow_followVoice (p : PartId) (e : HeldKey) (v : VoiceId) : NoNewWindow s (s.followVoice p e v) := by
  unfold State.followVoice
  split
  · split
    · refine NoNewWindow.trans ?_ (noNewWindow_turnGlide v e.key)
      exact (NoNewWindow.of_voices rfl).trans (noNewWindow_setVoice v nofun)
    · refine NoNewWindow.trans ?_ (noNewWindow_turnGlide v e.key)
      exact noNewWindow_setVoice v nofun
  · split
    · exact noNewWindow_setPhase v rfl
    · exact .refl s
  · exact .refl s

theorem noNewWindow_reselect (p : PartId) : NoNewWindow s (s.reselect p) := by
  unfold State.reselect
  split
  · next e _ =>
    split
    · exact .refl s
    · exact (NoNewWindow.of_voices rfl).trans (NoNewWindow.foldl (fun _ v => noNewWindow_followVoice p e v) _ _)
  · exact .refl s

theorem noNewWindow_refreshVoice (p : PartId) (e : HeldKey) (v : VoiceId) : NoNewWindow s (s.refreshVoice p e v) := by
  unfold State.refreshVoice
  split
  · exact noNewWindow_retrigger v e.velocity
  · split
    · exact noNewWindow_setPhase v rfl
    · exact .refl s
  · exact .refl s

theorem noNewWindow_pickSet (p : PartId) (e : HeldKey) (n : Nat) (taken : List VoiceId) (s : State) :
    NoNewWindow s (State.pickSet p e n taken s).2 := by
  induction n generalizing taken s with
  | zero => exact .refl s
  | succ n ih =>
    unfold State.pickSet
    split
    · exact (noNewWindow_soundIdle _ p _).trans (ih _ _)
    · exact (noNewWindow_damp _ _).trans (ih _ _)
    · exact .refl s

theorem noNewWindow_firstKey (p : PartId) (e : HeldKey) : NoNewWindow s (s.firstKey p e) := by
  unfold State.firstKey
  dsimp only
  have hpicked := noNewWindow_pickSet p e (s.wantedCount p) [] s
  generalize State.pickSet p e (s.wantedCount p) [] s = picked at hpicked ⊢
  split
  · exact (hpicked.trans (.of_voices (t := picked.2.countDropped p) rfl)).trans (noNewWindow_postWhere _ _ _ _ _)
  · split
    · refine NoNewWindow.trans ?_ (noNewWindow_postWhere _ _ _ _ _)
      exact hpicked.trans (.of_voices rfl)
    · exact hpicked.trans (.of_voices rfl)

theorem noNewWindow_nextKey (p : PartId) (e : HeldKey) : NoNewWindow s (s.nextKey p e) := by
  unfold State.nextKey
  dsimp only
  split
  · unfold State.refreshSet
    split
    · refine NoNewWindow.trans ?_ (NoNewWindow.foldl (fun _ v => noNewWindow_refreshVoice p e v) _ _)
      exact .of_voices rfl
    · exact .of_voices rfl
  · refine NoNewWindow.trans ?_ (noNewWindow_reselect p)
    exact .of_voices rfl

theorem settled_giveNote (p : PartId) (k : Key) (velocity : Nat) (src : Source) (h : s.Settled) :
    (s.giveNote p k velocity src).1.Settled := by
  have hcounted : (s.countIn p).Settled := .of_voices rfl h
  unfold State.giveNote
  dsimp only
  generalize s.countIn p = t at hcounted ⊢
  split
  · exact .of_voices rfl hcounted
  · split
    · unfold State.polyNote
      split
      · next v _ =>
        dsimp only
        split
        · exact (NoNewWindow.trans (noNewWindow_reuse v _) (.of_voices rfl)).settled hcounted
        · exact (noNewWindow_allocate p k _ src).settled (settled_passZeroWindows _)
      · dsimp only
        exact (noNewWindow_allocate p k _ src).settled hcounted
    · unfold State.monoNote
      dsimp only
      split
      · exact (noNewWindow_firstKey p _).settled hcounted
      · exact (noNewWindow_nextKey p _).settled hcounted

theorem settled_keyOff (p : PartId) (k : Key) (h : s.Settled) : (s.keyOff p k).1.Settled := by
  unfold State.keyOff
  split
  · unfold State.polyKeyOff
    split
    · next v _ =>
      dsimp only
      split
      · unfold State.sustain
        split
        · exact (noNewWindow_setPhase v rfl).settled h
        · exact h
      · exact settled_passZeroWindows _
    · split
      · exact .of_voices rfl h
      · split
        · exact (noNewWindow_cancelSuccessor _).settled h
        · exact h
  · unfold State.monoKeyOff
    dsimp only
    split
    · exact h
    · split
      · exact h
      · split
        · exact .of_voices rfl h
        · dsimp only
          exact settled_passZeroWindows _

/-! ### The measurement and the run -/

theorem noNewWindow_handBack (v : VoiceId) (fault : Bool) : NoNewWindow s (s.handBack v fault) := by
  unfold State.handBack
  dsimp only
  split
  · exact (noNewWindow_setClaim v false).trans (noNewWindow_setPhase v rfl)
  · exact (noNewWindow_setClaim v false).trans (noNewWindow_goIdle v)

theorem noNewWindow_claimVoice (v : VoiceId) : NoNewWindow s (s.claimVoice v) := by
  unfold State.claimVoice
  split
  · exact (noNewWindow_setClaim v true).trans (noNewWindow_enterTuning v false)
  · exact (noNewWindow_setClaim v true).trans (noNewWindow_enterTuning v true)
  · exact noNewWindow_setClaim v true
  · exact noNewWindow_setClaim v true
  · exact noNewWindow_setClaim v true
  · exact .refl s

theorem noNewWindow_claimForeground (v : VoiceId) : NoNewWindow s (s.claimForeground v) := by
  unfold State.claimForeground
  split
  · exact (noNewWindow_setClaim v true).trans (noNewWindow_damp v none)
  · exact (noNewWindow_setClaim v true).trans (noNewWindow_damp v none)
  · exact (noNewWindow_setClaim v true).trans (noNewWindow_cancelAndLeave v)
  · exact noNewWindow_claimVoice v

theorem noNewWindow_dropRun {r : Run} (aborted : Bool) : NoNewWindow s { s.postRunDone r aborted with run := none } :=
  (noNewWindow_postWhere _ _ _ _ _).trans (.of_voices rfl)

theorem noNewWindow_runContinue : NoNewWindow s s.runContinue := by
  unfold State.runContinue
  split
  · split
    · exact noNewWindow_dropRun false
    · split
      · exact (noNewWindow_claimVoice _).trans noNewWindow_takeNext
      · exact noNewWindow_takeNext
    · exact .refl s
  · exact .refl s

theorem noNewWindow_createRun (mode : RunMode) (requester : Option Link) (queue : List VoiceId) :
    NoNewWindow s (s.createRun mode requester queue) := by
  unfold State.createRun
  dsimp only
  split
  · exact (NoNewWindow.of_voices rfl).trans noNewWindow_runContinue
  · refine NoNewWindow.trans ?_ noNewWindow_takeNext
    exact (NoNewWindow.of_voices rfl).trans (NoNewWindow.foldl (fun _ v => noNewWindow_claimForeground v) _ _)

theorem noNewWindow_withRun (f : Run → Run) : NoNewWindow s (s.withRun f) := .of_voices rfl

theorem noNewWindow_handedBack (v : VoiceId) (a b : CalResult) : NoNewWindow s (s.handedBack v a b) := by
  unfold State.handedBack
  dsimp only
  split
  · exact ((noNewWindow_handBack v _).trans (noNewWindow_postWhere _ _ _ _ _)).trans (noNewWindow_postWhere _ _ _ _ _)
  · exact ((noNewWindow_handBack v _).trans (noNewWindow_postWhere _ _ _ _ _)).trans (noNewWindow_offer v)

theorem noNewWindow_voiceDone (v : VoiceId) (a b : CalResult) : NoNewWindow s (s.voiceDone v a b) := by
  rw [voiceDone_eq]
  exact (((noNewWindow_handedBack v a b).trans (noNewWindow_withRun _)).trans (noNewWindow_withRun _)).trans
    noNewWindow_runContinue

theorem voices_decideOscillator (k : CalCandidate) (s : State) : (s.decideOscillator k).1.voices = s.voices := rfl

theorem noNewWindow_anchorCompleted : NoNewWindow s s.anchorCompleted := by
  unfold State.anchorCompleted
  split
  · split
    · split
      · exact (NoNewWindow.of_voices rfl).trans (noNewWindow_startAnchor _ _ _)
      · dsimp only
        split
        · exact (NoNewWindow.of_voices (voices_decideOscillator _ s)).trans (noNewWindow_voiceDone _ _ _)
        · exact ((NoNewWindow.of_voices (voices_decideOscillator _ s)).trans (noNewWindow_withRun _)).trans
            (noNewWindow_openOscillator _ _)
    · exact .refl s
  · exact .refl s

theorem noNewWindow_finishAnchor (m : Measurement) (res : AnchorResult) : NoNewWindow s (s.finishAnchor m res) :=
  (NoNewWindow.of_voices rfl).trans noNewWindow_anchorCompleted

theorem voices_abandonMeasurement : s.abandonMeasurement.voices = s.voices := by
  unfold State.abandonMeasurement
  split
  · rfl
  · split <;> rfl

theorem noNewWindow_abortCurrent (c : Current) : NoNewWindow s (s.abortCurrent c) :=
  (NoNewWindow.of_voices voices_abandonMeasurement).trans (.of_voices rfl)

theorem noNewWindow_abortRun (r : Run) : NoNewWindow s (s.abortRun r) := by
  have hone : NoNewWindow s (s.abortCurrentVoice r).1 := by
    unfold State.abortCurrentVoice
    split
    · exact .refl s
    · dsimp only
      split
      · exact (((noNewWindow_abortCurrent _).trans (noNewWindow_handBack _ _)).trans
          (noNewWindow_postWhere _ _ _ _ _)).trans (noNewWindow_postWhere _ _ _ _ _)
      · exact ((noNewWindow_abortCurrent _).trans (noNewWindow_handBack _ _)).trans (noNewWindow_postWhere _ _ _ _ _)
  have htwo (t : State) : NoNewWindow t (t.abortWaiting r).1 := NoNewWindow.foldl (fun _ v => noNewWindow_handBack v _) _ t
  have hclaims (t : State) : NoNewWindow t t.clearClaims := by
    refine NoNewWindow.foldl (fun s v => ?_) allVoices t
    split
    · exact noNewWindow_setClaim v false
    · exact .refl s
  unfold State.abortRun
  dsimp only
  refine NoNewWindow.trans ?_ (noNewWindow_offerAll _)
  exact ((hone.trans (htwo _)).trans (hclaims _)).trans (noNewWindow_dropRun true)

theorem noNewWindow_goDisabled (v : VoiceId) : NoNewWindow s (s.goDisabled v) :=
  ((noNewWindow_setPhase v rfl).trans (noNewWindow_setClaim v false)).trans (.of_voices rfl)

theorem noNewWindow_leaveRun (v : VoiceId) : NoNewWindow s (s.leaveRun v) := by
  unfold State.leaveRun
  split
  · exact ((noNewWindow_withRun _).trans (noNewWindow_withRun _)).trans noNewWindow_runContinue
  · exact .refl s

theorem noNewWindow_pendDisable (v : VoiceId) : NoNewWindow s (s.pendDisable v) := by
  unfold State.pendDisable
  split
  · exact noNewWindow_setPhase v rfl
  · exact .refl s

theorem noNewWindow_disableTuning (v : VoiceId) : NoNewWindow s (s.disableTuning v) := by
  have hleave := (noNewWindow_goDisabled (s := s) v).trans (noNewWindow_leaveRun v)
  unfold State.disableTuning
  split
  · split
    · exact ((((noNewWindow_abortCurrent _).trans (noNewWindow_goDisabled _)).trans
        (noNewWindow_postWhere _ _ _ _ _)).trans ((noNewWindow_withRun _).trans (noNewWindow_withRun _))).trans
        noNewWindow_runContinue
    · exact hleave
  · exact hleave

theorem noNewWindow_disableVoice (v : VoiceId) : NoNewWindow s (s.disableVoice v) := by
  have hleave := (noNewWindow_goDisabled (s := s) v).trans (noNewWindow_leaveRun v)
  have hdamp := (((noNewWindow_damp (s := s) v none).trans (noNewWindow_pendDisable v)).trans
    (noNewWindow_setClaim v false)).trans (noNewWindow_leaveRun v)
  unfold State.disableVoice
  split
  · exact hleave
  · exact hdamp
  · exact hdamp
  · exact (((noNewWindow_cancelAndLeave v).trans (noNewWindow_pendDisable v)).trans
      (noNewWindow_setClaim v false)).trans (noNewWindow_leaveRun v)
  · exact .refl s
  · exact noNewWindow_disableTuning v
  · exact hleave
  · exact .refl s

theorem noNewWindow_enableVoices (mask : Nat) : NoNewWindow s (s.enableVoices mask) := by
  unfold State.enableVoices
  refine NoNewWindow.trans (NoNewWindow.foldl (fun s v => ?_) _ s) (noNewWindow_offerAll _)
  unfold State.enableVoice
  split
  · exact noNewWindow_goIdle v
  · exact noNewWindow_setPhase v rfl
  · exact .refl s

theorem noNewWindow_resetVoicesNow : NoNewWindow s s.resetVoicesNow := by
  have habort : NoNewWindow s s.abortRunForReset := by
    unfold State.abortRunForReset
    split
    · exact .refl s
    · dsimp only
      refine NoNewWindow.trans ?_ (noNewWindow_dropRun true)
      split
      · exact (noNewWindow_abortCurrent _).trans (noNewWindow_postWhere _ _ _ _ _)
      · exact .refl s
  refine habort.trans fun v hv => ?_
  have hvoice : s.resetVoicesNow.voice v = (s.abortRunForReset.voice v).afterReset s.abortRunForReset.timestamp := by
    simp [State.resetVoicesNow, State.voice]
  rw [hvoice] at hv
  unfold Voice.afterReset at hv
  split at hv
  · exact hv
  · cases hv

/-! ### Parameters -/

theorem settled_reconcile (old : Vector Nat 40) (p : PartId) : (s.reconcile old p).Settled := by
  unfold State.reconcile
  extract_lets
  split
  · exact (noNewWindow_offerAll _).settled (settled_passZeroWindows _)
  · exact settled_passZeroWindows _

theorem voices_takeAway (p : PartId) (i : ParamId) (s : State) : (s.takeAway p i).voices = s.voices := by
  unfold State.takeAway
  split
  · split <;> rfl
  · rfl

theorem voices_postWhere (d : Link → Bool) (k : NoticeKind) (a b c : Nat) (s : State) :
    (s.postWhere d k a b c).voices = s.voices := by
  unfold State.postWhere
  dsimp only
  split <;> split <;> rfl

theorem voices_endEmptyChain (p : PartId) (s : State) : (s.endEmptyChain p).voices = s.voices := by
  unfold State.endEmptyChain
  split
  · split
    · exact voices_postWhere _ _ _ _ _ s
    · rfl
  · rfl

theorem voices_tellMap (p : PartId) (i : ParamId) (x : Nat) (s : State) : (s.tellMap p i x).voices = s.voices := by
  unfold State.tellMap
  rfl

theorem settled_writeParam (w : Writer) (p : PartId) (i : ParamId) (x : Nat) (h : s.Settled) :
    (s.writeParam w p i x).Settled := by
  have hwritten : ((s.setParam p i x).takeAway p i).Settled := .of_voices (voices_takeAway p i _) (.of_voices rfl h)
  unfold State.writeParam
  dsimp only
  refine .of_voices (voices_postWhere _ _ _ _ _ _) ?_
  split <;> split
  · exact .of_voices (voices_endEmptyChain p _) (.of_voices (voices_tellMap p i x _) (settled_reconcile _ p))
  · exact .of_voices (voices_endEmptyChain p _) (.of_voices (voices_tellMap p i x _) hwritten)
  · exact .of_voices (voices_tellMap p i x _) (settled_reconcile _ p)
  · exact .of_voices (voices_tellMap p i x _) hwritten

theorem voices_foldl {α : Type} {f : State → α → State} (h : ∀ s a, (f s a).voices = s.voices) (l : List α) (s : State) :
    (l.foldl f s).voices = s.voices := by
  induction l generalizing s with
  | nil => rfl
  | cons a l ih => rw [List.foldl_cons, ih, h]

theorem voices_setParams (p : PartId) (es : List (ParamId × Nat)) (s : State) :
    (es.foldl (fun s e => s.setParam p e.1 e.2) s).voices = s.voices :=
  voices_foldl (f := fun s (e : ParamId × Nat) => s.setParam p e.1 e.2) (fun _ _ => rfl) es s

theorem voices_tellAll (p : PartId) (es : List (ParamId × Nat)) (s : State) : (s.tellAll p es).voices = s.voices :=
  voices_foldl (f := fun s (e : ParamId × Nat) => s.tellMap p e.1 e.2) (fun s e => voices_tellMap p e.1 e.2 s) es s

theorem voices_applyNow (p : PartId) (es : List (ParamId × Nat)) (s : State) : (s.applyNow p es).voices = s.voices :=
  voices_foldl (f := fun s (e : ParamId × Nat) => (s.setParam p e.1 e.2).takeAway p e.1)
    (fun s e => voices_takeAway p e.1 (s.setParam p e.1 e.2)) es s

theorem settled_applyEntries (p : PartId) (origin : Link) (time : Nat) (curve : Curve) (es : List (ParamId × Nat))
    (h : s.Settled) : (s.applyEntries p origin time curve es).Settled := by
  have hstruct : (s.applyStruct p (es.filter fun e => isStruct e.1)).Settled := by
    unfold State.applyStruct
    dsimp only
    split
    · exact settled_reconcile _ p
    · exact .of_voices (voices_setParams p _ s) h
  unfold State.applyEntries
  dsimp only
  generalize s.applyStruct p _ = t at hstruct ⊢
  refine .of_voices (voices_tellAll p es _) ?_
  split
  · exact .of_voices (voices_postWhere _ _ _ _ _ t) hstruct
  · split
    · have hnow (l : List (ParamId × Nat)) : (t.applyNow p l).Settled := .of_voices (voices_applyNow p l t) hstruct
      refine .of_voices (voices_postWhere _ _ _ _ _ _) ?_
      split
      · exact .of_voices (voices_endEmptyChain p _) (hnow _)
      · exact hnow _
    · refine .of_voices ?_ hstruct
      unfold State.applyMorph
      split
      · rfl
      · exact voices_postWhere _ _ _ _ _ t

theorem voices_morphMove (p : PartId) (m : Morph) (e : Nat) (s : State) : (s.morphMove p m e).voices = s.voices :=
  voices_foldl (f := fun s (x : MorphEntry × Nat) => s.setParam p x.1.index x.2) (fun _ _ => rfl) _ s

theorem voices_morphComplete (p : PartId) (m : Morph) (s : State) : (s.morphComplete p m).voices = s.voices :=
  (voices_postWhere _ _ _ _ _ _).trans ((voices_tellAll p _ _).trans (voices_setParams p _ s))

theorem voices_morphStep (p : PartId) (s : State) : (s.morphStep p).voices = s.voices := by
  unfold State.morphStep
  split
  · dsimp only
    split
    · exact voices_morphMove p _ _ s
    · exact voices_morphComplete p _ s
  · rfl

theorem voices_cancelMorph (p : PartId) (m : Morph) (revert : Bool) (l : Link) (s : State) :
    (s.cancelMorph p m revert l).voices = s.voices :=
  (voices_postWhere _ _ _ _ _ _).trans ((voices_tellAll p _ _).trans (voices_setParams p _ s))

/-! ### The panel and Link N -/

theorem settled_switchAction (a : SwitchAction) (press : Bool) (h : s.Settled) : (s.switchAction a press).Settled := by
  unfold State.switchAction
  split
  · exact h
  · exact h
  · split
    · exact settled_writeParam .panel _ _ _ h
    · exact h
  · exact settled_passZeroWindows _
  · split
    · exact settled_passZeroWindows _
    · exact h
  · split
    · exact settled_passZeroWindows _
    · exact h

theorem settled_sample (i : SwitchId) (level : Bool) (h : s.Settled) : (s.sample i level).Settled := by
  unfold State.sample
  dsimp only
  split
  · exact .of_voices (voices_postWhere _ _ _ _ _ _) (settled_switchAction _ _ (.of_voices rfl h))
  · exact .of_voices rfl h

theorem settled_take (p : PartId) (i : ParamId) (x : Nat) (h : s.Settled) : (s.take p i x).Settled := by
  unfold State.take
  split
  · exact h
  · exact settled_writeParam .panel p i x h

theorem voices_goLive (k : ControlId) (b : KnobBinding) (s : State) : (s.goLive k b).voices = s.voices :=
  voices_postWhere _ _ _ _ _ _

theorem settled_controlMove (k : ControlId) (p0 p1 : Nat) (h : s.Settled) : (s.controlMove k p0 p1).Settled := by
  unfold State.controlMove
  split
  · exact h
  · dsimp only
    split
    · exact settled_take _ _ _ h
    · split
      · exact .of_voices (voices_goLive k _ _) (settled_take _ _ _ h)
      · exact h
    · split
      · exact .of_voices (voices_goLive k _ _) (settled_take _ _ _ h)
      · exact h
    · split
      · exact .of_voices (voices_goLive k _ _) (settled_take _ _ _ h)
      · exact settled_take _ _ _ h

theorem voices_quietRound (k : ControlId) (s : State) : (s.quietRound k).voices = s.voices := by
  unfold State.quietRound
  dsimp only
  split
  · rfl
  · split
    · exact voices_postWhere _ _ _ _ _ _
    · rfl

theorem voices_noiseGuard (k : ControlId) (p0 p1 : Nat) (s : State) : (s.noiseGuard k p0 p1).voices = s.voices := by
  unfold State.noiseGuard
  dsimp only
  split
  · split
    · rfl
    · split
      · split
        · exact voices_postWhere _ _ _ _ _ _
        · rfl
      · rfl
  · split
    · exact voices_postWhere _ _ _ _ _ _
    · split
      · rfl
      · exact voices_quietRound k _

theorem settled_conversion (k : ControlId) (r : Nat) (h : s.Settled) : (s.conversion k r).Settled := by
  unfold State.conversion
  dsimp only
  split
  · refine .of_voices ?_ h
    unfold State.seededEvent
    split <;> rfl
  · split
    · exact .of_voices (voices_postWhere _ _ _ _ _ _)
        (settled_controlMove k _ _ (.of_voices (voices_noiseGuard k _ _ _) (.of_voices rfl h)))
    · exact .of_voices (voices_quietRound k _) (.of_voices rfl h)

theorem voices_lineError (k : LineErrorKind) (s : State) : (s.lineError k).voices = s.voices := by rw [lineError_frame]

theorem settled_parse (x : LineByte) (h : s.Settled) : (s.parse x).Settled := by
  unfold State.parse
  split
  · exact .of_voices (voices_lineError _ _) (.of_voices rfl h)
  · split
    · unfold State.parseStatus
      have hbefore : (if s.lineUnit.parser.inFrame then (s.setParser .waitStatus).lineError .frame else s).Settled := by
        split
        · exact .of_voices (voices_lineError _ _) (.of_voices rfl h)
        · exact h
      dsimp only
      generalize (if s.lineUnit.parser.inFrame then (s.setParser .waitStatus).lineError .frame else s) = t at hbefore ⊢
      split
      · unfold State.startLineFrame
        split
        · exact settled_passZeroWindows _
        · exact settled_passZeroWindows _
        · exact .of_voices rfl hbefore
        · exact .of_voices rfl hbefore
        · exact .of_voices rfl hbefore
      · exact .of_voices (voices_lineError _ _) (.of_voices rfl hbefore)
    · unfold State.parseData
      split
      · exact .of_voices (voices_lineError _ _) h
      · split
        · exact settled_keyOff _ _ (.of_voices rfl h)
        · exact .of_voices rfl h
      · dsimp only
        split
        · exact settled_giveNote _ _ _ _ (.of_voices rfl h)
        · exact .of_voices rfl h
        · exact .of_voices rfl h

/-! ### Requests -/

theorem voices_setLink (l : Link) (u : LinkUnit) (s : State) : (s.setLink l u).voices = s.voices := by cases l <;> rfl

theorem voices_cleared (s : State) : s.cleared.voices = State.reset.voices := rfl

theorem settled_of_reset {t : State} (h : t.voices = State.reset.voices) : t.Settled := .of_voices h reset_settled

theorem voices_bendService (l : Link) (payload : List Byte) (s : State) :
    (bendService l payload s).1.voices = s.voices := by
  unfold bendService
  repeat' split
  all_goals rfl

theorem voices_stageWriteService (l : Link) (payload : List Byte) (s : State) :
    (stageWriteService l payload s).1.voices = s.voices := by
  unfold stageWriteService
  split
  · split
    · split
      · rfl
      · split
        · rfl
        · exact voices_setLink l _ s
    · rfl
  · rfl

theorem voices_stageClearService (l : Link) (payload : List Byte) (s : State) :
    (stageClearService l payload s).1.voices = s.voices := by
  unfold stageClearService
  split
  · exact voices_setLink l _ s
  · rfl

theorem voices_curveSetService (l : Link) (payload : List Byte) (s : State) :
    (curveSetService l payload s).1.voices = s.voices := by
  unfold curveSetService
  split <;> rfl

theorem voices_mapKnobService (l : Link) (payload : List Byte) (s : State) :
    (mapKnobService l payload s).1.voices = s.voices := by
  unfold mapKnobService
  repeat' split
  all_goals rfl

theorem voices_mapSwitchService (l : Link) (payload : List Byte) (s : State) :
    (mapSwitchService l payload s).1.voices = s.voices := by
  unfold mapSwitchService
  repeat' split
  all_goals rfl

theorem voices_checkedMap (ob : Byte) (m : Option CalMap) (s : State) : (s.checkedMap ob m).1.voices = s.voices := by
  unfold State.checkedMap
  repeat' split
  all_goals rfl

theorem voices_calWriteService (l : Link) (payload : List Byte) (s : State) :
    (calWriteService l payload s).1.voices = s.voices := by
  unfold calWriteService
  split
  · split
    · split
      · exact voices_checkedMap _ _ s
      · rfl
    · split
      · split
        · split
          · split
            · exact voices_checkedMap _ _ s
            · rfl
          · rfl
        · rfl
      · rfl
  · rfl

theorem voices_noticeReadService (l : Link) (payload : List Byte) (s : State) :
    (noticeReadService l payload s).1.voices = s.voices := by
  unfold noticeReadService
  split
  · exact voices_setLink l _ s
  · rfl

theorem voices_noticeAckService (l : Link) (payload : List Byte) (s : State) :
    (noticeAckService l payload s).1.voices = s.voices := by
  unfold noticeAckService
  split
  · dsimp only
    split
    · exact voices_setLink l _ s
    · rfl
  · rfl

theorem voices_noticeConfigService (l : Link) (payload : List Byte) (s : State) :
    (noticeConfigService l payload s).1.voices = s.voices := by
  unfold noticeConfigService
  split
  · split
    · rfl
    · exact voices_setLink l _ s
  · rfl

theorem voices_resetPanelService (l : Link) (payload : List Byte) (s : State) :
    (resetPanelService l payload s).1.voices = s.voices := by
  unfold resetPanelService
  split <;> rfl

theorem settled_keyOnService (l : Link) (payload : List Byte) (h : s.Settled) : (keyOnService l payload s).1.Settled := by
  unfold keyOnService
  split
  · split
    · dsimp only
      exact settled_giveNote _ _ _ _ h
    · exact h
  · exact h

theorem settled_keyOffService (l : Link) (payload : List Byte) (h : s.Settled) :
    (keyOffService l payload s).1.Settled := by
  unfold keyOffService
  split
  · split
    · dsimp only
      exact settled_keyOff _ _ h
    · exact h
  · exact h

theorem settled_holdService (l : Link) (payload : List Byte) (h : s.Settled) : (holdService l payload s).1.Settled := by
  unfold holdService
  split
  · split
    · dsimp only
      exact settled_passZeroWindows _
    · exact h
  · exact h

theorem settled_allOffService (l : Link) (payload : List Byte) (h : s.Settled) :
    (allOffService l payload s).1.Settled := by
  unfold allOffService
  split
  · split
    · dsimp only
      exact settled_passZeroWindows _
    · exact h
  · exact h

theorem settled_paramSetService (l : Link) (payload : List Byte) (h : s.Settled) :
    (paramSetService l payload s).1.Settled := by
  unfold paramSetService
  split
  · dsimp only
    split
    · exact settled_writeParam _ _ _ _ h
    · split
      · refine .of_voices (voices_postWhere _ _ _ _ _ _) ?_
        split
        · exact .of_voices rfl h
        · exact .of_voices rfl h
      · exact h
    · exact h
  · exact h

theorem settled_applyService (l : Link) (payload : List Byte) (h : s.Settled) :
    (applyService l payload s).1.Settled := by
  unfold applyService
  split
  · split
    · dsimp only
      exact settled_applyEntries _ _ _ _ _ (.of_voices (voices_setLink l _ s) h)
    · exact h
  · exact h

theorem settled_morphCancelService (l : Link) (payload : List Byte) (h : s.Settled) :
    (morphCancelService l payload s).1.Settled := by
  unfold morphCancelService
  split
  · split
    · split
      · exact .of_voices (voices_cancelMorph _ _ _ _ s) h
      · exact h
    · exact h
  · exact h

theorem noNewWindow_tuneStartService (l : Link) (payload : List Byte) :
    NoNewWindow s (tuneStartService l payload s).1 := by
  unfold tuneStartService
  dsimp only
  split
  · split
    · exact .refl s
    · split
      · exact .refl s
      · split
        · exact .refl s
        · split
          · exact .refl s
          · exact noNewWindow_createRun _ _ _
  · exact .refl s

theorem noNewWindow_tuneAbortService (l : Link) (payload : List Byte) :
    NoNewWindow s (tuneAbortService l payload s).1 := by
  unfold tuneAbortService
  split
  · split
    · exact .refl s
    · exact noNewWindow_abortRun _
  · exact .refl s

theorem noNewWindow_voiceEnableService (l : Link) (payload : List Byte) :
    NoNewWindow s (voiceEnableService l payload s).1 := by
  unfold voiceEnableService
  split
  · dsimp only
    split
    · exact .refl s
    · exact noNewWindow_enableVoices _
  · exact .refl s

theorem noNewWindow_voiceDisableService (l : Link) (payload : List Byte) :
    NoNewWindow s (voiceDisableService l payload s).1 := by
  unfold voiceDisableService
  split
  · dsimp only
    split
    · exact .refl s
    · exact NoNewWindow.foldl (fun _ v => noNewWindow_disableVoice v) _ s
  · exact .refl s

theorem noNewWindow_resetVoicesService (l : Link) (payload : List Byte) :
    NoNewWindow s (resetVoicesService l payload s).1 := by
  unfold resetVoicesService
  split
  · exact noNewWindow_resetVoicesNow
  · exact .refl s

theorem settled_resetDeviceService (l : Link) (payload : List Byte) (h : s.Settled) :
    (resetDeviceService l payload s).1.Settled := by
  unfold resetDeviceService
  split
  · exact settled_of_reset (voices_cleared s)
  · exact h

theorem settled_service (r : Request) (l : Link) (payload : List Byte) (h : s.Settled) :
    (r.service l payload s).1.Settled := by
  cases r with
  | keyOn => exact settled_keyOnService l payload h
  | keyOff => exact settled_keyOffService l payload h
  | hold => exact settled_holdService l payload h
  | bend => exact .of_voices (voices_bendService l payload s) h
  | allOff => exact settled_allOffService l payload h
  | paramSet => exact settled_paramSetService l payload h
  | paramGet => exact (paramGetService_state l payload s).symm ▸ h
  | stageWrite => exact .of_voices (voices_stageWriteService l payload s) h
  | stageClear => exact .of_voices (voices_stageClearService l payload s) h
  | apply => exact settled_applyService l payload h
  | morphCancel => exact settled_morphCancelService l payload h
  | curveSet => exact .of_voices (voices_curveSetService l payload s) h
  | mapKnob => exact .of_voices (voices_mapKnobService l payload s) h
  | mapSwitch => exact .of_voices (voices_mapSwitchService l payload s) h
  | panelRead => exact (panelReadService_state l payload s).symm ▸ h
  | tuneStart => exact (noNewWindow_tuneStartService l payload).settled h
  | tuneAbort => exact (noNewWindow_tuneAbortService l payload).settled h
  | calRead => exact (calReadService_state l payload s).symm ▸ h
  | calWrite => exact .of_voices (voices_calWriteService l payload s) h
  | voiceEnable => exact (noNewWindow_voiceEnableService l payload).settled h
  | voiceDisable => exact (noNewWindow_voiceDisableService l payload).settled h
  | voiceRead => exact (voiceReadService_state l payload s).symm ▸ h
  | noticeRead => exact .of_voices (voices_noticeReadService l payload s) h
  | noticeAck => exact .of_voices (voices_noticeAckService l payload s) h
  | noticeConfig => exact .of_voices (voices_noticeConfigService l payload s) h
  | status => exact (statusService_state l payload s).symm ▸ h
  | resetVoices => exact (noNewWindow_resetVoicesService l payload).settled h
  | resetPanel => exact .of_voices (voices_resetPanelService l payload s) h
  | resetDevice => exact settled_resetDeviceService l payload h

theorem settled_takeFrame (l : Link) (n : Nat) (code : Byte) {work : State → State × Answer}
    (hwork : ∀ s : State, s.Settled → (work s).1.Settled) (h : s.Settled) : (s.takeFrame l n code work).Settled := by
  have hshifted : (s.shiftOut l (fillers n)).Settled := .of_voices (voices_setLink l _ s) h
  unfold State.takeFrame
  dsimp only
  split
  · exact hshifted
  · split
    · exact .of_voices (voices_setLink l _ _) hshifted
    · refine .of_voices ?_ (hwork _ hshifted)
      unfold State.answer
      split
      · rfl
      · exact voices_setLink l _ _

theorem voices_fetchFrame (l : Link) (n : Nat) (s : State) : (s.fetchFrame l n).voices = s.voices := by
  unfold State.fetchFrame State.shiftOut
  dsimp only
  split
  · rfl
  · split
    · exact voices_setLink l _ s
    · split
      · split
        · exact (voices_setLink l _ _).trans (voices_setLink l _ s)
        · exact voices_setLink l _ s
      · exact voices_setLink l _ s

theorem settled_frame (l : Link) (bytes : List Byte) (h : s.Settled) : (s.frame l bytes).Settled := by
  unfold State.frame
  split
  · exact h
  · split
    · exact .of_voices (voices_fetchFrame l _ s) h
    · refine settled_takeFrame l _ _ (fun s hs => ?_) h
      unfold frameService
      split
      · split
        · exact settled_service _ l _ hs
        · exact hs
      · exact hs

/-! ### Every command -/

theorem noNewWindow_counter (x : Nat) : NoNewWindow s { s with periodCounter := x } := .of_voices rfl

theorem settled_edgeExpiry (m : Measurement) (h : s.Settled) : (s.edgeExpiry m).Settled := by
  unfold State.edgeExpiry
  split
  · exact h
  · exact (noNewWindow_finishAnchor m .dead).settled h
  · exact ((noNewWindow_counter _).trans (noNewWindow_finishAnchor m .dead)).settled h
  · exact ((noNewWindow_counter _).trans (noNewWindow_finishAnchor m .dead)).settled h

theorem settled_saturate (m : Measurement) (h : s.Settled) : (s.saturate m).Settled :=
  ((noNewWindow_counter _).trans (noNewWindow_finishAnchor m .dead)).settled h

theorem settled_countEdge (m : Measurement) (ticks c1 n periods : Nat) (h : s.Settled) :
    (s.countEdge m ticks c1 n periods).Settled := by
  unfold State.countEdge
  dsimp only
  split
  · exact settled_saturate m h
  · split
    · exact .of_voices rfl h
    · unfold State.closeCount
      generalize s.periodCounter + ticks = x
      dsimp only
      split
      · exact ((noNewWindow_counter x).trans (noNewWindow_finishAnchor m _)).settled h
      · split
        · exact .of_voices rfl h
        · exact (NoNewWindow.trans (.of_voices rfl) (noNewWindow_finishAnchor m .unstable)).settled h

/-- A command that answers with one next state, settled when the state before was. -/
def StaysSettled (s : State) (r : Result) : Prop := ∃ t, r = .next t ∧ (s.Settled → t.Settled)

theorem StaysSettled.of_voices {t : State} (h : t.voices = s.voices) : StaysSettled s (.next t) :=
  ⟨t, rfl, .of_voices h⟩

theorem StaysSettled.same (s : State) : StaysSettled s (.next s) := ⟨s, rfl, id⟩

theorem staysSettled_finEdge (ticks : Nat) : StaysSettled s (execFinEdge ticks s) := by
  unfold execFinEdge
  split
  · exact .same s
  · next m _ =>
    have hexpiry : StaysSettled s (.next (s.edgeExpiry m)) := ⟨_, rfl, settled_edgeExpiry m⟩
    split
    · exact .same s
    · split
      · exact hexpiry
      · split
        · exact .same s
        · exact .of_voices rfl
    · split
      · exact hexpiry
      · split
        · exact .same s
        · exact .of_voices rfl
    · split
      · exact hexpiry
      · split
        · exact .same s
        · exact ⟨_, rfl, settled_countEdge m _ _ _ _⟩

theorem noNewWindow_slotClamp (n : ChannelId) : NoNewWindow s (s.slotClamp n) := by
  have hclamp (v : VoiceId) (second : Bool) : NoNewWindow s (s.noteClamp v second) := by
    unfold State.noteClamp
    dsimp only
    split
    · split
      · exact .refl s
      · refine NoNewWindow.trans ?_ (noNewWindow_postWhere _ _ _ _ _)
        exact noNewWindow_setVoice v id
    · exact .refl s
  unfold State.slotClamp
  split
  · split
    · exact hclamp _ false
    · exact hclamp _ true
    · exact .refl s
  · exact .refl s

theorem staysSettled_lineNByte (good : Bool) (value : Byte) : StaysSettled s (execLinkNByte good value s) := by
  unfold execLinkNByte
  split
  · exact .same s
  · split
    · exact .of_voices rfl
    · exact .of_voices (voices_lineError _ s)

theorem settled_samples (columns : BitVec 8) (address : Fin 8) (l : List (Fin 8)) (h : s.Settled) :
    (l.foldl (fun s c => s.sample (switchAt address c) (columns.getLsbD c.val)) s).Settled := by
  induction l generalizing s with
  | nil => exact h
  | cons c l ih => exact ih (settled_sample _ _ h)

theorem staysSettled_scanAddressSettled (columns : BitVec 8) : StaysSettled s (execScanAddressSettled columns s) := by
  unfold execScanAddressSettled
  split
  · next address _ =>
    have hsamples := settled_samples (s := s) columns address (List.finRange 8)
    dsimp only
    generalize (List.finRange 8).foldl _ s = t at hsamples ⊢
    exact ⟨_, rfl, fun h => .of_voices rfl (hsamples h)⟩
  · exact .same s

theorem staysSettled_retuneTimerExpiry : StaysSettled s (execRetuneTimerExpiry s) := by
  unfold execRetuneTimerExpiry
  split
  · exact .same s
  · refine ⟨_, rfl, fun h => .of_voices rfl ?_⟩
    split
    · exact (noNewWindow_createRun _ _ _).settled h
    · exact h

theorem settled_exec (i : Instr) : StaysSettled s (exec i s) := by
  cases hrequest : i.request? with
  | some x =>
    obtain ⟨r, l, payload⟩ := x
    rw [eq_commandOf_of_request hrequest, exec_commandOf]
    exact ⟨_, rfl, settled_takeFrame l _ _ fun _ => settled_service r l payload⟩
  | none =>
    cases i <;> simp only [Instr.request?, reduceCtorEq] at hrequest
    case unknownRequest l frame => exact ⟨_, rfl, settled_frame l frame⟩
    case fetch l n => exact .of_voices (voices_fetchFrame l n s)
    case requestBusyDiscard l n =>
      change StaysSettled s (execRequestBusyDiscard l n s)
      unfold execRequestBusyDiscard
      split
      · exact .same s
      · exact .of_voices ((voices_setLink l _ _).trans (voices_setLink l _ s))
    case frameDuringReset l n =>
      change StaysSettled s (execFrameDuringReset l n s)
      unfold execFrameDuringReset
      split
      · exact .same s
      · exact .of_voices (voices_setLink l _ s)
    case emptyFrame l => exact .same s
    case replyReady l =>
      refine .of_voices ?_
      unfold State.replyReady
      dsimp only
      split
      · rfl
      · exact voices_setLink l _ s
    case powerOnReset => exact ⟨_, rfl, fun _ => settled_of_reset (voices_cleared s)⟩
    case rstbRelease =>
      change StaysSettled s (execRstbRelease s)
      unfold execRstbRelease
      split
      · exact .same s
      · exact .of_voices rfl
    case resetEnd =>
      change StaysSettled s (execResetEnd s)
      unfold execResetEnd
      split
      · exact ⟨_, rfl, fun _ => settled_of_reset ((voices_postWhere _ _ _ _ _ _).trans (voices_cleared s))⟩
      · exact .same s
    case linkNByte good value => exact staysSettled_lineNByte good value
    case parseByte =>
      change StaysSettled s (execParseByte s)
      unfold execParseByte
      split
      · exact .same s
      · exact ⟨_, rfl, fun h => settled_parse _ (.of_voices rfl h)⟩
    case lineErrorTimerExpiry =>
      change StaysSettled s (execLineErrorTimerExpiry s)
      unfold execLineErrorTimerExpiry
      split
      · exact .same s
      · split
        · refine .of_voices ?_
          rw [postLineError_frame]
        · exact .of_voices rfl
    case dampExpiry v => exact ⟨_, rfl, (noNewWindow_dampEnd v).settled⟩
    case releaseWindowExpiry v => exact ⟨_, rfl, (noNewWindow_windowExpiry v).settled⟩
    case deferTimeout place =>
      change StaysSettled s (execDeferTimeout place s)
      unfold execDeferTimeout
      split
      · exact .of_voices (voices_postWhere _ _ _ _ _ _)
      · exact .same s
    case retriggerPulseEnd v =>
      change StaysSettled s (execRetriggerPulseEnd v s)
      unfold execRetriggerPulseEnd
      split
      · exact ⟨_, rfl, (noNewWindow_setPhase v rfl).settled⟩
      · exact .same s
    case morphStep p => exact .of_voices (voices_morphStep p s)
    case scanPeriodExpiry =>
      change StaysSettled s (execScanPeriodExpiry s)
      unfold execScanPeriodExpiry
      split
      · exact .same s
      · dsimp only
        split <;> exact .of_voices rfl
    case scanAddressSettled columns => exact staysSettled_scanAddressSettled columns
    case controlConversion raw =>
      change StaysSettled s (execControlConversion raw s)
      unfold execControlConversion
      split
      · exact ⟨_, rfl, fun h => .of_voices rfl (settled_conversion _ _ h)⟩
      · exact .same s
    case stillTimeoutExpiry k =>
      change StaysSettled s (execStillTimeoutExpiry k s)
      unfold execStillTimeoutExpiry
      split
      · exact .of_voices rfl
      · exact .same s
    case settleExpiry =>
      change StaysSettled s (execSettleExpiry s)
      unfold execSettleExpiry
      split
      · split
        · exact .of_voices rfl
        · exact .same s
      · exact .same s
    case finEdge ticks => exact staysSettled_finEdge ticks
    case edgeTimerExpiry =>
      change StaysSettled s (execEdgeTimerExpiry s)
      unfold execEdgeTimerExpiry
      split
      · exact ⟨_, rfl, settled_edgeExpiry _⟩
      · exact .same s
    case periodCounterSaturation =>
      change StaysSettled s (execPeriodCounterSaturation s)
      unfold execPeriodCounterSaturation
      split
      · split
        · exact ⟨_, rfl, settled_saturate _⟩
        · exact .same s
      · exact .same s
    case retuneTimerExpiry => exact staysSettled_retuneTimerExpiry
    case glideStep v =>
      change StaysSettled s (execGlideStep v s)
      unfold execGlideStep
      dsimp only
      split
      · exact .of_voices rfl
      · exact .same s
    case outputSlot =>
      change StaysSettled s (execOutputSlot s)
      unfold execOutputSlot
      split
      · exact ⟨_, rfl, ((noNewWindow_slotClamp _).trans (.of_voices rfl)).settled⟩
      · exact .same s
    case timestampTick =>
      change StaysSettled s (execTimestampTick s)
      unfold execTimestampTick
      split
      · exact .same s
      · exact .of_voices rfl

end

/-- Settles O7: every operation that may open a window of 0 is followed by the pass that closes it. -/
theorem stepKeepsZeroWindowsExpired : Obligations.StepKeepsZeroWindowsExpired := by
  intro s t hs hstep
  unfold step at hstep
  split at hstep
  · cases hstep
    exact hs
  · next i rest _ =>
    obtain ⟨u, hu, hsettled⟩ := settled_exec (s := { s with pending := rest }) i
    cases hstep.symm.trans hu
    exact hsettled (.of_voices rfl hs)

end Sys2Proof.Machine
end

section
/-! PROOFS. What a request frame is answered with, what a refusal leaves, and what a request may touch of the other link
(R176, R177). -/

namespace Sys2Proof.Machine

/-! ### A request on a link that is ready -/

theorem State.ready_iff {s : State} {l : Link} : s.ready l ↔ s.inReset = false ∧ s.busy l = false := by
  simp [State.ready, State.inReset, State.busy]

/-- A state as a request finds it: the filler bytes of its frame stand shifted out (R175). -/
abbrev State.framed (s : State) (l : Link) (payload : List Byte) : State :=
  s.shiftOut l (fillers (2 + payload.length))

theorem exec_request {s : State} {l : Link} (hready : s.ready l) (r : Request) (payload : List Byte) :
    exec (commandOf l payload r) s = .next ((r.service l payload (s.framed l payload)).1.answer l
      ((r.service l payload (s.framed l payload)).2.toReply r.code)) := by
  obtain ⟨hreset, hfree⟩ := State.ready_iff.mp hready
  rw [exec_commandOf, State.takeRequest, State.takeFrame_free hreset hfree]

theorem posted_shiftOut_other (l : Link) (bs : List Byte) (s : State) :
    (s.shiftOut l bs).link l.other = s.link l.other := State.link_other_setLink l _ s

/-- A request that begins no reset leaves its reply in process, whatever its service did. -/
theorem exec_request_of_running {s : State} {l : Link} (hready : s.ready l) {r : Request} (hr : r ≠ .resetDevice)
    (payload : List Byte) :
    exec (commandOf l payload r) s = .next ((r.service l payload (s.framed l payload)).1.setLink l
      { (r.service l payload (s.framed l payload)).1.link l with
        inProcess := some ((r.service l payload (s.framed l payload)).2.toReply r.code) }) := by
  have hrunning := (serves_service hr l payload (s.framed l payload)).running
  rw [exec_request hready, State.answer_of_running]
  rw [State.inReset, hrunning, State.shiftOut_resetRun, hready.1]
  rfl

/-! ### The other link (R176, R190) -/

/-- Settles O14: a request is discarded on its own link, or its service reaches the other link by notices alone. -/
theorem requestLeavesOtherLinkAlone : Obligations.RequestLeavesOtherLinkAlone := by
  intro s t l r payload hr hexec
  have hshift := posted_shiftOut_other l (fillers (2 + payload.length)) s
  have hother := (serves_service hr l payload (s.framed l payload)).other
  rw [hshift] at hother
  rw [exec_commandOf] at hexec
  cases hexec
  cases hreset : s.inReset with
  | true =>
    rw [State.takeRequest, State.takeFrame_inReset hreset, hshift]
  | false =>
    cases hbusy : s.busy l with
    | true =>
      rw [State.takeRequest, State.takeFrame_busy hreset hbusy, State.discardBusy, State.link_other_setLink, hshift]
    | false =>
      rw [State.takeRequest, State.takeFrame_free hreset hbusy, State.answer]
      split
      · exact hother
      · rw [State.link_other_setLink]
        exact hother

/-! ### The fields of a payload (R183) -/

theorem field?_of_lt {n : Nat} {b : Byte} (h : b.toNat < n) : field? n b = some ⟨b.toNat, h⟩ := dif_pos h

theorem field?_of_le {n : Nat} {b : Byte} (h : n ≤ b.toNat) : field? n b = none := dif_neg (by omega)

theorem lt_of_field? {n : Nat} {b : Byte} {i : Fin n} (h : field? n b = some i) : b.toNat < n := by
  by_contra hlt
  rw [field?_of_le (by omega)] at h
  cases h

theorem le_of_field?_none {n : Nat} {b : Byte} (h : field? n b = none) : n ≤ b.toNat := by
  by_contra hlt
  rw [field?_of_lt (by omega)] at h
  cases h

theorem field?_isSome_iff {n : Nat} {b : Byte} : (field? n b).isSome = true ↔ b.toNat < n := by
  unfold field?
  split <;> simp <;> omega

theorem part?_isSome_iff {b : Byte} : (part? b).isSome = true ↔ b.toNat ≤ 3 := field?_isSome_iff.trans Nat.lt_succ_iff

theorem key?_isSome_iff {b : Byte} : (key? b).isSome = true ↔ b.toNat ≤ 127 := field?_isSome_iff.trans Nat.lt_succ_iff

theorem flag?_isSome_iff {b : Byte} : (flag? b).isSome = true ↔ b.toNat ≤ 1 := by
  revert b
  decide

theorem curve?_isSome_iff {b : Byte} : (curve? b).isSome = true ↔ b.toNat ≤ 1 := by
  rw [curve?, Option.isSome_map, flag?_isSome_iff]

theorem knobMode?_isSome_iff {b : Byte} : (knobMode? b).isSome = true ↔ b.toNat ≤ 2 := by
  revert b
  decide

theorem byte_eq_iff {b : Byte} {n : Nat} (hn : n < 256) : b = BitVec.ofNat 8 n ↔ b.toNat = n := by
  rw [BitVec.toNat_eq, BitVec.toNat_ofNat, Nat.mod_eq_of_lt hn]

theorem partMask?_isSome_iff {b : Byte} : (partMask? b).isSome = true ↔ 1 ≤ b.toNat ∧ b.toNat ≤ 15 := by
  unfold partMask?
  split <;> simp <;> omega

theorem switchAction?_isSome_iff {a x y : Byte} : (switchAction? a x y).isSome = true ↔
    a.toNat ≤ 1 ∨ a.toNat = 2 ∧ x.toNat ≤ 3 ∧ y.toNat ≤ 39 ∨ a.toNat = 3 ∧ (1 ≤ x.toNat ∧ x.toNat ≤ 15) ∧ y.toNat ≤ 1
      ∨ a.toNat = 4 ∧ 1 ≤ x.toNat ∧ x.toNat ≤ 15 := by
  unfold switchAction?
  split <;> simp [*, Option.isSome_bind, Option.any_eq_true_iff_get, part?_isSome_iff, field?_isSome_iff,
    flag?_isSome_iff, partMask?_isSome_iff]
  · exact fun _ => Nat.lt_succ_iff
  · next h0 h1 h2 h3 h4 =>
    change ¬_ at h0 h1
    exact ⟨by omega, fun h => absurd h h2, fun h => absurd h h3, fun h => absurd h h4⟩

theorem length_of_values16? {bs : List Byte} {vs : List Nat} (h : values16? bs = some vs) : bs.length = 2 * vs.length := by
  induction bs using values16?.induct generalizing vs with
  | case1 =>
    cases h
    rfl
  | case2 lo hi rest ih =>
    rw [values16?, Option.map_eq_some_iff] at h
    obtain ⟨ws, hws, rfl⟩ := h
    simp only [List.length_cons, ih hws]
    omega
  | case3 => cases h

theorem values16?_isSome_iff {bs : List Byte} : (values16? bs).isSome = true ↔ bs.length % 2 = 0 := by
  induction bs using values16?.induct with
  | case1 => simp [values16?]
  | case2 lo hi rest ih =>
    simp only [values16?, Option.isSome_map, ih, List.length_cons]
    omega
  | case3 => simp [values16?]

/-- The value at a place of a run of 16-bit values. -/
theorem getD_values16? {bs : List Byte} {vs : List Nat} (h : values16? bs = some vs) (j : Nat) :
    vs.getD j 0 = (bs.getD (2 * j) 0).toNat + 256 * (bs.getD (2 * j + 1) 0).toNat := by
  induction bs using values16?.induct generalizing vs j with
  | case1 =>
    cases h
    simp
  | case2 lo hi rest ih =>
    rw [values16?, Option.map_eq_some_iff] at h
    obtain ⟨ws, hws, rfl⟩ := h
    cases j with
    | zero => rfl
    | succ j =>
      rw [List.getD_cons_succ, ih hws]
      rfl
  | case3 => cases h

/-! ### What a service answers -/

/-- A service answers with a status, and a refusal is all that it does then (R177). -/
structure Answers (s : State) (res : State × Answer) (st : Status) : Prop where
  status : res.2.status = st
  refused : st ≠ .ok → res = s.refused st

theorem Answers.refusal (s : State) (st : Status) : Answers s (s.refused st) st := ⟨rfl, fun _ => rfl⟩

theorem Answers.ok {s : State} {res : State × Answer} (h : res.2.status = .ok) : Answers s res .ok :=
  ⟨h, fun hne => absurd rfl hne⟩

/-- A service that does its work when its check passes, and refuses its request otherwise. -/
theorem Answers.check {s : State} {res : State × Answer} {good : Prop} [Decidable good]
    (hgood : good → res.2.status = .ok) (hbad : ¬good → res = s.refused .range) :
    Answers s res (if decide good = true then .ok else .range) := by
  by_cases h : good
  · rw [if_pos (decide_eq_true h)]
    exact .ok (hgood h)
  · rw [if_neg (by simpa using h)]
    exact hbad h ▸ .refusal s .range

section
variable (l : Link) (s : State)

theorem answers_keyOn (a b c : Byte) :
    Answers s (keyOnService l [a, b, c] s) (Given.statusOf s l .keyOn [a, b, c]) := by
  refine Answers.check (good := a.toNat ≤ 3 ∧ b.toNat ≤ 127) (fun h => ?_) fun h => ?_ <;>
    rw [← part?_isSome_iff, ← key?_isSome_iff] at h <;> unfold keyOnService
  · obtain ⟨⟨x, hx⟩, y, hy⟩ := And.imp Option.isSome_iff_exists.mp Option.isSome_iff_exists.mp h
    simp [hx, hy]
  · dsimp only
    split
    · next hx hy => simp [hx, hy] at h
    · rfl

theorem answers_keyOff (a b : Byte) :
    Answers s (keyOffService l [a, b] s) (Given.statusOf s l .keyOff [a, b]) := by
  refine Answers.check (good := a.toNat ≤ 3 ∧ b.toNat ≤ 127) (fun h => ?_) fun h => ?_ <;>
    rw [← part?_isSome_iff, ← key?_isSome_iff] at h <;> unfold keyOffService
  · obtain ⟨⟨x, hx⟩, y, hy⟩ := And.imp Option.isSome_iff_exists.mp Option.isSome_iff_exists.mp h
    simp [hx, hy]
  · dsimp only
    split
    · next hx hy => simp [hx, hy] at h
    · rfl

theorem answers_hold (a b : Byte) :
    Answers s (holdService l [a, b] s) (Given.statusOf s l .hold [a, b]) := by
  refine Answers.check (good := (1 ≤ a.toNat ∧ a.toNat ≤ 15) ∧ b.toNat ≤ 1) (fun h => ?_) fun h => ?_ <;>
    rw [← partMask?_isSome_iff, ← flag?_isSome_iff] at h <;> unfold holdService
  · obtain ⟨⟨x, hx⟩, y, hy⟩ := And.imp Option.isSome_iff_exists.mp Option.isSome_iff_exists.mp h
    simp [hx, hy]
  · dsimp only
    split
    · next hx hy => simp [hx, hy] at h
    · rfl

theorem answers_apply (a b c d : Byte) :
    Answers s (applyService l [a, b, c, d] s) (Given.statusOf s l .apply [a, b, c, d]) := by
  refine Answers.check (good := a.toNat ≤ 3 ∧ d.toNat ≤ 1) (fun h => ?_) fun h => ?_ <;>
    rw [← part?_isSome_iff, ← curve?_isSome_iff] at h <;> unfold applyService
  · obtain ⟨⟨x, hx⟩, y, hy⟩ := And.imp Option.isSome_iff_exists.mp Option.isSome_iff_exists.mp h
    simp [hx, hy]
  · dsimp only
    split
    · next hx hy => simp [hx, hy] at h
    · rfl

theorem answers_mapSwitch (a b c d : Byte) :
    Answers s (mapSwitchService l [a, b, c, d] s) (Given.statusOf s l .mapSwitch [a, b, c, d]) := by
  refine Answers.check (good := a.toNat ≤ 63 ∧ (b.toNat ≤ 1 ∨ b.toNat = 2 ∧ c.toNat ≤ 3 ∧ d.toNat ≤ 39 ∨ b.toNat = 3 ∧ (1 ≤ c.toNat ∧ c.toNat ≤ 15) ∧
    d.toNat ≤ 1 ∨ b.toNat = 4 ∧ 1 ≤ c.toNat ∧ c.toNat ≤ 15)) (fun h => ?_) fun h => ?_ <;>
    rw [← Nat.lt_succ_iff (n := 63), ← field?_isSome_iff, ← switchAction?_isSome_iff] at h <;> unfold mapSwitchService
  · obtain ⟨⟨x, hx⟩, y, hy⟩ := And.imp Option.isSome_iff_exists.mp Option.isSome_iff_exists.mp h
    simp [hx, hy]
  · dsimp only
    split
    · next hx hy => simp [hx, hy] at h
    · rfl

theorem answers_morphCancel (a b : Byte) :
    Answers s (morphCancelService l [a, b] s) (Given.statusOf s l .morphCancel [a, b]) := by
  refine Answers.check (good := a.toNat ≤ 3 ∧ b.toNat ≤ 1) (fun h => ?_) fun h => ?_ <;>
    rw [← part?_isSome_iff, ← flag?_isSome_iff] at h <;> unfold morphCancelService
  · obtain ⟨⟨x, hx⟩, y, hy⟩ := And.imp Option.isSome_iff_exists.mp Option.isSome_iff_exists.mp h
    simp only [hx, hy]
    split <;> rfl
  · dsimp only
    split
    · next hx hy => simp [hx, hy] at h
    · rfl

theorem answers_bend (a b c : Byte) : Answers s (bendService l [a, b, c] s) (Given.statusOf s l .bend [a, b, c]) := by
  refine Answers.check (good := a.toNat ≤ 3) (fun h => ?_) fun h => ?_ <;>
    rw [← part?_isSome_iff] at h <;> unfold bendService
  · obtain ⟨p, hp⟩ := Option.isSome_iff_exists.mp h
    simp [hp]
  · rw [Option.not_isSome_iff_eq_none] at h
    simp [h]

theorem answers_allOff (a : Byte) : Answers s (allOffService l [a] s) (Given.statusOf s l .allOff [a]) := by
  refine Answers.check (good := 1 ≤ a.toNat ∧ a.toNat ≤ 15) (fun h => ?_) fun h => ?_ <;>
    rw [← partMask?_isSome_iff] at h <;> unfold allOffService
  · obtain ⟨m, hm⟩ := Option.isSome_iff_exists.mp h
    simp [hm]
  · rw [Option.not_isSome_iff_eq_none] at h
    simp [h]

theorem answers_calRead (a : Byte) : Answers s (calReadService l [a] s) (Given.statusOf s l .calRead [a]) := by
  refine Answers.check (good := a.toNat ≤ 31) (fun h => ?_) fun h => ?_ <;> unfold calReadService
  · simp [field?_of_lt (show a.toNat < 32 by omega)]
  · simp [field?_of_le (show 32 ≤ a.toNat by omega)]

theorem answers_paramSet (a b c d : Byte) :
    Answers s (paramSetService l [a, b, c, d] s) (Given.statusOf s l .paramSet [a, b, c, d]) := by
  have hglobal : a = globalCode ↔ a.toNat = 4 := byte_eq_iff (by decide)
  refine Answers.check (good := a.toNat ≤ 3 ∧ b.toNat ≤ 39 ∨ a.toNat = 4 ∧ b.toNat ≤ 15) (fun h => ?_) fun h => ?_ <;>
    unfold paramSetService
  · rcases h with ⟨ha, hb⟩ | ⟨ha, hb⟩
    · simp [part?, field?_of_lt (show a.toNat < 4 by omega), field?_of_lt (show b.toNat < 40 by omega)]
    · have hpart : part? a = none := field?_of_le (by omega)
      simp only [hpart, field?_of_lt (show b.toNat < 16 by omega)]
      rw [if_pos (hglobal.mpr ha)]
  · dsimp only
    split
    · next hp hi =>
      have := part?_isSome_iff.mp (Option.isSome_of_eq_some hp)
      have := lt_of_field? hi
      omega
    · next hp hg =>
      have := lt_of_field? hg
      rw [if_neg (by rw [hglobal]; omega)]
    · rfl

theorem inTable_iff {n maxCount first count : Nat} :
    inTable n maxCount first count = true ↔ first < n ∧ 1 ≤ count ∧ count ≤ maxCount ∧ first + count ≤ n := by
  simp [inTable]

theorem answers_paramGet (a b c : Byte) :
    Answers s (paramGetService l [a, b, c] s) (Given.statusOf s l .paramGet [a, b, c]) := by
  have hglobal : a = globalCode ↔ a.toNat = 4 := byte_eq_iff (by decide)
  refine Answers.check (good := 1 ≤ c.toNat ∧ (a.toNat ≤ 3 ∧ b.toNat + c.toNat ≤ 40
    ∨ a.toNat = 4 ∧ b.toNat + c.toNat ≤ 16)) (fun h => ?_) fun h => ?_ <;> unfold paramGetService <;> dsimp only
  · split
    · next hp =>
      have := part?_isSome_iff.mp (Option.isSome_of_eq_some hp)
      rw [if_pos (inTable_iff.mpr (by omega))]
    · next hp =>
      have := le_of_field?_none hp
      rw [if_pos ⟨hglobal.mpr (by omega), inTable_iff.mpr (by omega)⟩]
  · split
    · next hp =>
      have := part?_isSome_iff.mp (Option.isSome_of_eq_some hp)
      rw [if_neg (by rw [inTable_iff]; omega)]
    · rw [if_neg (by rw [hglobal, inTable_iff]; omega)]

theorem answers_voiceRead (a b : Byte) :
    Answers s (voiceReadService l [a, b] s) (Given.statusOf s l .voiceRead [a, b]) := by
  refine Answers.check (good := 1 ≤ b.toNat ∧ a.toNat + b.toNat ≤ 16) (fun h => ?_) fun h => ?_ <;>
    unfold voiceReadService <;> dsimp only
  · rw [if_pos (inTable_iff.mpr (by omega))]
  · rw [if_neg (by rw [inTable_iff]; omega)]

theorem answers_panelRead (a b c : Byte) :
    Answers s (panelReadService l [a, b, c] s) (Given.statusOf s l .panelRead [a, b, c]) := by
  have hcontrols : flag? a = some false ↔ a.toNat = 0 := by
    revert a
    decide
  have hswitches : flag? a = some true ↔ a.toNat = 1 := by
    revert a
    decide
  have hneither := flag?_isSome_iff (b := a)
  refine Answers.check (good := 1 ≤ c.toNat ∧ (a.toNat = 0 ∧ c.toNat ≤ 32 ∧ b.toNat + c.toNat ≤ 128
    ∨ a.toNat = 1 ∧ b.toNat + c.toNat ≤ 64)) (fun h => ?_) fun h => ?_ <;>
    unfold panelReadService <;> dsimp only <;> split
  · next hf =>
    have := hcontrols.mp hf
    rw [if_pos (inTable_iff.mpr (by omega))]
  · next hf =>
    have := hswitches.mp hf
    rw [if_pos (inTable_iff.mpr (by omega))]
  · next hf =>
    simp only [hf, Option.isSome_none, Bool.false_eq_true, false_iff] at hneither
    omega
  · next hf =>
    have := hcontrols.mp hf
    rw [if_neg (by rw [inTable_iff]; omega)]
  · next hf =>
    have := hswitches.mp hf
    rw [if_neg (by rw [inTable_iff]; omega)]
  · rfl

theorem answers_mapKnob (a b c d : Byte) :
    Answers s (mapKnobService l [a, b, c, d] s) (Given.statusOf s l .mapKnob [a, b, c, d]) := by
  have hnone : b = 15 ↔ b.toNat = 15 := byte_eq_iff (by decide)
  refine Answers.check (good := a.toNat ≤ 127 ∧ (b.toNat = 15 ∨ b.toNat ≤ 3 ∧ c.toNat ≤ 39 ∧ d.toNat ≤ 2))
    (fun h => ?_) fun h => ?_ <;> unfold mapKnobService <;> dsimp only
  · obtain ⟨ha, h⟩ := h
    rw [field?_of_lt (show a.toNat < 128 by omega)]
    dsimp only
    split
    · rfl
    · next hb =>
      rw [hnone] at hb
      obtain ⟨hp, hi, hm⟩ := h.resolve_left hb
      obtain ⟨p, hp⟩ := Option.isSome_iff_exists.mp (part?_isSome_iff.mpr hp)
      obtain ⟨m, hm⟩ := Option.isSome_iff_exists.mp (knobMode?_isSome_iff.mpr hm)
      simp only [hp, hm, field?_of_lt (show c.toNat < 40 by omega)]
      rfl
  · split
    · next hk =>
      have := lt_of_field? hk
      split
      · next hb =>
        rw [hnone] at hb
        omega
      · split
        · next hp hi hm =>
          have := part?_isSome_iff.mp (Option.isSome_of_eq_some hp)
          have := lt_of_field? hi
          have := knobMode?_isSome_iff.mp (Option.isSome_of_eq_some hm)
          omega
        · rfl
    · rfl

theorem u16_eq_zero_iff {lo hi : Byte} : u16 lo hi = 0 ↔ ¬1 ≤ lo.toNat + 256 * hi.toNat := by
  unfold u16
  omega

theorem answers_voiceEnable (a b : Byte) :
    Answers s (voiceEnableService l [a, b] s) (Given.statusOf s l .voiceEnable [a, b]) := by
  refine Answers.check (good := 1 ≤ a.toNat + 256 * b.toNat) (fun h => ?_) fun h => ?_ <;>
    unfold voiceEnableService <;> simp [u16_eq_zero_iff, h]

theorem answers_voiceDisable (a b : Byte) :
    Answers s (voiceDisableService l [a, b] s) (Given.statusOf s l .voiceDisable [a, b]) := by
  refine Answers.check (good := 1 ≤ a.toNat + 256 * b.toNat) (fun h => ?_) fun h => ?_ <;>
    unfold voiceDisableService <;> simp [u16_eq_zero_iff, h]

theorem answers_noticeConfig (a b : Byte) :
    Answers s (noticeConfigService l [a, b] s) (Given.statusOf s l .noticeConfig [a, b]) := by
  refine Answers.check (good := a.toNat ≤ 31) (fun h => ?_) fun h => ?_ <;> unfold noticeConfigService
  · simp [show ¬32 ≤ a.toNat by omega]
  · simp [show 32 ≤ a.toNat by omega]

theorem answers_noticeAck (a : Byte) :
    Answers s (noticeAckService l [a] s) (Given.statusOf s l .noticeAck [a]) := by
  have hstored : (s.queueOf l).isStored a.toNat = true ↔
      a.toNat ≤ 31 ∧ (a.toNat + 32 - (s.link l).queue.get.val) % 32 < (s.link l).queue.stored.length := decide_eq_true_iff
  unfold noticeAckService Given.statusOf
  simp only [List.getD_cons_zero, ← hstored]
  split
  · exact .ok rfl
  · exact .refusal s .badIndex

theorem answers_tuneStart (a b c : Byte) :
    Answers s (tuneStartService l [a, b, c] s) (Given.statusOf s l .tuneStart [a, b, c]) := by
  have hmode := flag?_isSome_iff (b := c)
  have hword : a.toNat + 256 * b.toNat = u16 a b := rfl
  unfold tuneStartService Given.statusOf
  simp only [List.getD_cons_zero, List.getD_cons_succ, hword]
  split
  · next h =>
    rw [h] at hmode
    rw [if_pos (.inr (by simpa using hmode))]
    exact .refusal s .range
  · next fg h =>
    rw [h] at hmode
    have hle : ¬1 < c.toNat := by simpa using hmode
    simp only [hle, or_false]
    split
    · exact .refusal s .range
    · split
      · exact .refusal s .tuneBusy
      · refine .ok ?_
        split <;> rfl

theorem answers_stageWrite {payload : List Byte} (h : lengthOk .stageWrite payload = true) :
    Answers s (stageWriteService l payload s) (Given.statusOf s l .stageWrite payload) := by
  cases payload with
  | nil => simp [lengthOk] at h
  | cons a rest =>
    simp only [lengthOk, List.length_cons, decide_eq_true_eq] at h
    obtain ⟨vs, hvs⟩ := Option.isSome_iff_exists.mp (values16?_isSome_iff.mpr (show rest.length % 2 = 0 by omega))
    have hlen := length_of_values16? hvs
    have hsome : ¬(vs = [] ∨ 40 < vs.length) := by
      rw [← List.length_eq_zero_iff]
      omega
    refine Answers.check (good := a.toNat + ((a :: rest).length - 1) / 2 ≤ 40) (fun hgood => ?_) fun hbad => ?_ <;>
      unfold stageWriteService <;> simp only [hvs, if_neg hsome] <;> rw [List.length_cons] at *
    · rw [if_neg (by omega)]
    · rw [if_pos (by omega)]

theorem goodSteps_iff {vs : List Nat} : goodSteps vs = true ↔
    ∀ j, j + 1 < vs.length → vs.getD j 0 + 2048 ≤ vs.getD (j + 1) 0 ∧ vs.getD (j + 1) 0 ≤ vs.getD j 0 + 8192 := by
  induction vs using goodSteps.induct with
  | case1 p q ps ih =>
    simp only [goodSteps, goodStep, Bool.and_eq_true, decide_eq_true_eq, ih]
    constructor
    · rintro ⟨hpq, hrest⟩ (_ | j) hj
      · simpa using hpq
      · exact hrest j (by simpa using hj)
    · refine fun h => ⟨by simpa using h 0 (by simp), fun j hj => ?_⟩
      simpa using h (j + 1) (by simpa using hj)
  | case2 vs h =>
    have hshort : vs.length ≤ 1 := by
      match vs, h with
      | [], _ => simp
      | [_], _ => simp
      | p :: q :: ps, h => exact absurd rfl (h p q ps)
    rw [goodSteps]
    · exact ⟨fun _ j hj => by omega, fun _ => rfl⟩
    · exact h

theorem answers_checkedMap (ob : Byte) (m : Option CalMap) : Answers s (s.checkedMap ob m)
    (if 31 < ob.toNat then .range
      else if (s.voice (Fin.ofNat 16 (ob.toNat / 2))).phase.isTuning = true then .voiceBusy
      else if m.isSome = true then .ok else .range) := by
  unfold State.checkedMap
  by_cases hob : 31 < ob.toNat
  · rw [if_pos hob, field?_of_le hob]
    exact .refusal s .range
  · have hvoice : voiceOfOsc ⟨ob.toNat, by omega⟩ = Fin.ofNat 16 (ob.toNat / 2) :=
      Fin.ext (Nat.mod_eq_of_lt (show ob.toNat / 2 < 16 by omega)).symm
    rw [if_neg hob, field?_of_lt (show ob.toNat < 32 by omega)]
    dsimp only
    rw [State.oscTuning, hvoice]
    split
    · exact .refusal s .voiceBusy
    · cases m with
      | none => exact .refusal s .range
      | some m => exact .ok rfl

theorem calibratedInRange_iff {first last : Nat} {vs : List Nat} (hlen : vs.length = last + 1 - first) :
    calibratedInRange first last vs = true ↔ last ≤ 7 ∧ first + 3 ≤ last ∧ ∀ j, j < last - first →
      vs.getD j 0 + 2048 ≤ vs.getD (j + 1) 0 ∧ vs.getD (j + 1) 0 ≤ vs.getD j 0 + 8192 := by
  simp only [calibratedInRange, Bool.and_eq_true, decide_eq_true_eq, goodSteps_iff, hlen]
  constructor
  · rintro ⟨⟨-, hlast, hkept⟩, hsteps⟩
    exact ⟨hlast, hkept, fun j hj => hsteps j (by omega)⟩
  · rintro ⟨hlast, hkept, hsteps⟩
    exact ⟨⟨by omega, hlast, hkept⟩, fun j hj => hsteps j (by omega)⟩

theorem answers_calWrite {payload : List Byte} (h : lengthOk .calWrite payload = true) :
    Answers s (calWriteService l payload s) (Given.statusOf s l .calWrite payload) := by
  have hzero (x : Byte) : x = 0 ↔ x.toNat = 0 := byte_eq_iff (by decide)
  have hone (x : Byte) : x = 1 ↔ x.toNat = 1 := byte_eq_iff (by decide)
  match payload, h with
  | ob :: state :: rest, h =>
    unfold calWriteService
    dsimp only
    by_cases h0 : state.toNat = 0
    · have hrest : rest = [] := by
        match rest, h with
        | [], _ => rfl
        | [x], h => simp [lengthOk, calWriteLengthOk, (hzero state).mpr h0] at h
        | first :: last :: ps, h => simp [lengthOk, calWriteLengthOk, (hzero state).mpr h0] at h
      subst hrest
      rw [if_pos ((hzero state).mpr h0), if_pos rfl]
      simpa [Given.statusOf, h0] using answers_checkedMap s ob (some .nominal)
    · rw [if_neg (by rwa [hzero])]
      by_cases h1 : state.toNat = 1
      · rw [if_pos ((hone state).mpr h1)]
        match rest, h with
        | [], h => simp [lengthOk, calWriteLengthOk, (hone state).mpr h1] at h
        | [x], h => simp [lengthOk, calWriteLengthOk, (hone state).mpr h1] at h
        | first :: last :: ps, h =>
          have hps : ps.length = 2 * (last.toNat + 1 - first.toNat) := by
            simpa [lengthOk, calWriteLengthOk, (hone state).mpr h1] using h
          obtain ⟨vs, hvs⟩ := Option.isSome_iff_exists.mp (values16?_isSome_iff.mpr (show ps.length % 2 = 0 by omega))
          have hlen : vs.length = last.toNat + 1 - first.toNat := by
            have := length_of_values16? hvs
            omega
          have hget (k : Nat) : (ob :: state :: first :: last :: ps).getD (4 + k) 0x00#8 = ps.getD k 0x00#8 := by
            rw [Nat.add_comm]
            rfl
          have hword (j : Nat) : ((ob :: state :: first :: last :: ps).getD (4 + 2 * j) 0x00#8).toNat +
              256 * ((ob :: state :: first :: last :: ps).getD (4 + 2 * j + 1) 0x00#8).toNat = vs.getD j 0 := by
            rw [getD_values16? hvs, hget, Nat.add_assoc 4, hget]
            rfl
          have hstatus : Given.statusOf s l .calWrite (ob :: state :: first :: last :: ps) =
              if 31 < ob.toNat then .range
              else if (s.voice (Fin.ofNat 16 (ob.toNat / 2))).phase.isTuning = true then .voiceBusy
              else if calibratedInRange first.toNat last.toNat vs = true then .ok else .range := by
            have hnext (j : Nat) : 6 + 2 * j = 4 + 2 * (j + 1) := by omega
            simp only [Given.statusOf, hnext, hword, calibratedInRange_iff hlen]
            simp [h1]
          simp only [hvs, if_pos hlen, hstatus]
          have hanswer := answers_checkedMap s ob
            (if calibratedInRange first.toNat last.toNat vs then some (.calibrated first.toNat vs) else none)
          simpa using hanswer
      · rw [if_neg (by rwa [hone])]
        have hstatus : Given.statusOf s l .calWrite (ob :: state :: rest) = .range := by
          simp only [Given.statusOf, List.getD_cons_zero, List.getD_cons_succ]
          rw [if_pos (.inr (by omega))]
        rw [hstatus]
        exact .refusal s .range

theorem answers_stageClear : Answers s (stageClearService l [] s) (Given.statusOf s l .stageClear []) := .ok rfl

theorem answers_tuneAbort : Answers s (tuneAbortService l [] s) (Given.statusOf s l .tuneAbort []) := by
  unfold tuneAbortService
  dsimp only
  split <;> exact .ok rfl

/-! ### Lengths (R177, R182) -/

theorem exists_of_length_six {α : Type} {xs : List α} (h : xs.length = 6) : ∃ a b c d e f, xs = [a, b, c, d, e, f] := by
  match xs, h with
  | a :: b :: xs, h =>
    obtain ⟨c, d, e, f, rfl⟩ := List.length_eq_four.mp (show xs.length = 4 by simpa using h)
    exact ⟨a, b, c, d, e, f, rfl⟩

variable {l s}

theorem stageWriteService_of_badLength {payload : List Byte} (h : lengthOk .stageWrite payload = false) :
    stageWriteService l payload s = s.refused .length := by
  unfold stageWriteService
  split
  · next a rest =>
    split
    · next vs hvs =>
      have hlen := length_of_values16? hvs
      simp only [lengthOk, List.length_cons, decide_eq_false_iff_not] at h
      rw [if_pos]
      rw [← List.length_eq_zero_iff]
      omega
    · rfl
  · rfl

theorem calWriteService_of_badLength {payload : List Byte} (h : lengthOk .calWrite payload = false) :
    calWriteService l payload s = s.refused .length := by
  match payload, h with
  | [], _ => rfl
  | [_], _ => rfl
  | ob :: state :: rest, h =>
    unfold calWriteService
    dsimp only
    split
    · next h0 =>
      subst h0
      rw [if_neg]
      rintro rfl
      simp [lengthOk, calWriteLengthOk] at h
    · next h0 =>
      split
      · next h1 =>
        subst h1
        split
        · next first last ps =>
          split
          · next vs hvs =>
            have hlen := length_of_values16? hvs
            have hps : ¬ps.length = 2 * (last.toNat + 1 - first.toNat) := by simpa [lengthOk, calWriteLengthOk] using h
            rw [if_neg (by omega)]
          · rfl
        · rfl
      · next h1 =>
        match rest, h with
        | [], h => simp [lengthOk, calWriteLengthOk] at h; exact absurd h h1
        | [x], h => simp [lengthOk, calWriteLengthOk] at h; exact absurd h (by tauto)
        | first :: last :: ps, h => simp [lengthOk, calWriteLengthOk] at h; tauto

/-- A payload of a length that is not the one of the catalogue is refused with LENGTH. The services match on lists of up
to six bytes. -/
theorem service_of_badLength {r : Request} {payload : List Byte} (h : lengthOk r payload = false) :
    r.service l payload s = s.refused .length := by
  cases r
  case stageWrite => exact stageWriteService_of_badLength h
  case calWrite => exact calWriteService_of_badLength (l := l) h
  all_goals
    rcases payload with _ | ⟨a, _ | ⟨b, _ | ⟨c, _ | ⟨d, _ | ⟨e, _ | ⟨f, _ | ⟨g, rest⟩⟩⟩⟩⟩⟩⟩ <;>
      first | rfl | simp [lengthOk] at h

/-- What a request of the catalogue is answered with: LENGTH at a wrong payload length, then what its own rule says. -/
theorem answers_service (r : Request) (payload : List Byte) : Answers s (r.service l payload s)
    (if lengthOk r payload = false then .length else Given.statusOf s l r payload) := by
  split
  · next h => exact service_of_badLength h ▸ .refusal s .length
  next h =>
  have hgood : lengthOk r payload = true := by simpa using h
  have hlen := hgood
  cases r
  case stageWrite => exact answers_stageWrite l s hgood
  case calWrite => exact answers_calWrite l s hgood
  all_goals simp only [lengthOk, beq_iff_eq, List.length_eq_zero_iff, List.length_eq_one_iff, List.length_eq_two,
    List.length_eq_three, List.length_eq_four] at hlen
  case curveSet =>
    obtain ⟨a, b, c, d, e, f, rfl⟩ := exists_of_length_six hlen
    exact .ok rfl
  case keyOn => obtain ⟨a, b, c, rfl⟩ := hlen; exact answers_keyOn l s a b c
  case keyOff => obtain ⟨a, b, rfl⟩ := hlen; exact answers_keyOff l s a b
  case hold => obtain ⟨a, b, rfl⟩ := hlen; exact answers_hold l s a b
  case bend => obtain ⟨a, b, c, rfl⟩ := hlen; exact answers_bend l s a b c
  case allOff => obtain ⟨a, rfl⟩ := hlen; exact answers_allOff l s a
  case paramSet => obtain ⟨a, b, c, d, rfl⟩ := hlen; exact answers_paramSet l s a b c d
  case paramGet => obtain ⟨a, b, c, rfl⟩ := hlen; exact answers_paramGet l s a b c
  case stageClear => exact hlen ▸ answers_stageClear l s
  case apply => obtain ⟨a, b, c, d, rfl⟩ := hlen; exact answers_apply l s a b c d
  case morphCancel => obtain ⟨a, b, rfl⟩ := hlen; exact answers_morphCancel l s a b
  case mapKnob => obtain ⟨a, b, c, d, rfl⟩ := hlen; exact answers_mapKnob l s a b c d
  case mapSwitch => obtain ⟨a, b, c, d, rfl⟩ := hlen; exact answers_mapSwitch l s a b c d
  case panelRead => obtain ⟨a, b, c, rfl⟩ := hlen; exact answers_panelRead l s a b c
  case tuneStart => obtain ⟨a, b, c, rfl⟩ := hlen; exact answers_tuneStart l s a b c
  case tuneAbort => exact hlen ▸ answers_tuneAbort l s
  case calRead => obtain ⟨a, rfl⟩ := hlen; exact answers_calRead l s a
  case voiceEnable => obtain ⟨a, b, rfl⟩ := hlen; exact answers_voiceEnable l s a b
  case voiceDisable => obtain ⟨a, b, rfl⟩ := hlen; exact answers_voiceDisable l s a b
  case voiceRead => obtain ⟨a, b, rfl⟩ := hlen; exact answers_voiceRead l s a b
  case noticeRead => obtain ⟨a, rfl⟩ := hlen; exact .ok rfl
  case noticeAck => obtain ⟨a, rfl⟩ := hlen; exact answers_noticeAck l s a
  case noticeConfig => obtain ⟨a, b, rfl⟩ := hlen; exact answers_noticeConfig l s a b
  case status => exact hlen ▸ .ok rfl
  case resetVoices => exact hlen ▸ .ok rfl
  case resetPanel => exact hlen ▸ .ok rfl
  case resetDevice => exact hlen ▸ .ok rfl

/-- The status of a request does not depend on the bytes shifted out. -/
theorem statusOf_shiftOut (m : Link) (bs : List Byte) (r : Request) (payload : List Byte) :
    Given.statusOf (s.shiftOut m bs) l r payload = Given.statusOf s l r payload := by
  have hqueue : ((s.shiftOut m bs).link l).queue = (s.link l).queue := by
    by_cases h : l = m
    · rw [h, State.link_shiftOut_self]
    · rw [State.link_shiftOut_ne h]
  cases r <;> simp [Given.statusOf, hqueue]

end

/-! ### Refused requests -/

theorem framed_eq_setLink (l : Link) (payload : List Byte) (s : State) :
    s.framed l payload = s.setLink l { s.link l with shifted := fillers (2 + payload.length) } := rfl

/-- The state that a refused request of the catalogue leaves. -/
theorem exec_refused {s : State} {l : Link} (hready : s.ready l) {r : Request} {payload : List Byte} {st : Status}
    (h : r.service l payload (s.framed l payload) = (s.framed l payload).refused st) :
    exec (commandOf l payload r) s =
      .next (s.setLink l ((s.link l).took (2 + payload.length) (refusal r.code st))) := by
  have hrun : (s.framed l payload).inReset = false := by simp [State.inReset, hready.1]
  rw [exec_request hready, h]
  simp only [State.refused]
  rw [State.answer_of_running hrun]
  simp [framed_eq_setLink, LinkUnit.took, refusal, refuse, Answer.toReply, fillers]

/-- A refused frame leaves its refusal in process, and nothing else. -/
theorem refused_takes {s : State} {l : Link} {n : Nat} {rep : Reply} :
    SameButLinks s (s.setLink l ((s.link l).took n rep)) ∧ Took s (s.setLink l ((s.link l).took n rep)) l n rep :=
  ⟨sameButLinks_setLink l _ s, took_setLink l n rep s⟩

theorem requestStatus_framed (s : State) (l : Link) (r : Request) (payload : List Byte) :
    Answers (s.framed l payload) (r.service l payload (s.framed l payload))
      (if lengthOk r payload = false then .length else Given.statusOf s l r payload) := by
  have h := answers_service (s := s.framed l payload) (l := l) r payload
  rwa [statusOf_shiftOut] at h

/-- A frame whose check fails is refused with its own code as echo. -/
theorem exec_unknownRequest_refused {s : State} {l : Link} (hready : s.ready l) {code : Byte} (hcode : code ≠ 0x00#8)
    {rest : List Byte} {st : Status} (h : ∀ t, frameService l code rest t = t.refused st) :
    exec (.unknownRequest l (code :: rest)) s =
      .next (s.setLink l ((s.link l).took (1 + rest.length) (refusal code st))) := by
  obtain ⟨hreset, hfree⟩ := State.ready_iff.mp hready
  have hrun : (s.shiftOut l (fillers (1 + rest.length))).inReset = false := by simp [hreset]
  change Host.Outcome.next (s.frame l (code :: rest)) = _
  rw [State.frame, if_neg hcode, State.takeFrame_free hreset hfree, h]
  simp only [State.refused]
  rw [State.answer_of_running hrun]
  simp [State.shiftOut, LinkUnit.took, refusal, refuse, Answer.toReply, fillers]

theorem goodLength_iff {rest : List Byte} : goodLength rest = true ↔
    ¬(rest = [] ∨ 250 < (rest.headD 0).toNat ∨ rest.length ≠ 1 + (rest.headD 0).toNat) := by
  cases rest with
  | nil => simp [goodLength]
  | cons len payload =>
    simp only [goodLength, decide_eq_true_eq, List.headD_cons, List.length_cons, reduceCtorEq, false_or]
    omega

/-- Settles O12: the checks of a frame come first, then those of the payload's length and of the request's own rule. -/
theorem failedFrameChecksAreRefused : Obligations.FailedFrameChecksAreRefused := by
  refine ⟨?_, fun _ _ => rfl, ?_⟩
  · intro s l code rest hready hcode bad
    by_cases hbad : bad
    · have hwork (t : State) : frameService l code rest t = t.refused .length :=
        if_neg fun h => goodLength_iff.mp h hbad
      exact ⟨_, exec_unknownRequest_refused hready hcode hwork, fun _ => refused_takes, fun h => absurd hbad h⟩
    · have hgood : goodLength rest = true := goodLength_iff.mpr hbad
      cases hcatalogue : Request.ofCode code with
      | some r => exact ⟨_, rfl, fun h => absurd h hbad, nofun⟩
      | none =>
        have hwork (t : State) : frameService l code rest t = t.refused .unknown := by
          rw [frameService, if_pos hgood, hcatalogue]
        exact ⟨_, exec_unknownRequest_refused hready hcode hwork, fun h => absurd h hbad, fun _ _ => refused_takes⟩
  · intro s l r payload hready status
    have hanswer := requestStatus_framed s l r payload
    by_cases hst : status = .ok
    · refine ⟨_, exec_request hready r payload, fun h => absurd hst h, fun _ hr => ?_⟩
      have hrunning := (serves_service hr l payload (s.framed l payload)).running
      rw [State.answer_of_running (by simp [State.inReset, hrunning, hready.1])]
      simp [Answer.toReply, hanswer.status.trans hst]
    · exact ⟨_, exec_refused hready (hanswer.refused hst), fun _ => refused_takes, fun h => absurd h hst⟩

/-! ### Readings -/

/-- A request whose service leaves the state as it found it leaves its reply alone. -/
theorem exec_of_reading {s : State} {l : Link} (hready : s.ready l) {r : Request} {payload : List Byte}
    (h : (r.service l payload (s.framed l payload)).1 = s.framed l payload) :
    exec (commandOf l payload r) s = .next (s.setLink l ((s.link l).took (2 + payload.length)
      ((r.service l payload (s.framed l payload)).2.toReply r.code))) := by
  have hrun : (s.framed l payload).inReset = false := by simp [State.inReset, hready.1]
  rw [exec_request hready, h, State.answer_of_running hrun]
  simp [framed_eq_setLink, LinkUnit.took, fillers]

theorem reading_state {r : Request} (hr : r ∈ [Request.paramGet, .panelRead, .calRead, .voiceRead, .status]) (l : Link)
    (payload : List Byte) (s : State) : (r.service l payload s).1 = s := by
  simp only [List.mem_cons, List.not_mem_nil, or_false] at hr
  obtain rfl | rfl | rfl | rfl | rfl := hr
  · exact paramGetService_state l payload s
  · exact panelReadService_state l payload s
  · exact calReadService_state l payload s
  · exact voiceReadService_state l payload s
  · exact statusService_state l payload s

/-- A request that begins a reset leaves nothing in process. -/
theorem inProcess_of_resetDevice {s t : State} {l : Link} {payload : List Byte} (hready : s.ready l)
    (hlen : lengthOk .resetDevice payload = true) (hexec : exec (commandOf l payload .resetDevice) s = .next t) :
    (t.link l).inProcess = none := by
  have hnil : payload = [] := List.length_eq_zero_iff.mp (by simpa [lengthOk] using hlen)
  subst hnil
  rw [exec_request hready, State.answer_inReset rfl] at hexec
  cases hexec
  cases l <;> rfl

/-- Settles O13. -/
theorem refusalsAndReadingsChangeNothing : Obligations.RefusalsAndReadingsChangeNothing := by
  refine ⟨fun s t l r payload rep hready hexec hrep hst => ?_, fun s l r payload hready hr => ?_⟩
  · have hanswer := requestStatus_framed s l r payload
    by_cases hok : (if lengthOk r payload = false then Status.length else Given.statusOf s l r payload) = .ok
    · exfalso
      by_cases hr : r = .resetDevice
      · subst hr
        have hlen : lengthOk .resetDevice payload = true := by
          by_contra hbad
          simp [Bool.eq_false_iff.mpr hbad] at hok
        simp [inProcess_of_resetDevice hready hlen hexec] at hrep
      · rw [exec_request_of_running hready hr] at hexec
        cases hexec
        rw [State.link_setLink_self] at hrep
        cases hrep
        exact hst (hanswer.status.trans hok)
    · rw [exec_refused hready (hanswer.refused hok)] at hexec
      cases hexec
      rw [State.link_setLink_self] at hrep
      cases hrep
      exact refused_takes
  · exact ⟨_, _, exec_of_reading hready (reading_state hr l payload _), refused_takes.1, refused_takes.2, rfl⟩

end Sys2Proof.Machine
end

section
/-! PROOFS. What a request leaves that posts nothing, and the notes of a POLY part: filter, choice of a voice, retrigger,
theft, deferral (R7 to R16). -/

namespace Sys2Proof.Machine

/-! ### Records after the operations on notes -/

section
variable (s : State) (p q : PartId) (f : Counters → Counters) (v w : VoiceId)

@[simp] theorem State.voice_countWith : (s.countWith p f).voice w = s.voice w := rfl
@[simp] theorem State.glide_countWith : (s.countWith p f).glide w = s.glide w := rfl
@[simp] theorem State.serial_countWith : (s.countWith p f).serial = s.serial := rfl

theorem State.perfOf_countWith : (s.countWith p f).perfOf q =
    if q = p then { s.perfOf q with counters := f (s.perfOf q).counters } else s.perfOf q := by
  rw [State.countWith, State.perfOf_setPerf]
  split
  · next h => rw [h]
  · rfl

theorem State.voice_soundIdle (n : Note) : (s.soundIdle v p n).voice w =
    if w = v then { s.voice v with phase := .gated n false none, part := p, serial := s.serial + 1, clamped := false }
    else s.voice w := by
  change (s.gateOn v p n).voice w = _
  split
  · next h => rw [h, State.voice_gateOn_self]
  · next h => rw [State.voice_gateOn_ne h]

theorem State.glide_soundIdle (n : Note) : (s.soundIdle v p n).glide w =
    if w = v then { position := 256 * n.key.val, target := none } else s.glide w := by
  split
  · next h => rw [h, State.glide_soundIdle_self]
  · next h => exact State.glide_setGlide_ne h _ _

@[simp] theorem State.perfOf_soundIdle (n : Note) : (s.soundIdle v p n).perfOf q = s.perfOf q := rfl

end

/-! ### Requests that post nothing -/

/-- A request whose service leaves the links as it found them leaves its reply on its own link. -/
theorem exec_of_quiet {s : State} {l : Link} (hready : s.ready l) {r : Request} (hr : r ≠ .resetDevice)
    {payload : List Byte} {u : State} {a : Answer} (hwork : r.service l payload (s.framed l payload) = (u, a))
    (hlinks : ∀ m, u.link m = (s.framed l payload).link m) :
    ∃ t, exec (commandOf l payload r) s = .next t
      ∧ t = u.setLink l ((s.link l).took (2 + payload.length) (a.toReply r.code))
      ∧ Took s t l (2 + payload.length) (a.toReply r.code) := by
  refine ⟨_, exec_request_of_running hready hr payload, ?_, ?_⟩
  · rw [hwork]
    simp [hlinks, LinkUnit.took, fillers]
  · rw [hwork]
    constructor
    · simp [hlinks, LinkUnit.took, fillers]
    · rw [State.link_other_setLink, hlinks, State.link_shiftOut_ne (Link.other_ne l)]

/-! ### Operands of the note requests (R183) -/

theorem toNat_byte {n : Nat} (h : n < 256) : (byte n).toNat = n := by simp [byte, Nat.mod_eq_of_lt h]

theorem field?_byte {n : Nat} (hn : n ≤ 256) (i : Fin n) : field? n (byte i) = some i := by
  have hi : (byte i).toNat = i.val := toNat_byte (by omega)
  rw [field?_of_lt (by omega)]
  exact congrArg some (Fin.ext hi)

@[simp] theorem part?_byte (p : PartId) : part? (byte p) = some p := field?_byte (by decide) p

@[simp] theorem key?_byte (k : Key) : key? (byte k) = some k := field?_byte (by decide) k

theorem keyOnService_byte (l : Link) (p : PartId) (k : Key) {velocity : Nat} (hv : velocity < 256) (s : State) :
    keyOnService l [byte p, byte k, byte velocity] s =
      ((s.giveNote p k (min 127 velocity) (Source.ofLink l)).1,
        { status := .ok, clamped := decide (127 < velocity)
          nothing := (s.giveNote p k (min 127 velocity) (Source.ofLink l)).2 }) := by
  simp [keyOnService, toNat_byte hv]

theorem keyOffService_byte (l : Link) (p : PartId) (k : Key) (s : State) :
    keyOffService l [byte p, byte k] s = ((s.keyOff p k).1, { status := .ok, nothing := (s.keyOff p k).2 }) := by
  simp [keyOffService]

/-! ### The filter (R8) -/

theorem State.isPoly_iff {s : State} {p : PartId} : s.isPoly p = true ↔ s.param p pVoiceMode = 0 := by simp [State.isPoly]

theorem State.isPoly_of_ne {s : State} {p : PartId} (h : s.param p pVoiceMode ≠ 0) : s.isPoly p = false := by
  simp [State.isPoly, h]

theorem State.filteredOut_iff {s : State} {p : PartId} {k : Key} :
    s.filteredOut p k = true ↔ s.param p pPartEnable = 0 ∨ k.val < s.param p pKeyLow ∨ s.param p pKeyHigh < k.val
      ∨ s.param p pMaxVoices = 0 := by
  simp [State.filteredOut, or_assoc]

theorem State.filteredOut_eq_false {s : State} {p : PartId} {k : Key} (h : Given.passesFilter s p k) :
    s.filteredOut p k = false := by
  obtain ⟨henable, hlow, hhigh, hmax⟩ := h
  rw [Bool.eq_false_iff, Ne, State.filteredOut_iff]
  omega

theorem State.isWaiting_iff {s : State} {p : PartId} {k : Key} : s.isWaiting p k = true ↔ Given.waits s p k := by
  simp [State.isWaiting, Given.waits, allVoices]

theorem giveNote_of_filtered {s : State} {p : PartId} {k : Key}
    (h : s.filteredOut p k = true ∨ s.isPoly p = true ∧ s.isWaiting p k = true) (velocity : Nat) (src : Source) :
    s.giveNote p k velocity src = ((s.countIn p).countRefused p, true) := by
  have htest : ((s.countIn p).filteredOut p k || ((s.countIn p).isPoly p && (s.countIn p).isWaiting p k)) = true := by
    rw [Bool.or_eq_true, Bool.and_eq_true]
    exact h
  simp only [State.giveNote]
  rw [if_pos htest]

theorem giveNote_of_poly {s : State} {p : PartId} {k : Key} (hpass : Given.passesFilter s p k)
    (hpoly : s.param p pVoiceMode = 0) (hwaits : ¬Given.waits s p k) (velocity : Nat) (src : Source) :
    s.giveNote p k velocity src = ((s.countIn p).polyNote p k (max 1 velocity) src, false) := by
  have hfilter : (s.countIn p).filteredOut p k = false := State.filteredOut_eq_false hpass
  have hmode : (s.countIn p).isPoly p = true := State.isPoly_iff.mpr hpoly
  have hfree : (s.countIn p).isWaiting p k = false := Bool.eq_false_iff.mpr fun h => hwaits (State.isWaiting_iff.mp h)
  simp [State.giveNote, hfilter, hmode, hfree]

theorem giveNote_of_mono {s : State} {p : PartId} {k : Key} (hpass : Given.passesFilter s p k)
    (hmono : s.param p pVoiceMode ≠ 0) (velocity : Nat) (src : Source) :
    s.giveNote p k velocity src = ((s.countIn p).monoNote p k (max 1 velocity) src, false) := by
  have hfilter : (s.countIn p).filteredOut p k = false := State.filteredOut_eq_false hpass
  have hmode : (s.countIn p).isPoly p = false := State.isPoly_of_ne hmono
  simp [State.giveNote, hfilter, hmode]

/-- Settles O16: a filtered note is counted twice, and nothing else is done. -/
theorem keyOnFilteredIsCountedRefused : Obligations.KeyOnFilteredIsCountedRefused := by
  intro s l p k velocity hgiven hv
  obtain ⟨hready, hfiltered⟩ := hgiven
  have htest : (s.framed l [byte p, byte k, byte velocity]).filteredOut p k = true
      ∨ (s.framed l [byte p, byte k, byte velocity]).isPoly p = true
        ∧ (s.framed l [byte p, byte k, byte velocity]).isWaiting p k = true := by
    have hs : s.filteredOut p k = true ∨ s.isPoly p = true ∧ s.isWaiting p k = true := by
      rw [State.filteredOut_iff, State.isPoly_iff, State.isWaiting_iff]
      simpa only [or_assoc] using hfiltered
    cases l <;> exact hs
  have hwork : Request.keyOn.service l [byte p, byte k, byte velocity] (s.framed l [byte p, byte k, byte velocity]) = _ :=
    (keyOnService_byte l p k hv _).trans (by rw [giveNote_of_filtered htest])
  obtain ⟨t, hexec, ht, htook⟩ := exec_of_quiet hready (by decide) hwork fun m => rfl
  refine ⟨t, hexec, ?_, ?_, fun q hq => ?_, htook⟩
  · rw [ht]
    cases l <;> rfl
  · rw [ht]
    simp [State.countIn, State.countRefused, State.countWith, incSat16]
  · rw [ht]
    simp [State.countIn, State.countRefused, State.countWith, State.perfOf_setPerf, hq]

/-! ### Choosing among voices (R6, R13) -/

/-- The first voice of a list, replaced by each later one that a test puts before it. -/
def chooseBy (before : VoiceId → VoiceId → Bool) : List VoiceId → Option VoiceId
  | [] => none
  | v :: vs => some (vs.foldl (fun best w => if before w best then w else best) v)

theorem chooseOldest_eq (stamp : VoiceId → Stamp) (vs : List VoiceId) :
    chooseOldest stamp vs = chooseBy (fun w v => isOlder (stamp w) (stamp v)) vs := by cases vs <;> rfl

theorem chooseLowest_eq (measure : VoiceId → Nat) (vs : List VoiceId) :
    chooseLowest measure vs = chooseBy (fun w v => decide (measure w < measure v)) vs := by
  cases vs <;> simp [chooseLowest, chooseBy]

theorem chooseHighest_eq (measure : VoiceId → Nat) (vs : List VoiceId) :
    chooseHighest measure vs = chooseBy (fun w v => decide (measure v < measure w)) vs := by
  cases vs <;> simp [chooseHighest, chooseBy]

theorem foldl_choose_mem (before : VoiceId → VoiceId → Bool) (vs : List VoiceId) (v : VoiceId) :
    vs.foldl (fun best w => if before w best then w else best) v ∈ v :: vs := by
  induction vs generalizing v with
  | nil => simp
  | cons w vs ih =>
    rw [List.foldl_cons]
    split
    · exact List.mem_cons_of_mem _ (ih w)
    · rcases List.mem_cons.mp (ih v) with h | h
      · simp [h]
      · exact List.mem_cons_of_mem _ (List.mem_cons_of_mem _ h)

theorem foldl_choose_of_none {before : VoiceId → VoiceId → Bool} {vs : List VoiceId} {v : VoiceId}
    (h : ∀ w ∈ vs, before w v = false) : vs.foldl (fun best w => if before w best then w else best) v = v := by
  induction vs with
  | nil => rfl
  | cons w vs ih =>
    rw [List.foldl_cons, if_neg (by simp [h w List.mem_cons_self])]
    exact ih fun x hx => h x (List.mem_cons_of_mem _ hx)

/-- From an ascending list the choice is the voice that goes before every lower one, and that no higher one goes
before. -/
theorem chooseBy_eq {before : VoiceId → VoiceId → Bool} {vs : List VoiceId} (hsorted : vs.Pairwise (· < ·)) {v : VoiceId}
    (hv : v ∈ vs) (hlower : ∀ w ∈ vs, w < v → before v w = true) (hhigher : ∀ w ∈ vs, v < w → before w v = false) :
    chooseBy before vs = some v := by
  obtain ⟨pre, post, rfl⟩ := List.append_of_mem hv
  obtain ⟨-, hpost, hpre⟩ := List.pairwise_append.mp hsorted
  have hend := foldl_choose_of_none (before := before) (vs := post) (v := v) fun w hw =>
    hhigher w (by simp [hw]) (List.rel_of_pairwise_cons hpost hw)
  cases pre with
  | nil => exact congrArg some hend
  | cons u pre =>
    have hbest := foldl_choose_mem before pre u
    have hbefore : before v (pre.foldl (fun best w => if before w best then w else best) u) = true :=
      hlower _ (List.mem_append_left _ hbest) (hpre _ hbest v List.mem_cons_self)
    simp [chooseBy, hbefore, hend]

theorem chooseBy_eq_none {before : VoiceId → VoiceId → Bool} {vs : List VoiceId} : chooseBy before vs = none ↔ vs = [] := by
  cases vs <;> simp [chooseBy]

theorem pairwise_allVoices : allVoices.Pairwise (· < ·) := List.pairwise_lt_finRange 16

theorem mem_allVoices (v : VoiceId) : v ∈ allVoices := List.mem_finRange v

theorem State.pickVictim_eq {s : State} {p : PartId} {vs : List VoiceId} (hsorted : vs.Pairwise (· < ·)) {v : VoiceId}
    (hv : v ∈ vs) (h : ∀ w ∈ vs, Given.prefers s p v w) : s.pickVictim p vs = some v := by
  unfold Given.prefers at h
  unfold State.pickVictim
  split <;> simp only [chooseOldest_eq, chooseLowest_eq, chooseHighest_eq] <;>
    refine chooseBy_eq hsorted hv (fun w hw hlt => ?_) fun w hw hlt => ?_ <;>
    have hw' := h w hw
  · simpa [*, hlt] using hw'
  · simpa [*, not_lt_of_gt hlt] using hw'
  all_goals
    simp only [*] at hw'
    simp only [decide_eq_true_eq, decide_eq_false_iff_not, Fin.lt_def, Fin.le_def] at hlt hw' ⊢
    omega

/-! ### What the steps find (R10 to R13) -/

theorem State.atBudget_iff {s : State} {p : PartId} : s.atBudget p = true ↔ s.param p pMaxVoices ≤ s.load p := by
  simp [State.atBudget]

theorem State.mem_candidates {s : State} {p : PartId} {taken : List VoiceId} {v : VoiceId} :
    v ∈ s.candidates p taken ↔ s.inMask p v = true ∧ ((s.voice v).phase.isTuning = false
      ∧ (s.voice v).phase.isOffline = false ∧ (s.voice v).phase.isDamping = false) ∧ v ∉ taken := by
  simp [State.candidates, mem_allVoices, and_assoc]

theorem State.pairwise_candidates (s : State) (p : PartId) (taken : List VoiceId) :
    (s.candidates p taken).Pairwise (· < ·) := pairwise_allVoices.filter _

theorem VoicePhase.candidate_of_idle : VoicePhase.idle.isTuning = false ∧ VoicePhase.idle.isOffline = false
    ∧ VoicePhase.idle.isDamping = false := ⟨rfl, rfl, rfl⟩

theorem VoicePhase.candidate_of_released {ph : VoicePhase} (h : ph.isReleased = true) :
    ph.isTuning = false ∧ ph.isOffline = false ∧ ph.isDamping = false := by
  cases ph <;> first | exact ⟨rfl, rfl, rfl⟩ | cases h

theorem VoicePhase.candidate_of_gated {ph : VoicePhase} (h : ph.isGated = true) :
    ph.isTuning = false ∧ ph.isOffline = false ∧ ph.isDamping = false := by
  cases ph <;> first | exact ⟨rfl, rfl, rfl⟩ | cases h

/-- The voices of `taken` are neither IDLE nor RELEASED: each was picked, and sounds or damps. -/
def State.Picked (s : State) (taken : List VoiceId) : Prop :=
  ∀ v ∈ taken, (s.voice v).phase ≠ .idle ∧ (s.voice v).phase.isReleased = false

/-- The IDLE candidates of a part. -/
theorem State.mem_idleCandidates {s : State} {p : PartId} {taken : List VoiceId} (htaken : s.Picked taken) {v : VoiceId} :
    v ∈ (s.candidates p taken).filter (fun v => decide ((s.voice v).phase = .idle)) ↔
      s.inMask p v = true ∧ (s.voice v).phase = .idle := by
  rw [List.mem_filter, decide_eq_true_iff, State.mem_candidates]
  constructor
  · exact fun ⟨⟨hmask, _⟩, hidle⟩ => ⟨hmask, hidle⟩
  · exact fun ⟨hmask, hidle⟩ =>
      ⟨⟨hmask, hidle ▸ VoicePhase.candidate_of_idle, fun h => (htaken v h).1 hidle⟩, hidle⟩

theorem State.mem_releasedCandidates {s : State} {p : PartId} {taken : List VoiceId} (htaken : s.Picked taken)
    {v : VoiceId} : v ∈ (s.candidates p taken).filter (fun v => (s.voice v).phase.isReleased) ↔
      s.inMask p v = true ∧ (s.voice v).phase.isReleased = true := by
  rw [List.mem_filter, State.mem_candidates]
  constructor
  · exact fun ⟨⟨hmask, _⟩, hreleased⟩ => ⟨hmask, hreleased⟩
  · exact fun ⟨hmask, hreleased⟩ => ⟨⟨hmask, VoicePhase.candidate_of_released hreleased, fun h => by
      simp [(htaken v h).2] at hreleased⟩, hreleased⟩

theorem State.pickVoice_of_idle {s : State} {p : PartId} {taken : List VoiceId} (htaken : s.Picked taken) {v : VoiceId}
    (hload : s.load p < s.param p pMaxVoices) (h : Given.oldestIdle s p v) (own : Bool) :
    s.pickVoice p taken own = .idle v := by
  obtain ⟨hmask, hidle, hold⟩ := h
  have hmem (w : VoiceId) := State.mem_idleCandidates (p := p) htaken (v := w)
  have hchoice := chooseBy_eq (before := fun w v => isOlder (s.voice w).releaseStamp (s.voice v).releaseStamp)
    ((s.pairwise_candidates p taken).filter _) ((hmem v).mpr ⟨hmask, hidle⟩)
    (fun w hw hlt => (hold w ((hmem w).mp hw).1 ((hmem w).mp hw).2).1 hlt)
    (fun w hw hlt => (hold w ((hmem w).mp hw).1 ((hmem w).mp hw).2).2 hlt)
  rw [State.pickVoice, if_neg (by rw [State.atBudget_iff]; omega), chooseOldest_eq, hchoice]

theorem State.pickVoice_of_released {s : State} {p : PartId} {taken : List VoiceId} (htaken : s.Picked taken)
    {v : VoiceId} (h : Given.takesReleased s p v) (own : Bool) : s.pickVoice p taken own = .steal v := by
  obtain ⟨⟨hreleased, hmask, hold⟩, hload, hidle⟩ := h
  have hmem (w : VoiceId) := State.mem_releasedCandidates (p := p) htaken (v := w)
  have hnone : (s.candidates p taken).filter (fun v => decide ((s.voice v).phase = .idle)) = [] :=
    List.eq_nil_iff_forall_not_mem.mpr fun w hw =>
      hidle w ((State.mem_idleCandidates htaken).mp hw).1 ((State.mem_idleCandidates htaken).mp hw).2
  have hchoice := chooseBy_eq (before := fun w v => isOlder (s.voice w).releaseStart (s.voice v).releaseStart)
    ((s.pairwise_candidates p taken).filter _) ((hmem v).mpr ⟨hmask, hreleased⟩)
    (fun w hw hlt => (hold w ((hmem w).mp hw).1 ((hmem w).mp hw).2).1 hlt)
    (fun w hw hlt => (hold w ((hmem w).mp hw).1 ((hmem w).mp hw).2).2 hlt)
  rw [State.pickVoice, if_neg (by rw [State.atBudget_iff]; omega), hnone, chooseOldest_eq _ (List.filter _ _), hchoice]
  rfl

/-- A victim for a note of part p after the voices of `taken`: none of p's own below the budget unless `own` holds. -/
def State.victimFor (s : State) (p : PartId) (taken : List VoiceId) (own : Bool) (v : VoiceId) : Prop :=
  Given.isVictim s p v ∧ v ∉ taken ∧ (own = false → s.load p < s.param p pMaxVoices → (s.voice v).part ≠ p)

/-- Without a free voice the choice is made among the victims. -/
theorem State.pickVoice_of_noFree {s : State} {p : PartId} {taken : List VoiceId} (hfree : Given.noFreeVoice s p)
    (own : Bool) : ∃ vs : List VoiceId, vs.Pairwise (· < ·) ∧ (∀ v, v ∈ vs ↔ s.victimFor p taken own v)
      ∧ s.pickVoice p taken own = .ofVictim (s.pickVictim p vs) := by
  by_cases hload : s.load p < s.param p pMaxVoices
  · have hnone := hfree hload
    have hidle : (s.candidates p taken).filter (fun v => decide ((s.voice v).phase = .idle)) = [] :=
      List.filter_eq_nil_iff.mpr fun w hw => by simpa using (hnone w (State.mem_candidates.mp hw).1).1
    have hreleased : (s.candidates p taken).filter (fun v => (s.voice v).phase.isReleased) = [] :=
      List.filter_eq_nil_iff.mpr fun w hw => by simpa using (hnone w (State.mem_candidates.mp hw).1).2
    refine ⟨(s.candidates p taken).filter (s.isVictim p own), (s.pairwise_candidates p taken).filter _, fun v => ?_, ?_⟩
    · rw [List.mem_filter, State.mem_candidates, State.isVictim]
      by_cases hpart : (s.voice v).part = p
      · simp only [State.victimFor, Given.isVictim, hpart, if_pos, Bool.and_eq_true, ne_eq, not_true_eq_false]
        constructor
        · rintro ⟨⟨hmask, -, htaken⟩, hgated, hown⟩
          exact ⟨⟨hmask, hgated, .inl trivial⟩, htaken, fun h => by simp [hown] at h⟩
        · rintro ⟨⟨hmask, hgated, -⟩, htaken, hown⟩
          exact ⟨⟨hmask, VoicePhase.candidate_of_gated hgated, htaken⟩, hgated, by
            by_contra h
            exact hown (by simpa using h) hload⟩
      · simp only [State.victimFor, Given.isVictim, hpart, if_neg, Bool.and_eq_true, decide_eq_true_eq, ne_eq,
      not_false_eq_true, implies_true, and_true, false_or]
        constructor
        · exact fun ⟨⟨hmask, _, htaken⟩, hgated, hreserve⟩ => ⟨⟨hmask, hgated, hload, hreserve⟩, htaken⟩
        · exact fun ⟨⟨hmask, hgated, _, hreserve⟩, htaken⟩ =>
            ⟨⟨hmask, VoicePhase.candidate_of_gated hgated, htaken⟩, hgated, hreserve⟩
    · rw [State.pickVoice, if_neg (by rw [State.atBudget_iff]; omega), hidle, hreleased]
      rfl
  · refine ⟨(s.candidates p taken).filter (fun v => (s.voice v).gatedFor p), (s.pairwise_candidates p taken).filter _,
      fun v => ?_, ?_⟩
    · rw [List.mem_filter, State.mem_candidates, Voice.gatedFor, Bool.and_eq_true, beq_iff_eq]
      simp only [State.victimFor, Given.isVictim, hload, false_and, or_false, false_implies, implies_true, and_true]
      constructor
      · exact fun ⟨⟨hmask, _, htaken⟩, hgated, hpart⟩ => ⟨⟨hmask, hgated, hpart⟩, htaken⟩
      · exact fun ⟨⟨hmask, hgated, hpart⟩, htaken⟩ =>
          ⟨⟨hmask, VoicePhase.candidate_of_gated hgated, htaken⟩, hgated, hpart⟩
    · rw [State.pickVoice, if_pos (State.atBudget_iff.mpr (by omega))]

theorem State.pickVoice_of_victim {s : State} {p : PartId} {taken : List VoiceId} {own : Bool}
    (hfree : Given.noFreeVoice s p) {v : VoiceId} (hv : s.victimFor p taken own v)
    (h : ∀ w, s.victimFor p taken own w → Given.prefers s p v w) : s.pickVoice p taken own = .steal v := by
  obtain ⟨vs, hsorted, hmem, hpick⟩ := State.pickVoice_of_noFree (taken := taken) hfree own
  rw [hpick, State.pickVictim_eq hsorted ((hmem v).mpr hv) fun w hw => h w ((hmem w).mp hw)]
  rfl

theorem State.pickVictim_nil (s : State) (p : PartId) : s.pickVictim p [] = none := by
  unfold State.pickVictim
  split <;> rfl

theorem State.pickVoice_of_none {s : State} {p : PartId} {taken : List VoiceId} {own : Bool}
    (hfree : Given.noFreeVoice s p) (h : ∀ v, ¬s.victimFor p taken own v) : s.pickVoice p taken own = .nothing := by
  obtain ⟨vs, hsorted, hmem, hpick⟩ := State.pickVoice_of_noFree (taken := taken) hfree own
  have hnil : vs = [] := List.eq_nil_iff_forall_not_mem.mpr fun v hv => h v ((hmem v).mp hv)
  rw [hpick, hnil, State.pickVictim_nil]
  rfl

/-! ### A note of a POLY part (R9 to R14) -/

theorem State.sameKey_eq_none {s : State} {p : PartId} {k : Key}
    (h : ∀ v, ¬((s.voice v).gatedFor p = true ∧ (s.voice v).key = k.val)) : s.sameKey p k = none := by
  rw [State.sameKey, List.find?_eq_none]
  intro v _
  simpa using h v

theorem State.sameKey_eq_some {s : State} {p : PartId} {k : Key} {v : VoiceId}
    (hv : (s.voice v).gatedFor p = true ∧ (s.voice v).key = k.val)
    (h : ∀ w, w ≠ v → ¬((s.voice w).gatedFor p = true ∧ (s.voice w).key = k.val)) : s.sameKey p k = some v := by
  cases hfind : s.sameKey p k with
  | none =>
    rw [State.sameKey, List.find?_eq_none] at hfind
    exact absurd (by simpa using hv) (hfind v (mem_allVoices v))
  | some w =>
    have hw : (s.voice w).gatedFor p = true ∧ (s.voice w).key = k.val := by simpa using List.find?_some hfind
    by_contra hne
    exact h w (fun heq => hne (congrArg some heq)) hw

theorem State.polyNote_of_fresh {s : State} {p : PartId} {k : Key}
    (h : ∀ v, ¬((s.voice v).gatedFor p = true ∧ (s.voice v).key = k.val)) (velocity : Nat) (src : Source) :
    s.polyNote p k velocity src = s.allocate p k velocity src := by
  rw [State.polyNote, State.sameKey_eq_none h]

theorem State.picked_nil (s : State) : s.Picked [] := fun _ h => by cases h

theorem State.allocate_of_idle {s : State} {p : PartId} {k : Key} {v : VoiceId}
    (hload : s.load p < s.param p pMaxVoices) (h : Given.oldestIdle s p v) (velocity : Nat) (src : Source) :
    s.allocate p k velocity src = (s.soundIdle v p { key := k, velocity }).countSounded p := by
  rw [State.allocate, State.pickVoice_of_idle s.picked_nil hload h]

theorem State.victimFor_nil {s : State} {p : PartId} {v : VoiceId} :
    s.victimFor p [] true v ↔ Given.isVictim s p v := by simp [State.victimFor]

theorem State.allocate_of_released {s : State} {p : PartId} {k : Key} {v : VoiceId} (h : Given.takesReleased s p v)
    (velocity : Nat) (src : Source) : s.allocate p k velocity src =
      s.damp v (some { part := p, key := k, velocity, source := src, kind := .note }) := by
  rw [State.allocate, State.pickVoice_of_released s.picked_nil h]

theorem State.allocate_of_victim {s : State} {p : PartId} {k : Key} {v : VoiceId} (hfree : Given.noFreeVoice s p)
    (hv : Given.isVictim s p v) (h : ∀ w, Given.isVictim s p w → Given.prefers s p v w) (velocity : Nat) (src : Source) :
    s.allocate p k velocity src = s.damp v (some { part := p, key := k, velocity, source := src, kind := .note }) := by
  rw [State.allocate, State.pickVoice_of_victim hfree (State.victimFor_nil.mpr hv)
    fun w hw => h w (State.victimFor_nil.mp hw)]

theorem State.allocate_of_none {s : State} {p : PartId} {k : Key} (hfree : Given.noFreeVoice s p)
    (h : ∀ v, ¬Given.isVictim s p v) (velocity : Nat) (src : Source) :
    s.allocate p k velocity src = s.deferOrDrop p k velocity := by
  rw [State.allocate, State.pickVoice_of_none hfree fun v hv => h v (State.victimFor_nil.mp hv)]

/-- What KEY_ON of a POLY part does once its note has passed the filter. -/
theorem keyOnService_of_poly {s : State} {l : Link} {p : PartId} {k : Key} (hpass : Given.passesFilter s p k)
    (hpoly : s.param p pVoiceMode = 0) (hwaits : ¬Given.waits s p k) {velocity : Nat} (hv : velocity < 256) :
    keyOnService l [byte p, byte k, byte velocity] s =
      ((s.countIn p).polyNote p k (max 1 (min 127 velocity)) (Source.ofLink l),
        { status := .ok, clamped := decide (127 < velocity) }) := by
  rw [keyOnService_byte l p k hv, giveNote_of_poly hpass hpoly hwaits]

/-- A state that differs in its links alone meets what the notes ask for. -/
theorem polyNote_framed {s : State} {l : Link} {p : PartId} {k : Key} (h : Given.polyNote s l p k) (m : Link)
    (payload : List Byte) : Given.passesFilter (s.framed m payload) p k ∧ (s.framed m payload).param p pVoiceMode = 0
      ∧ ¬Given.waits (s.framed m payload) p k := by
  cases m <;> exact h.2

theorem exec_keyOn_of_poly {s : State} {l : Link} {p : PartId} {k : Key} (h : Given.polyNote s l p k) {velocity : Nat}
    (hv : velocity < 256) {u : State}
    (hnote : ((s.framed l [byte p, byte k, byte velocity]).countIn p).polyNote p k (max 1 (min 127 velocity))
      (Source.ofLink l) = u)
    (hlinks : ∀ m, u.link m = (s.framed l [byte p, byte k, byte velocity]).link m) :
    ∃ t, exec (.keyOn l [byte p, byte k, byte velocity]) s = .next t
      ∧ t = u.setLink l ((s.link l).took 5 (okReply 0x01 (decide (127 < velocity)) false []))
      ∧ Took s t l 5 (okReply 0x01 (decide (127 < velocity)) false []) := by
  obtain ⟨hpass, hpoly, hwaits⟩ := polyNote_framed h l [byte p, byte k, byte velocity]
  have hwork : Request.keyOn.service l [byte p, byte k, byte velocity] (s.framed l [byte p, byte k, byte velocity]) =
      (u, { status := .ok, clamped := decide (127 < velocity) }) :=
    (keyOnService_of_poly hpass hpoly hwaits hv).trans (by rw [hnote])
  exact exec_of_quiet h.1 (by decide) hwork hlinks

theorem State.voice_reuse {s : State} {v : VoiceId} {n : Note} {sus : Bool} {pulse : Option Nat}
    (h : (s.voice v).phase = .gated n sus pulse) (velocity : Nat) (w : VoiceId) : (s.reuse v velocity).voice w =
      if w = v then { s.voice v with
        phase := .gated { n with velocity } false (some 1000), serial := s.serial + 1, clamped := false }
      else s.voice w := by
  rw [State.reuse, h]
  exact State.voice_setVoice v w _ _

@[simp] theorem State.glide_reuse (s : State) (v w : VoiceId) (velocity : Nat) :
    (s.reuse v velocity).glide w = s.glide w := by
  unfold State.reuse
  split <;> rfl

@[simp] theorem State.perfOf_reuse (s : State) (v : VoiceId) (velocity : Nat) (q : PartId) :
    (s.reuse v velocity).perfOf q = s.perfOf q := by
  unfold State.reuse
  split <;> rfl

@[simp] theorem State.link_reuse (s : State) (v : VoiceId) (velocity : Nat) (m : Link) :
    (s.reuse v velocity).link m = s.link m := by
  unfold State.reuse
  split <;> rfl

theorem State.reuse_frame {s : State} {v : VoiceId} {n : Note} {sus : Bool} {pulse : Option Nat}
    (h : (s.voice v).phase = .gated n sus pulse) (velocity : Nat) :
    s.reuse v velocity = { s with voices := (s.reuse v velocity).voices, serial := s.serial + 1 } := by
  rw [State.reuse, h]
  rfl

theorem State.passZeroWindows_of_settled {s : State} (h : s.Settled) : s.passZeroWindows = s :=
  State.passZeroWindows_of_none fun v n start hphase => by
    have := h v
    simp [hphase, VoicePhase.zeroWindow] at this

theorem State.release_of_gated {s : State} {v : VoiceId} {n : Note} {sus : Bool} {pulse : Option Nat}
    (h : (s.voice v).phase = .gated n sus pulse) :
    s.release v = s.setPhase v (.released n s.timestamp (s.param (s.voice v).part pReleaseWindow)) := by
  rw [State.release, h]

/-- A release with a window above 0 opens no window of 0. -/
theorem settled_release {s : State} (hs : s.Settled) {v : VoiceId}
    (h : s.param (s.voice v).part pReleaseWindow ≠ 0) : (s.release v).Settled := by
  unfold State.release
  split
  · exact (noNewWindow_setPhase v (by simpa [VoicePhase.zeroWindow] using h)).settled hs
  · exact hs

theorem sounds_of_gated {x : Voice} {n : Note} {sus : Bool} {pulse : Option Nat} (h : x.phase = .gated n sus pulse) :
    x.gatedFor x.part = true ∧ x.key = n.key.val := by
  simp [Voice.gatedFor, Voice.key, h, VoicePhase.isGated, VoicePhase.note?]

theorem State.polyNote_of_reuse {s : State} {p : PartId} {k : Key} {v : VoiceId} {n : Note} {sus : Bool}
    {pulse : Option Nat} (hphase : (s.voice v).phase = .gated n sus pulse) (hpart : (s.voice v).part = p)
    (hkey : n.key = k) (hothers : ∀ w, w ≠ v → ¬((s.voice w).gatedFor p = true ∧ (s.voice w).key = k.val))
    (hretrigger : s.param p pRetrigger = 0) (velocity : Nat) (src : Source) : s.polyNote p k velocity src =
      (s.reuse v velocity).countSounded p := by
  rw [State.polyNote, State.sameKey_eq_some (hpart ▸ hkey ▸ sounds_of_gated hphase) hothers]
  dsimp only
  rw [if_pos hretrigger]

/-- Under NEW the voice that sounds the key is released, and the note goes on. -/
theorem State.polyNote_of_new {s : State} {p : PartId} {k : Key} {v : VoiceId} {n : Note} {sus : Bool}
    {pulse : Option Nat} (hphase : (s.voice v).phase = .gated n sus pulse) (hpart : (s.voice v).part = p)
    (hkey : n.key = k) (hothers : ∀ w, w ≠ v → ¬((s.voice w).gatedFor p = true ∧ (s.voice w).key = k.val))
    (hretrigger : s.param p pRetrigger ≠ 0) (hs : s.Settled) (hwindow : s.param p pReleaseWindow ≠ 0) (velocity : Nat)
    (src : Source) : s.polyNote p k velocity src =
      (s.setPhase v (.released n s.timestamp (s.param p pReleaseWindow))).allocate p k velocity src := by
  rw [State.polyNote, State.sameKey_eq_some (hpart ▸ hkey ▸ sounds_of_gated hphase) hothers]
  dsimp only
  rw [if_neg hretrigger, State.passZeroWindows_of_settled (settled_release hs (by rwa [hpart])),
    State.release_of_gated hphase, hpart]

/-- Settles O15. -/
theorem keyOnTakesIdleOrSoundingVoice : Obligations.KeyOnTakesIdleOrSoundingVoice := by
  intro s l p k v velocity hv given command takes
  refine ⟨fun ⟨⟨hpoly, hfresh⟩, hload, hidle⟩ => ?_, fun n sustained pulse hsame => ⟨fun hretrigger => ?_, ?_⟩⟩
  · have hnote : ((s.framed l [byte p, byte k, byte velocity]).countIn p).polyNote p k given (Source.ofLink l) = _ :=
      (State.polyNote_of_fresh (by cases l <;> exact hfresh) _ _).trans
        (State.allocate_of_idle (v := v) (by cases l <;> exact hload) (by cases l <;> exact hidle) _ _)
    obtain ⟨t, hexec, ht, htook⟩ := exec_keyOn_of_poly hpoly hv hnote fun m => rfl
    refine ⟨t, hexec, ?_, ?_, fun w hw => ?_, ?_, fun w hw => ?_, ?_, fun q hq => ?_, htook⟩ <;> rw [ht]
    · cases l <;> rfl
    · simp [State.countSounded, State.countIn, State.voice_soundIdle]
    · simp [State.countSounded, State.countIn, State.voice_soundIdle, hw]
    · simp [State.countSounded, State.countIn]
    · simp [State.countSounded, State.countIn, State.glide_soundIdle, hw]
    · simp [State.countSounded, State.countIn, State.perfOf_countWith, incSat16]
    · simp [State.countSounded, State.countIn, State.perfOf_countWith, hq]
  · obtain ⟨hphase, hpart, hkey, hpoly, hothers⟩ := hsame
    have hnote : ((s.framed l [byte p, byte k, byte velocity]).countIn p).polyNote p k given (Source.ofLink l) = _ :=
      State.polyNote_of_reuse (n := n) (v := v) (by cases l <;> exact hphase) (by cases l <;> exact hpart) hkey
        (by cases l <;> exact hothers) (by cases l <;> exact hretrigger) _ _
    have hgated : (((s.framed l [byte p, byte k, byte velocity]).countIn p).voice v).phase = .gated n sustained pulse := by
      cases l <;> exact hphase
    obtain ⟨t, hexec, ht, htook⟩ := exec_keyOn_of_poly hpoly hv hnote fun m => State.link_reuse _ v given m
    refine ⟨t, hexec, ?_, ?_, fun w hw => ?_, ?_, fun w hw => ?_, ?_, fun q hq => ?_, htook⟩ <;> rw [ht]
    · rw [State.reuse_frame hgated]
      cases l <;> rfl
    · simp only [State.setLink_voice, State.countSounded, State.voice_countWith, State.voice_reuse hgated, if_true]
      simp [State.countIn]
    · simp only [State.setLink_voice, State.countSounded, State.voice_countWith, State.voice_reuse hgated, if_neg hw]
      simp [State.countIn]
    · simp [State.countSounded, State.countIn]
    · simp [State.countSounded, State.countIn]
    · simp [State.countSounded, State.countIn, State.perfOf_countWith, incSat16]
    · simp [State.countSounded, State.countIn, State.perfOf_countWith, hq]
  · intro hretrigger hsettled hwindow released
    obtain ⟨hphase, hpart, hkey, hpoly, hothers⟩ := hsame
    obtain ⟨hready, hpass, hmode, hwaits⟩ := hpoly
    have hnew : Given.polyNote { s with voices := s.voices.set v released } l p k := by
      refine ⟨hready, hpass, hmode, fun h => hwaits ?_⟩
      rcases h with hdeferred | ⟨w, hw⟩
      · exact .inl hdeferred
      · have hvoice : State.voice { s with voices := s.voices.set v released } w = if w = v then released else s.voice w :=
          State.voice_setVoice v w released s
        rw [hvoice] at hw
        split at hw
        · cases hw
        · exact .inr ⟨w, hw⟩
    have hfresh (w : VoiceId) : ¬((State.voice { s with voices := s.voices.set v released } w).gatedFor p = true
        ∧ (State.voice { s with voices := s.voices.set v released } w).key = k.val) := by
      rw [show State.voice { s with voices := s.voices.set v released } w = _ from State.voice_setVoice v w released s]
      split
      · simp [released, Voice.gatedFor, VoicePhase.isGated]
      · next hw => exact hothers w hw
    obtain ⟨hpass₁, hmode₁, hwaits₁⟩ := polyNote_framed ⟨hready, hpass, hmode, hwaits⟩ l [byte p, byte k, byte velocity]
    obtain ⟨hpass₂, hmode₂, hwaits₂⟩ := polyNote_framed hnew l [byte p, byte k, byte velocity]
    refine ⟨_, exec_request_of_running (r := .keyOn) hready (by decide) _, ?_⟩
    refine (exec_request_of_running (r := .keyOn) hnew.1 (by decide) _).trans ?_
    simp only [Request.service]
    rw [keyOnService_of_poly hpass₁ hmode₁ hwaits₁ hv, keyOnService_of_poly hpass₂ hmode₂ hwaits₂ hv,
      State.polyNote_of_fresh (by cases l <;> exact hfresh),
      State.polyNote_of_new (n := n) (v := v) (by cases l <;> exact hphase) (by cases l <;> exact hpart) hkey
        (by cases l <;> exact hothers) (by cases l <;> exact hretrigger) (by cases l <;> exact hsettled)
        (by cases l <;> exact hwindow)]
    cases l <;> rfl

end Sys2Proof.Machine
end

section
/-! PROOFS. Requests that post, folds that touch one record at a time, and the requests KEY_OFF, HOLD, BEND, CURVE_SET and
NOTICE_CONFIG (R24, R44, R45, R47, R75, R193). -/

namespace Sys2Proof.Machine

/-! ### Folds that touch one record at a time -/

/-- A fold over different places, each of whose steps writes `f` of the record at its own place: the frame `P` stays,
and every place of the list is written once. -/
theorem foldl_touches {σ α β : Type} [DecidableEq α] {get : σ → α → β} {step : σ → α → σ} {f : α → β → β}
    (P : σ → Prop) (hP : ∀ s a, P s → P (step s a)) (hself : ∀ s a, P s → get (step s a) a = f a (get s a))
    (hother : ∀ s a b, P s → b ≠ a → get (step s a) b = get s b) {as : List α} (hnodup : as.Nodup) {s : σ} (hs : P s) :
    P (as.foldl step s) ∧ ∀ b, get (as.foldl step s) b = if b ∈ as then f b (get s b) else get s b := by
  induction as generalizing s with
  | nil => exact ⟨hs, fun b => by simp⟩
  | cons a as ih =>
    obtain ⟨ha, has⟩ := List.nodup_cons.mp hnodup
    obtain ⟨hfold, hget⟩ := ih has (hP s a hs)
    refine ⟨hfold, fun b => (hget b).trans ?_⟩
    by_cases hb : b = a
    · subst hb
      simp [ha, hself s b hs]
    · simp [hb, hother s a b hs hb]

theorem nodup_allVoices : allVoices.Nodup := List.nodup_finRange 16

theorem nodup_allParts : allParts.Nodup := List.nodup_finRange 4

theorem mem_allParts (p : PartId) : p ∈ allParts := List.mem_finRange p

theorem nodup_partsOf (mask : BitVec 4) : (partsOf mask).Nodup := nodup_allParts.filter _

theorem mem_partsOf {mask : BitVec 4} {p : PartId} : p ∈ partsOf mask ↔ mask.getLsbD p.val = true := by
  simp [partsOf, mem_allParts]

theorem partsOf_twoPow (p : PartId) : partsOf (BitVec.ofNat 4 (2 ^ p.val)) = [p] := by
  revert p
  decide

/-! ### Operands -/

theorem partMask?_byte {mask : BitVec 4} (h : mask ≠ 0) : partMask? (byte mask.toNat) = some mask := by
  revert mask
  decide

theorem partMask?_twoPow (p : PartId) : partMask? (byte (2 ^ p.val)) = some (BitVec.ofNat 4 (2 ^ p.val)) := by
  revert p
  decide

theorem u16_field16 {x : Nat} (h : x < 65536) : u16 (byte (x % 256)) (byte (x / 256 % 256)) = x := by
  simp only [u16, byte, BitVec.toNat_ofNat]
  omega

theorem le16_eq_field16 {x : Nat} (h : x < 65536) : le16 x = field16 x := by
  rw [le16, field16, Nat.mod_eq_of_lt (a := x / 256) (by omega)]

/-! ### KEY_OFF of a POLY part (R24) -/

section
variable {s : State} {p : PartId} {k : Key}

theorem State.keyOffVoice_iff {v : VoiceId} : (match (s.voice v).phase with
    | .gated n sus _ => (s.voice v).part == p && n.key == k && !sus
    | _ => false) = true ↔
      (s.voice v).gatedFor p = true ∧ (s.voice v).key = k.val ∧ (s.voice v).phase.isSustained = false := by
  unfold Voice.gatedFor Voice.key VoicePhase.isSustained
  split
  · next n sus pulse h => simp [h, VoicePhase.isGated, VoicePhase.note?, Fin.ext_iff, and_assoc]
  · next h =>
    cases hphase : (s.voice v).phase <;> simp_all [VoicePhase.isGated]

theorem State.keyOffVoice_eq_none
    (h : ∀ v, ¬((s.voice v).gatedFor p = true ∧ (s.voice v).key = k.val ∧ (s.voice v).phase.isSustained = false)) :
    s.keyOffVoice p k = none :=
  List.find?_eq_none.mpr fun v _ hv => h v (State.keyOffVoice_iff.mp hv)

/-- The first voice of the table that passes a test. -/
theorem find?_allVoices {test : VoiceId → Bool} {v : VoiceId} (hv : test v = true)
    (hbefore : ∀ w, w < v → ¬test w = true) : allVoices.find? test = some v := by
  obtain ⟨w, hw⟩ := Option.isSome_iff_exists.mp (List.find?_isSome.mpr ⟨v, mem_allVoices v, hv⟩)
  obtain ⟨hpass, before, after, hsplit, hnone⟩ := List.find?_eq_some_iff_append.mp hw
  have hsorted := pairwise_allVoices
  rw [hsplit, List.pairwise_append] at hsorted
  have hle : v ∈ before ++ w :: after := hsplit ▸ mem_allVoices v
  rw [hw]
  rcases List.mem_append.mp hle with hin | hin
  · simpa [hv] using hnone v hin
  · rcases List.mem_cons.mp hin with heq | hin
    · rw [heq]
    · exact absurd hpass (hbefore w (List.rel_of_pairwise_cons hsorted.2.1 hin))

theorem takeFirst_eq_some {α : Type} {test : α → Bool} {xs : List α} {place : Nat} {x : α} (hx : xs[place]? = some x)
    (hpass : test x = true) (hbefore : ∀ y ∈ xs.take place, test y = false) :
    takeFirst test xs = some (x, xs.eraseIdx place) := by
  induction xs generalizing place with
  | nil => simp at hx
  | cons y ys ih =>
    cases place with
    | zero =>
      obtain rfl : y = x := by simpa using hx
      simp [takeFirst, hpass]
    | succ place =>
      have hy : test y = false := hbefore y (by simp)
      rw [takeFirst, hy, ih (by simpa using hx) fun z hz => hbefore z (by simp [hz])]
      simp

theorem takeFirst_eq_none {α : Type} {test : α → Bool} {xs : List α} (h : ∀ y ∈ xs, test y = false) :
    takeFirst test xs = none := by
  induction xs with
  | nil => rfl
  | cons y ys ih => simp [takeFirst, h y (by simp), ih fun z hz => h z (by simp [hz])]

theorem State.keyOff_of_poly (h : s.param p pVoiceMode = 0) : s.keyOff p k = s.polyKeyOff p k := by
  rw [State.keyOff, if_pos (State.isPoly_iff.mpr h)]

theorem State.holds_iff : s.holds p = true ↔ (s.perfOf p).hold = true ∧ s.param p pHoldEnable = 1 := by
  simp [State.holds]

end

theorem exec_keyOff {s : State} {l : Link} {p : PartId} {k : Key} (hready : s.ready l) {u : State} {nothing : Bool}
    (hoff : (s.framed l [byte p, byte k]).keyOff p k = (u, nothing))
    (hlinks : ∀ m, u.link m = (s.framed l [byte p, byte k]).link m) :
    ∃ t, exec (.keyOff l [byte p, byte k]) s = .next t
      ∧ t = u.setLink l ((s.link l).took 4 (okReply 0x02 false nothing []))
      ∧ Took s t l 4 (okReply 0x02 false nothing []) := by
  have hwork : Request.keyOff.service l [byte p, byte k] (s.framed l [byte p, byte k]) =
      (u, { status := .ok, nothing }) :=
    (keyOffService_byte l p k _).trans (by rw [hoff])
  exact exec_of_quiet hready (by decide) hwork hlinks

theorem State.perfOf_countCancelled (s : State) (p q : PartId) : (s.countCancelled p).perfOf q =
    if q = p then { s.perfOf q with
      counters := { (s.perfOf q).counters with cancelled := min 65535 ((s.perfOf q).counters.cancelled + 1) } }
    else s.perfOf q := State.perfOf_countWith s p q _

theorem State.voice_countCancelled (s : State) (p : PartId) (v : VoiceId) : (s.countCancelled p).voice v = s.voice v :=
  rfl

theorem State.perfOf_unbind (s : State) (v : VoiceId) (p q : PartId) : (s.unbind v p).perfOf q =
    if q = p then { s.perfOf q with bound := (s.perfOf q).bound.filter (· != v) } else s.perfOf q := by
  rw [State.unbind, State.perfOf_setPerf]
  split
  · next h => rw [h]
  · rfl

theorem State.voice_unbind (s : State) (v : VoiceId) (p : PartId) (w : VoiceId) : (s.unbind v p).voice w = s.voice w := rfl

theorem State.framed_voice_eq (s : State) (l : Link) (payload : List Byte) (v : VoiceId) :
    (s.framed l payload).voice v = s.voice v := by simp [State.framed]

theorem State.polyKeyOff_of_voice {s : State} {p : PartId} {k : Key} {v : VoiceId} {n : Note} {pulse : Option Nat}
    (hphase : (s.voice v).phase = .gated n false pulse) (hpart : (s.voice v).part = p) (hkey : n.key = k)
    (hbefore : ∀ w, w < v →
      ¬((s.voice w).gatedFor p = true ∧ (s.voice w).key = k.val ∧ (s.voice w).phase.isSustained = false)) :
    s.polyKeyOff p k = (if s.holds p then s.sustain v else (s.release v).passZeroWindows, false) := by
  have hfound : s.keyOffVoice p k = some v :=
    find?_allVoices (by simp [hphase, hpart, hkey]) fun w hw htest => hbefore w hw (State.keyOffVoice_iff.mp htest)
  rw [State.polyKeyOff, hfound]

section
variable {s : State} {p : PartId} {k : Key}
  (h : ∀ v, ¬((s.voice v).gatedFor p = true ∧ (s.voice v).key = k.val ∧ (s.voice v).phase.isSustained = false))
include h

theorem State.polyKeyOff_of_deferred {d : Deferred} {rest : List Deferred}
    (htake : takeFirst (fun d => d.part == p && d.key == k) s.deferred = some (d, rest)) :
    s.polyKeyOff p k = ({ s with deferred := rest }.countCancelled p, false) := by
  simp only [State.polyKeyOff, State.keyOffVoice_eq_none h, htake]

theorem State.polyKeyOff_of_successor
    (htake : takeFirst (fun d => d.part == p && d.key == k) s.deferred = none) {v : VoiceId}
    (hv : s.keyOffSuccessor p k = some v) : s.polyKeyOff p k = (s.cancelSuccessor v, false) := by
  simp only [State.polyKeyOff, State.keyOffVoice_eq_none h, htake, hv]

theorem State.polyKeyOff_of_nothing (htake : takeFirst (fun d => d.part == p && d.key == k) s.deferred = none)
    (hv : s.keyOffSuccessor p k = none) : s.polyKeyOff p k = (s, true) := by
  simp only [State.polyKeyOff, State.keyOffVoice_eq_none h, htake, hv]

end

theorem State.cancelSuccessor_of_note {s : State} {v : VoiceId} {n : Note} {su : Successor} {dp : Bool} {timer : Nat}
    (h : (s.voice v).phase = .damping n (some su) dp timer) (hkind : su.kind = .note) :
    s.cancelSuccessor v = ((s.setPhase v (.damping n none dp timer)).unbind v su.part).countCancelled su.part := by
  rw [State.cancelSuccessor, h]
  dsimp only
  rw [if_pos hkind]

/-- Settles O21. -/
theorem keyOffReleasesSustainsOrIsIgnored : Obligations.KeyOffReleasesSustainsOrIsIgnored := by
  intro s l p k command perf cancelled reply
  refine ⟨fun v n pulse => ?_, fun place d ⟨hsilent, hd, hpart, hkey, hbefore⟩ => ?_,
    fun v n su dp timer ⟨hphase, hpart, hkey, hkind, hsilent, hdeferred, hbefore⟩ => ?_,
    fun ⟨hsilent, hdeferred, hnone⟩ => ?_⟩
  · have hleaves (phase : VoicePhase) (hready : s.ready l)
        (hoff : (s.framed l [byte p, byte k]).keyOff p k = ((s.framed l [byte p, byte k]).setPhase v phase, false)) :
        ∃ t, exec command s = .next t ∧ t = { s with voices := t.voices, linkA := t.linkA, linkB := t.linkB }
          ∧ t.voice v = { s.voice v with phase } ∧ (∀ w, w ≠ v → t.voice w = s.voice w) ∧ Took s t l 4 reply := by
      obtain ⟨t, hexec, ht, htook⟩ := exec_keyOff hready hoff fun m => by simp
      refine ⟨t, hexec, ?_, ?_, fun w hw => ?_, htook⟩ <;> rw [ht]
      · cases l <;> rfl
      · simp [State.framed]
      · simp [State.framed, State.voice_setPhase, hw]
    refine ⟨fun ⟨⟨hready, hmode, hphase, hpart, hkey, hbefore⟩, hhold⟩ => hleaves _ hready ?_,
      fun ⟨⟨hready, hmode, hphase, hpart, hkey, hbefore⟩, hsettled, hfree, hwindow⟩ => hleaves _ hready ?_⟩
    · rw [State.keyOff_of_poly (by cases l <;> exact hmode),
        State.polyKeyOff_of_voice (by cases l <;> exact hphase) (by cases l <;> exact hpart) hkey
          (by cases l <;> exact hbefore),
        if_pos (State.holds_iff.mpr (by cases l <;> exact hhold)), State.sustain, State.framed_voice_eq, hphase]
    · have hphase' : ((s.framed l [byte p, byte k]).voice v).phase = .gated n false pulse := by cases l <;> exact hphase
      rw [State.keyOff_of_poly (by cases l <;> exact hmode),
        State.polyKeyOff_of_voice hphase' (by cases l <;> exact hpart) hkey (by cases l <;> exact hbefore),
        if_neg (fun h => hfree (by cases l <;> exact State.holds_iff.mp h)),
        State.passZeroWindows_of_settled
          (settled_release (by cases l <;> exact hsettled) (by cases l <;> exact hpart ▸ hwindow)),
        State.release_of_gated hphase', State.framed_voice_eq, hpart]
      cases l <;> rfl
  · obtain ⟨hready, hmode, hsilent⟩ := hsilent
    have htake : takeFirst (fun d => d.part == p && d.key == k) (s.framed l [byte p, byte k]).deferred =
        some (d, s.deferred.eraseIdx place) := by
      cases l <;>
        exact takeFirst_eq_some hd (by simp [hpart, hkey]) fun y hy => by simpa using hbefore y hy
    have hoff : (s.framed l [byte p, byte k]).keyOff p k = _ :=
      (State.keyOff_of_poly (by cases l <;> exact hmode)).trans
        (State.polyKeyOff_of_deferred (by cases l <;> exact hsilent) htake)
    obtain ⟨t, hexec, ht, htook⟩ := exec_keyOff hready hoff fun m => rfl
    refine ⟨t, hexec, ?_, ?_, fun q hq => ?_, htook⟩ <;> rw [ht]
    · cases l <;> rfl
    · rw [State.setLink_perfOf, State.perfOf_countCancelled, if_pos rfl]
      cases l <;> rfl
    · rw [State.setLink_perfOf, State.perfOf_countCancelled, if_neg hq]
      cases l <;> rfl
  · obtain ⟨hready, hmode, hsilent⟩ := hsilent
    have hphase' : ((s.framed l [byte p, byte k]).voice v).phase = .damping n (some su) dp timer := by
      cases l <;> exact hphase
    have htake : takeFirst (fun d => d.part == p && d.key == k) (s.framed l [byte p, byte k]).deferred = none := by
      cases l <;> exact takeFirst_eq_none fun y hy => by simpa using hdeferred y hy
    have hsuccessor : (s.framed l [byte p, byte k]).keyOffSuccessor p k = some v :=
      find?_allVoices (by simp [hphase, hpart, hkey, hkind, VoicePhase.successor?]) fun w hw => by
        rw [State.framed_voice_eq, hbefore w hw]
        decide
    have hoff : (s.framed l [byte p, byte k]).keyOff p k = _ :=
      (State.keyOff_of_poly (by cases l <;> exact hmode)).trans
        (State.polyKeyOff_of_successor (by cases l <;> exact hsilent) htake hsuccessor)
    rw [State.cancelSuccessor_of_note hphase' hkind, hpart] at hoff
    obtain ⟨t, hexec, ht, htook⟩ := exec_keyOff hready hoff fun m => rfl
    refine ⟨t, hexec, ?_, ?_, fun w hw => ?_, ?_, fun q hq => ?_, htook⟩ <;> rw [ht]
    · cases l <;> rfl
    · rw [State.setLink_voice, State.voice_countCancelled, State.voice_unbind, State.voice_setPhase_self,
        State.framed_voice_eq]
    · rw [State.setLink_voice, State.voice_countCancelled, State.voice_unbind, State.voice_setPhase, if_neg hw,
        State.framed_voice_eq]
    · rw [State.setLink_perfOf, State.perfOf_countCancelled, if_pos rfl, State.perfOf_unbind, if_pos rfl]
      cases l <;> rfl
    · rw [State.setLink_perfOf, State.perfOf_countCancelled, if_neg hq, State.perfOf_unbind, if_neg hq]
      cases l <;> rfl
  · obtain ⟨hready, hmode, hsilent⟩ := hsilent
    have htake : takeFirst (fun d => d.part == p && d.key == k) (s.framed l [byte p, byte k]).deferred = none := by
      cases l <;> exact takeFirst_eq_none fun y hy => by simpa using hdeferred y hy
    have hsuccessor : (s.framed l [byte p, byte k]).keyOffSuccessor p k = none :=
      List.find?_eq_none.mpr fun v _ => by rw [State.framed_voice_eq, hnone v]; decide
    have hoff : (s.framed l [byte p, byte k]).keyOff p k = _ :=
      (State.keyOff_of_poly (by cases l <;> exact hmode)).trans
        (State.polyKeyOff_of_nothing (by cases l <;> exact hsilent) htake hsuccessor)
    obtain ⟨t, hexec, ht, htook⟩ := exec_keyOff hready hoff fun m => rfl
    refine ⟨t, hexec, ?_, htook⟩
    rw [ht]
    cases l <;> rfl

/-! ### HOLD (R44, R45) -/

theorem State.perfOf_setPerf_hold (s : State) (on : Bool) (p q : PartId) :
    (s.setPerf p { s.perfOf p with hold := on }).perfOf q =
      if q = p then { s.perfOf q with hold := on } else s.perfOf q := by
  rw [State.perfOf_setPerf]
  split
  · next h => rw [h]
  · rfl

theorem State.setPerf_perfOf (p : PartId) (s : State) : s.setPerf p (s.perfOf p) = s := by
  simp [State.setPerf, State.perfOf]

/-- HOLD ON of one part writes its flag. -/
theorem State.setHold_on (s : State) (p : PartId) : s.setHold true p = s.setPerf p { s.perfOf p with hold := true } := by
  unfold State.setHold
  split
  · next h => 
    nth_rw 1 [← State.setPerf_perfOf p s]
    rw [← h]
  · rfl

theorem State.setHold_off {s : State} {p : PartId} (h : (s.perfOf p).hold = true) :
    s.setHold false p = (s.setPerf p { s.perfOf p with hold := false }).holdOff p := by
  rw [State.setHold, h, if_neg (by decide)]
  rfl

theorem holdService_byte (l : Link) {mask : BitVec 4} {mb ob : Byte} {on : Bool} (hm : partMask? mb = some mask)
    (ho : flag? ob = some on) (s : State) : holdService l [mb, ob] s =
      (s.setHolds on mask, { status := .ok, nothing := (partsOf mask).all fun p => (s.perfOf p).hold == on }) := by
  simp only [holdService, hm, ho]

/-- The parts' records alone differ. -/
def SameButPerf (s t : State) : Prop := t = { s with perf := t.perf }

theorem SameButPerf.link {s t : State} (h : SameButPerf s t) (m : Link) : t.link m = s.link m := by
  unfold SameButPerf at h
  rw [h]
  cases m <;> rfl

/-- A service that writes the parts' records alone leaves those and the link's reply. -/
theorem SameButPerf.setLink_framed {s u : State} {l m : Link} {payload : List Byte}
    (h : SameButPerf (s.framed m payload) u) (x : LinkUnit) :
    u.setLink l x =
      { s with perf := u.perf, linkA := (u.setLink l x).linkA, linkB := (u.setLink l x).linkB } := by
  unfold SameButPerf at h
  rw [h]
  cases l <;> cases m <;> rfl

/-- HOLD ON writes the flags of the named parts and nothing else. -/
theorem setHolds_on {s : State} (hs : s.Settled) (mask : BitVec 4) : SameButPerf s (s.setHolds true mask)
    ∧ ∀ p, (s.setHolds true mask).perfOf p =
      if mask.getLsbD p.val = true then { s.perfOf p with hold := true } else s.perfOf p := by
  have hfold := foldl_touches (get := State.perfOf) (f := fun _ x => { x with hold := true })
    (step := fun (s : State) p => s.setHold true p) (SameButPerf s)
    (fun t p ht => by rw [State.setHold_on]; unfold SameButPerf at *; rw [ht]; rfl)
    (fun t p _ => by rw [State.setHold_on, State.perfOf_setPerf_self])
    (fun t p q _ hq => by rw [State.setHold_on, State.perfOf_setPerf_ne hq]) (nodup_partsOf mask) (s := s) rfl
  have hsame : s.setHolds true mask = (partsOf mask).foldl (fun s p => s.setHold true p) s :=
    State.passZeroWindows_of_settled fun v => by rw [hfold.1]; exact hs v
  rw [hsame]
  exact ⟨hfold.1, fun p => (hfold.2 p).trans (by simp only [mem_partsOf])⟩

/-- The voice after a release at a time, with a window (R20). -/
def Voice.toReleased (start : Stamp) (window : Nat) (x : Voice) : Voice :=
  match x.phase with
  | .gated n _ _ => { x with phase := .released n start window }
  | _ => x

theorem State.setVoice_voice (v : VoiceId) (s : State) : s.setVoice v (s.voice v) = s := by
  simp [State.setVoice, State.voice]

theorem State.release_eq (v : VoiceId) (s : State) : s.release v =
    s.setVoice v ((s.voice v).toReleased s.timestamp (s.param (s.voice v).part pReleaseWindow)) := by
  unfold State.release Voice.toReleased
  cases (s.voice v).phase with
  | gated n sus pulse => rfl
  | _ => exact (State.setVoice_voice v s).symm

/-- The voices alone differ. -/
def SameButTable (s t : State) : Prop := t = { s with voices := t.voices }

theorem SameButTable.link {s t : State} (h : SameButTable s t) (m : Link) : t.link m = s.link m := by
  unfold SameButTable at h
  rw [h]
  cases m <;> rfl

theorem SameButTable.setVoice {s t : State} (h : SameButTable s t) (v : VoiceId) (x : Voice) :
    SameButTable s (t.setVoice v x) := by
  unfold SameButTable at *
  rw [h]
  rfl

theorem SameButTable.param {s t : State} (h : SameButTable s t) (p : PartId) (i : ParamId) :
    t.param p i = s.param p i := by
  unfold SameButTable at h
  rw [h]
  rfl

theorem SameButTable.timestamp {s t : State} (h : SameButTable s t) : t.timestamp = s.timestamp := by
  unfold SameButTable at h
  rw [h]

theorem SameButTable.perfOf {s t : State} (h : SameButTable s t) (p : PartId) : t.perfOf p = s.perfOf p := by
  unfold SameButTable at h
  rw [h]
  rfl

theorem SameButTable.refl (s : State) : SameButTable s s := rfl

/-- A voice of part p that hold off releases (R45). -/
def Voice.holdReleased (p : PartId) (start : Stamp) (window : Nat) (x : Voice) : Voice :=
  if x.gatedFor p && x.phase.isSustained then { x.toReleased start window with releaseStamp := start } else x

theorem Voice.holdReleased_eq (p : PartId) (start : Stamp) (window : Nat) (x : Voice) : x.holdReleased p start window =
    match x.phase with
    | .gated n true _ =>
      if x.part = p then { x with phase := .released n start window, releaseStamp := start } else x
    | _ => x := by
  unfold Voice.holdReleased Voice.toReleased Voice.gatedFor
  cases hphase : x.phase with
  | gated n sus pulse => cases sus <;> by_cases hpart : x.part = p <;> simp [VoicePhase.isGated, VoicePhase.isSustained, hpart]
  | _ => simp [VoicePhase.isGated]

theorem State.releaseHeld_eq (v : VoiceId) (s : State) : s.releaseHeld v = s.setVoice v
    { (s.voice v).toReleased s.timestamp (s.param (s.voice v).part pReleaseWindow) with releaseStamp := s.timestamp } := by
  rw [State.releaseHeld, State.release_eq]
  simp [State.setVoice, State.voice]

theorem Voice.part_of_gatedFor {x : Voice} {p : PartId} (h : x.gatedFor p = true) : x.part = p := by
  exact of_decide_eq_true (Bool.and_eq_true_iff.mp h).2

/-- Hold off of a POLY part releases its sustained voices. -/
theorem releaseSustained_touches (s : State) (p : PartId) : SameButTable s (s.releaseSustained p)
    ∧ ∀ v, (s.releaseSustained p).voice v =
      (s.voice v).holdReleased p s.timestamp (s.param p pReleaseWindow) := by
  have hfold := foldl_touches (get := State.voice)
    (f := fun _ => Voice.holdReleased p s.timestamp (s.param p pReleaseWindow))
    (step := fun s v => if (s.voice v).gatedFor p && (s.voice v).phase.isSustained then s.releaseHeld v else s)
    (SameButTable s) (fun t v ht => ?_) (fun t v ht => ?_) (fun t v w ht hw => ?_) nodup_allVoices (.refl s)
  · exact ⟨hfold.1, fun v => (hfold.2 v).trans (if_pos (mem_allVoices v))⟩
  · split
    · rw [State.releaseHeld_eq]
      exact ht.setVoice v _
    · exact ht
  · dsimp only [Voice.holdReleased]
    split
    · next h =>
      rw [State.releaseHeld_eq, State.voice_setVoice_self, ht.param, ht.timestamp,
        Voice.part_of_gatedFor (Bool.and_eq_true_iff.mp h).1]
    · rfl
  · split
    · rw [State.releaseHeld_eq, State.voice_setVoice_ne hw]
    · rfl

theorem Voice.zeroWindow_holdReleased {p : PartId} {start : Stamp} {window : Nat} (hw : window ≠ 0) {x : Voice}
    (hx : x.phase.zeroWindow = false) : (x.holdReleased p start window).phase.zeroWindow = false := by
  unfold Voice.holdReleased Voice.toReleased
  split
  · split
    · simpa [VoicePhase.zeroWindow] using hw
    · exact hx
  · exact hx

/-- HOLD OFF of one POLY part whose flag is on. -/
theorem setHolds_off {s : State} {p : PartId} (hs : s.Settled) (hmode : s.param p pVoiceMode = 0)
    (hhold : (s.perfOf p).hold = true) (hwindow : s.param p pReleaseWindow ≠ 0) :
    s.setHolds false (BitVec.ofNat 4 (2 ^ p.val)) =
      (s.setPerf p { s.perfOf p with hold := false }).releaseSustained p := by
  have hoff : (s.setPerf p { s.perfOf p with hold := false }).holdOff p =
      (s.setPerf p { s.perfOf p with hold := false }).releaseSustained p := if_pos (State.isPoly_iff.mpr hmode)
  rw [State.setHolds, partsOf_twoPow, List.foldl_cons, List.foldl_nil, State.setHold_off hhold, hoff]
  refine State.passZeroWindows_of_settled fun v => ?_
  rw [(releaseSustained_touches _ p).2]
  exact Voice.zeroWindow_holdReleased hwindow (hs v)

/-- Settles O22. -/
theorem holdSetsAndClearsFlags : Obligations.HoldSetsAndClearsFlags := by
  refine ⟨fun s l mask ⟨hready, hmask, hsettled⟩ => ?_, fun s l p ⟨hready, hsettled, hmode, hhold, hwindow⟩ => ?_⟩
  · have hwork : Request.hold.service l [byte mask.toNat, 0x01#8] (s.framed l [byte mask.toNat, 0x01#8]) = _ :=
      holdService_byte l (partMask?_byte hmask) (by decide : flag? 0x01#8 = some true) _
    obtain ⟨hframe, hperf⟩ := setHolds_on (s := s.framed l [byte mask.toNat, 0x01#8]) (by cases l <;> exact hsettled) mask
    obtain ⟨t, hexec, ht, htook⟩ := exec_of_quiet hready (by decide) hwork hframe.link
    refine ⟨t, hexec, ?_, fun p => ?_, ?_⟩
    · rw [ht]
      simpa only [State.setLink_perf] using hframe.setLink_framed _
    · rw [ht, State.setLink_perfOf, hperf, State.framed, State.shiftOut_perfOf]
    · rwa [show ((partsOf mask).all fun p => ((s.framed l [byte mask.toNat, 0x01#8]).perfOf p).hold == true) =
          allParts.all fun p => !mask.getLsbD p.val || (s.perfOf p).hold by
        simp [partsOf, List.all_filter, State.framed]] at htook
  · have hwork : Request.hold.service l [byte (2 ^ p.val), 0x00#8] (s.framed l [byte (2 ^ p.val), 0x00#8]) = _ :=
      holdService_byte l (partMask?_twoPow p) (by decide : flag? 0x00#8 = some false) _
    rw [setHolds_off (by cases l <;> exact hsettled) (by cases l <;> exact hmode) (by cases l <;> exact hhold)
      (by cases l <;> exact hwindow)] at hwork
    obtain ⟨hframe, hvoice⟩ := releaseSustained_touches ((s.framed l [byte (2 ^ p.val), 0x00#8]).setPerf p
      { (s.framed l [byte (2 ^ p.val), 0x00#8]).perfOf p with hold := false }) p
    generalize State.releaseSustained p _ = u at hwork hframe hvoice
    obtain ⟨t, hexec, ht, htook⟩ := exec_of_quiet hready (by decide) hwork fun m => hframe.link m
    rw [show ((partsOf (BitVec.ofNat 4 (2 ^ p.val))).all fun q =>
        ((s.framed l [byte (2 ^ p.val), 0x00#8]).perfOf q).hold == false) = false by
      rw [partsOf_twoPow]
      simp [State.framed, hhold]] at htook
    refine ⟨t, hexec, ?_, ?_, fun q hq => ?_, fun v => ?_, htook⟩ <;> rw [ht]
    · rw [hframe]
      cases l <;> rfl
    · rw [State.setLink_perfOf, hframe.perfOf, State.perfOf_setPerf_self, State.framed, State.shiftOut_perfOf]
    · rw [State.setLink_perfOf, hframe.perfOf, State.perfOf_setPerf_ne hq, State.framed, State.shiftOut_perfOf]
    · have htime : (s.framed l [byte (2 ^ p.val), 0x00#8]).timestamp = s.timestamp := by cases l <;> rfl
      have hparam : (s.framed l [byte (2 ^ p.val), 0x00#8]).param p pReleaseWindow = s.param p pReleaseWindow := by
        cases l <;> rfl
      rw [State.setLink_voice, hvoice]
      change ((s.framed l _).voice v).holdReleased p (s.framed l _).timestamp ((s.framed l _).param p pReleaseWindow) = _
      rw [htime, hparam, State.framed_voice_eq]
      exact Voice.holdReleased_eq p _ _ _

/-! ### BEND, CURVE_SET and NOTICE_CONFIG (R47, R75, R193) -/

theorem forced_system_ne (mask : Byte) : ((mask ||| 0x10#8) != mask) = !mask.getLsbD 4 := by
  revert mask
  decide

/-- Settles O23. -/
theorem settingRequestsStoreClampedValues : Obligations.SettingRequestsStoreClampedValues := by
  refine ⟨fun s l p x hready hx => ?_, fun s l a b c hready ha hb hc => ?_, fun s l mask mark hready => ?_⟩
  · have hwork : Request.bend.service l (byte p :: field16 x) (s.framed l (byte p :: field16 x)) =
        ((s.framed l (byte p :: field16 x)).setBend p (min 16383 x),
          { status := .ok, clamped := decide (16383 < x) }) := by
      simp [Request.service, bendService, field16, u16_field16 hx]
    obtain ⟨t, hexec, ht, htook⟩ := exec_of_quiet hready (by decide) hwork fun m => rfl
    refine ⟨t, hexec, ?_, ?_, fun q hq => ?_, htook⟩ <;> rw [ht]
    · cases l <;> rfl
    · simp [State.setBend, State.framed]
    · simp [State.setBend, State.framed, State.perfOf_setPerf_ne hq]
  · have hwork : Request.curveSet.service l (field16 a ++ field16 b ++ field16 c)
        (s.framed l (field16 a ++ field16 b ++ field16 c)) =
        ({ s.framed l (field16 a ++ field16 b ++ field16 c) with
            template := { l1 := min 1024 a, l2 := min 1024 b, l3 := min 1024 c } },
          { status := .ok, clamped := decide (1024 < a ∨ 1024 < b ∨ 1024 < c)
            data := field16 (min 1024 a) ++ field16 (min 1024 b) ++ field16 (min 1024 c) }) := by
      have hclamped (x : Nat) : le16 (min 1024 x) = field16 (min 1024 x) := le16_eq_field16 (by omega)
      simp only [← hclamped]
      simp [Request.service, curveSetService, field16, u16_field16 ha, u16_field16 hb, u16_field16 hc]
    obtain ⟨t, hexec, ht, htook⟩ := exec_of_quiet hready (by decide) hwork fun m => rfl
    refine ⟨t, hexec, ?_, htook⟩
    rw [ht]
    cases l <;> rfl
  · intro q watermark
    by_cases hmask : 32 ≤ mask.toNat
    · have hrefused : Request.noticeConfig.service l [mask, mark] (s.framed l [mask, mark]) =
          (s.framed l [mask, mark]).refused .range := if_pos hmask
      obtain ⟨hsame, htook⟩ := refused_takes (s := s) (l := l) (n := 4) (rep := refusal 0x52 .range)
      exact ⟨_, exec_refused hready hrefused, hsame, htook.2, fun _ => htook, fun h => absurd hmask (by omega)⟩
    · have hwork : Request.noticeConfig.service l [mask, mark] (s.framed l [mask, mark]) =
          ((s.framed l [mask, mark]).setQueue l
            { (s.framed l [mask, mark]).queueOf l with mask := mask ||| 0x10#8, watermark },
            { status := .ok, clamped := (mask ||| 0x10#8) != mask || watermark != mark.toNat
              data := [mask ||| 0x10#8, byte watermark] }) := if_neg hmask
      rw [forced_system_ne] at hwork
      have hexec := exec_request_of_running (r := .noticeConfig) hready (by decide) [mask, mark]
      rw [hwork] at hexec
      refine ⟨_, hexec, ?_, ?_, fun h => absurd h hmask, fun _ => ⟨?_, ?_⟩⟩
      · cases l <;> rfl
      · cases l <;> rfl
      · cases l <;> rfl
      · have hrun : s.resetRun.isSome = false := by rw [hready.1]; rfl
        cases l <;> simp [State.attention, State.inReset, State.framed, State.setQueue, State.queueOf, hrun,
          NoticeQueue.fill, q]

end Sys2Proof.Machine
end

section
/-! PROOFS. ALL_OFF of a part (R25): what each of its four stages leaves, and the requests that make it. -/

namespace Sys2Proof.Machine

/-! ### Frames of the notes -/

/-- The voices, the deferred list and the parts' records alone differ. -/
def SameButQueue (s t : State) : Prop := t = { s with voices := t.voices, deferred := t.deferred, perf := t.perf }

theorem SameButQueue.refl (s : State) : SameButQueue s s := rfl

theorem SameButQueue.trans {s t u : State} (h : SameButQueue s t) (k : SameButQueue t u) : SameButQueue s u := by
  unfold SameButQueue at *
  exact k.trans (by rw [h])

theorem SameButTable.queue {s t : State} (h : SameButTable s t) : SameButQueue s t := by
  unfold SameButTable at h
  unfold SameButQueue
  exact h.trans (by rw [h])

section
variable {s t : State} (h : SameButQueue s t)
include h

theorem SameButQueue.param (p : PartId) (i : ParamId) : t.param p i = s.param p i := by
  unfold SameButQueue at h
  rw [h]
  rfl

theorem SameButQueue.timestamp : t.timestamp = s.timestamp := by
  unfold SameButQueue at h
  rw [h]

theorem SameButQueue.serial : t.serial = s.serial := by
  unfold SameButQueue at h
  rw [h]

theorem SameButQueue.glides : t.glides = s.glides := by
  unfold SameButQueue at h
  rw [h]

theorem SameButQueue.link (m : Link) : t.link m = s.link m := by
  unfold SameButQueue at h
  rw [h]
  cases m <;> rfl

end

/-! ### Releasing (R20, R25) -/

/-- A release of every voice that a test picks. -/
theorem releaseWhere_touches (s : State) (pick : Voice → Bool) : SameButTable s (s.releaseWhere pick)
    ∧ ∀ v, (s.releaseWhere pick).voice v =
      if pick (s.voice v) then (s.voice v).toReleased s.timestamp (s.param (s.voice v).part pReleaseWindow)
      else s.voice v := by
  have hfold := foldl_touches (get := State.voice)
    (f := fun _ x => if pick x then x.toReleased s.timestamp (s.param x.part pReleaseWindow) else x)
    (step := fun s v => if pick (s.voice v) then s.release v else s)
    (SameButTable s) (fun t v ht => ?_) (fun t v ht => ?_) (fun t v w ht hw => ?_) nodup_allVoices (.refl s)
  · exact ⟨hfold.1, fun v => (hfold.2 v).trans (if_pos (mem_allVoices v))⟩
  · split
    · rw [State.release_eq]
      exact ht.setVoice v _
    · exact ht
  · split
    · rw [State.release_eq, State.voice_setVoice_self, ht.param, ht.timestamp]
    · rfl
  · split
    · rw [State.release_eq, State.voice_setVoice_ne hw]
    · rfl

/-! ### Cancelling successors (R19, R25) -/

/-- The voice after its successor of part p was cancelled. -/
def Voice.withoutSuccessorOf (p : PartId) (x : Voice) : Voice :=
  match x.phase with
  | .damping n (some su) dp timer => if su.part = p then { x with phase := .damping n none dp timer } else x
  | _ => x

/-- The voice holds a successor of kind NOTE of part p. -/
def Voice.noteSuccessorOf (p : PartId) (x : Voice) : Bool :=
  x.phase.successor?.any fun su => su.part == p && su.kind == .note

/-- The record of part p after the successor on voice v was cancelled. -/
def Perf.cancelledOn (v : VoiceId) (note : Bool) (x : Perf) : Perf :=
  { x with
    bound := x.bound.filter (· != v)
    counters := { x.counters with
      cancelled := if note then min 65535 (x.counters.cancelled + 1) else x.counters.cancelled } }

theorem phase_of_successorOf {x : Voice} {p : PartId} (h : x.successorOf p = true) :
    ∃ n su dp timer, x.phase = .damping n (some su) dp timer ∧ su.part = p := by
  cases hphase : x.phase with
  | damping n su dp timer =>
    cases su with
    | none => simp [Voice.successorOf, VoicePhase.successor?, hphase] at h
    | some su => exact ⟨n, su, dp, timer, rfl, by simpa [Voice.successorOf, VoicePhase.successor?, hphase] using h⟩
  | _ => simp [Voice.successorOf, VoicePhase.successor?, hphase] at h

theorem State.setPerf_setPerf (s : State) (p : PartId) (x y : Perf) : (s.setPerf p x).setPerf p y = s.setPerf p y := by
  simp [State.setPerf]

theorem State.countWith_setPerf (s : State) (p : PartId) (x : Perf) (f : Counters → Counters) :
    (s.setPerf p x).countWith p f = s.setPerf p { x with counters := f x.counters } := by
  rw [State.countWith, State.perfOf_setPerf_self, State.setPerf_setPerf]

theorem State.cancelSuccessor_eq {s : State} {v : VoiceId} {p : PartId} (h : (s.voice v).successorOf p = true) :
    s.cancelSuccessor v = (s.setVoice v ((s.voice v).withoutSuccessorOf p)).setPerf p
      ((s.perfOf p).cancelledOn v ((s.voice v).noteSuccessorOf p)) := by
  obtain ⟨n, su, dp, timer, hphase, rfl⟩ := phase_of_successorOf h
  rw [State.cancelSuccessor, Voice.withoutSuccessorOf, Voice.noteSuccessorOf, hphase]
  dsimp only
  rw [if_pos rfl]
  by_cases hkind : su.kind = .note
  · rw [if_pos hkind, State.unbind, State.countCancelled, State.countWith_setPerf]
    simp [hkind, Perf.cancelledOn, VoicePhase.successor?, State.setPhase, incSat16]
  · simp [hkind, Perf.cancelledOn, VoicePhase.successor?, State.unbind, State.setPhase]

/-- The record of part p after its successors on a list of voices were cancelled. -/
def Perf.cancelledAll (bound : VoiceId → Bool) (notes : Nat) (x : Perf) : Perf :=
  { x with
    bound := x.bound.filter (fun v => !bound v)
    counters := { x.counters with cancelled := min 65535 (x.counters.cancelled + notes) } }

theorem cancelled_cancelledOn {x : Perf} {v : VoiceId} {note : Bool} (h : x.counters.cancelled ≤ 65535) :
    (x.cancelledOn v note).counters.cancelled ≤ 65535 := by
  unfold Perf.cancelledOn
  cases note
  · exact h
  · exact Nat.min_le_left _ _

theorem successorOf_of_note {x : Voice} {p : PartId} (h : x.noteSuccessorOf p = true) : x.successorOf p = true := by
  unfold Voice.noteSuccessorOf at h
  unfold Voice.successorOf
  cases hsu : x.phase.successor? <;> simp_all

/-- What cancelling the successors of part p on a list of voices leaves of its record. -/
theorem cancelSuccessors_perf (p : PartId) {vs : List VoiceId} (hnodup : vs.Nodup) {s : State}
    (hcount : (s.perfOf p).counters.cancelled ≤ 65535) :
    (vs.foldl (fun s v => if (s.voice v).successorOf p then s.cancelSuccessor v else s) s).perfOf p =
      (s.perfOf p).cancelledAll (fun v => vs.contains v && (s.voice v).successorOf p)
        (vs.filter fun v => (s.voice v).noteSuccessorOf p).length := by
  induction vs generalizing s with
  | nil => simp [Perf.cancelledAll, Nat.min_eq_right hcount]
  | cons v vs ih =>
    obtain ⟨hv, hvs⟩ := List.nodup_cons.mp hnodup
    rw [List.foldl_cons]
    by_cases hsu : (s.voice v).successorOf p = true
    · rw [if_pos hsu, State.cancelSuccessor_eq hsu]
      generalize hx : (s.voice v).withoutSuccessorOf p = x
      have hsame (w : VoiceId) (hw : w ≠ v) (y : Perf) : ((s.setVoice v x).setPerf p y).voice w = s.voice w :=
        State.voice_setVoice_ne hw x s
      rw [ih hvs (by rw [State.perfOf_setPerf_self]; exact cancelled_cancelledOn hcount), State.perfOf_setPerf_self]
      have hnotes : (vs.filter fun w => (((s.setVoice v x).setPerf p
          ((s.perfOf p).cancelledOn v ((s.voice v).noteSuccessorOf p))).voice w).noteSuccessorOf p) =
            vs.filter fun w => (s.voice w).noteSuccessorOf p :=
        List.filter_congr fun w hw => by rw [hsame w (fun h => hv (h ▸ hw))]
      rw [hnotes, List.filter_cons]
      unfold Perf.cancelledAll Perf.cancelledOn
      dsimp only
      congr 1
      · congr 1
        by_cases hnote : (s.voice v).noteSuccessorOf p = true
        · simp only [hnote, if_true, List.length_cons]
          omega
        · simp only [hnote]
          rfl
      · rw [List.filter_filter]
        refine List.filter_congr fun w _ => ?_
        by_cases hw : w = v
        · subst hw
          simp [hsu]
        · rw [hsame w hw]
          simp [hw]
    · rw [if_neg hsu, ih hvs hcount, List.filter_cons, if_neg fun h => hsu (successorOf_of_note h)]
      congr 1
      funext w
      by_cases hw : w = v
      · subst hw
        simp [hsu]
      · simp [hw]

/-- What cancelling every successor of part p leaves. -/
theorem cancelSuccessorsOf_touches (p : PartId) (s : State) : SameButQueue s (s.cancelSuccessorsOf p)
    ∧ (s.cancelSuccessorsOf p).deferred = s.deferred
    ∧ (∀ v, (s.cancelSuccessorsOf p).voice v = (s.voice v).withoutSuccessorOf p)
    ∧ ∀ q, q ≠ p → (s.cancelSuccessorsOf p).perfOf q = s.perfOf q := by
  have hnone {x : Voice} (h : ¬x.successorOf p = true) : x.withoutSuccessorOf p = x := by
    unfold Voice.withoutSuccessorOf
    split
    · next n su dp timer hphase =>
      exact if_neg fun hpart => h (by simp [Voice.successorOf, VoicePhase.successor?, hphase, hpart])
    · rfl
  have hfold := foldl_touches (get := State.voice) (f := fun _ => Voice.withoutSuccessorOf p)
    (step := fun s v => if (s.voice v).successorOf p then s.cancelSuccessor v else s)
    (fun t => (SameButQueue s t ∧ t.deferred = s.deferred) ∧ ∀ q, q ≠ p → t.perfOf q = s.perfOf q)
    (fun t v ht => ?_) (fun t v _ => ?_) (fun t v w _ hw => ?_) nodup_allVoices (s := s)
    ⟨⟨.refl s, rfl⟩, fun _ _ => rfl⟩
  · obtain ⟨⟨⟨hframe, hdeferred⟩, hperf⟩, hvoice⟩ := hfold
    exact ⟨hframe, hdeferred, fun v => (hvoice v).trans (if_pos (mem_allVoices v)), hperf⟩
  · split
    · next h =>
      rw [State.cancelSuccessor_eq h]
      refine ⟨⟨ht.1.1.trans rfl, ht.1.2⟩, fun q hq => ?_⟩
      rw [State.perfOf_setPerf_ne hq]
      exact ht.2 q hq
    · exact ht
  · split
    · next h =>
      rw [State.cancelSuccessor_eq h]
      exact State.voice_setVoice_self v _ t
    · next h => exact (hnone h).symm
  · split
    · next h =>
      rw [State.cancelSuccessor_eq h]
      exact State.voice_setVoice_ne hw _ t
    · rfl

/-! ### ALL_OFF of one part (R25) -/

/-- The voice after its part, or the part of its successor, was cleared. -/
def Voice.cleared (named : PartId → Bool) (start : Stamp) (window : PartId → Nat) (x : Voice) : Voice :=
  match x.phase with
  | .gated n _ _ => if named x.part = true then { x with phase := .released n start (window x.part) } else x
  | .damping n (some su) dp timer =>
    if named su.part = true then { x with phase := .damping n none dp timer } else x
  | _ => x

theorem Voice.cleared_one (p : PartId) (start : Stamp) (window : PartId → Nat) (x : Voice) :
    x.cleared (· == p) start window =
      Voice.withoutSuccessorOf p (if x.gatedFor p then x.toReleased start (window x.part) else x) := by
  unfold Voice.cleared Voice.gatedFor Voice.toReleased Voice.withoutSuccessorOf
  cases hphase : x.phase with
  | gated n sus pulse => by_cases hpart : x.part = p <;> simp [VoicePhase.isGated, hphase, hpart]
  | damping n su dp timer => cases su <;> simp [VoicePhase.isGated, hphase]
  | _ => simp [VoicePhase.isGated, hphase]

theorem Voice.successor_toReleased (start : Stamp) (window : Nat) (x : Voice) :
    (x.toReleased start window).phase.successor? = x.phase.successor? := by
  unfold Voice.toReleased
  split
  · next h => rw [h]; rfl
  · rfl

theorem State.perfOf_cancelDeferred (s : State) (p q : PartId) : (s.cancelDeferred p).perfOf q =
    if q = p then { s.perfOf q with counters := { (s.perfOf q).counters with
      cancelled := min 65535 ((s.perfOf q).counters.cancelled + s.deferredOf p) } }
    else s.perfOf q := State.perfOf_countWith _ p q _

theorem State.perfOf_clearHeld (s : State) (p q : PartId) : (s.clearHeld p).perfOf q =
    if q = p then { s.perfOf q with held := [], selected := none, monoSet := [], wanted := none } else s.perfOf q := by
  rw [State.clearHeld, State.perfOf_setPerf]
  split
  · next h => rw [h]
  · rfl

theorem allOffPart_cleared (s : State) (p : PartId) :
    SameButQueue s (s.allOffPart p) ∧ Given.partsCleared s (s.allOffPart p) (· == p) := by
  obtain ⟨hrel, hreleased⟩ := releaseWhere_touches s (Voice.gatedFor p)
  unfold State.allOffPart
  generalize s.releaseWhere (Voice.gatedFor p) = a at hrel hreleased
  have hsuccessor (v : VoiceId) : (a.voice v).phase.successor? = (s.voice v).phase.successor? := by
    rw [hreleased]
    split
    · exact Voice.successor_toReleased _ _ _
    · rfl
  have ha : a.deferred = s.deferred ∧ ∀ q, a.perfOf q = s.perfOf q := ⟨by rw [hrel], hrel.perfOf⟩
  obtain ⟨hframe, hdeferred, hvoice, hother⟩ := cancelSuccessorsOf_touches p (a.cancelDeferred p)
  have hperf : ((a.cancelDeferred p).cancelSuccessorsOf p).perfOf p = _ :=
    cancelSuccessors_perf p nodup_allVoices (s := a.cancelDeferred p)
      (by rw [State.perfOf_cancelDeferred, if_pos rfl]; exact Nat.min_le_left _ _)
  generalize (a.cancelDeferred p).cancelSuccessorsOf p = b at *
  have hb : SameButQueue s b := (hrel.queue.trans (show SameButQueue a (a.cancelDeferred p) from rfl)).trans hframe
  refine ⟨hb.trans (show SameButQueue b (b.clearHeld p) from rfl), hb.serial, hb.glides, ?_, fun v => ?_, fun q => ?_⟩
  · change b.deferred = _
    rw [hdeferred, ← ha.1]
    rfl
  · change b.voice v = (s.voice v).cleared (· == p) s.timestamp fun q => s.param q pReleaseWindow
    rw [hvoice, Voice.cleared_one]
    exact congrArg _ (hreleased v)
  · rw [State.perfOf_clearHeld]
    by_cases hq : q = p
    · subst hq
      rw [if_pos rfl, hperf, State.perfOf_cancelDeferred, if_pos rfl, ha.2]
      have hcount : a.deferredOf q = s.deferredOf q := by rw [State.deferredOf, ha.1]; rfl
      have hsu : (fun v => allVoices.contains v && ((a.cancelDeferred q).voice v).successorOf q) =
          fun v => (s.voice v).successorOf q := funext fun v => by
        change (allVoices.contains v && Option.any _ (a.voice v).phase.successor?) = _
        rw [hsuccessor]
        simp [mem_allVoices, Voice.successorOf]
      have hnotes : (allVoices.filter fun v => ((a.cancelDeferred q).voice v).noteSuccessorOf q).length =
          s.noteSuccessorsOf q := by
        refine congrArg _ (List.filter_congr fun v _ => ?_)
        change Option.any _ (a.voice v).phase.successor? = _
        rw [hsuccessor]
      rw [hsu, hnotes, hcount]
      simp only [Perf.cancelledAll, beq_self_eq_true, if_true]
      congr 2
      omega
    · rw [if_neg hq, hother q hq, State.perfOf_cancelDeferred, if_neg hq, ha.2]
      simp [hq]

/-! ### ALL_OFF of several parts (R25) -/

theorem Voice.cleared_cleared (named : PartId → Bool) (p : PartId) (start : Stamp) (window : PartId → Nat) (x : Voice) :
    (x.cleared named start window).cleared (· == p) start window =
      x.cleared (fun q => named q || q == p) start window := by
  unfold Voice.cleared
  cases hphase : x.phase with
  | gated n sus pulse => by_cases hn : named x.part = true <;> by_cases hp : x.part = p <;> simp_all
  | damping n su dp timer =>
    cases su with
    | none => simp [hphase]
    | some su => by_cases hn : named su.part = true <;> by_cases hp : su.part = p <;> simp_all
  | _ => simp [hphase]

/-- Clearing a part leaves what the other parts wait for. -/
theorem Voice.successor_cleared {named : PartId → Bool} {p : PartId} (hp : named p = false) (start : Stamp)
    (window : PartId → Nat) (x : Voice) :
    (x.cleared named start window).successorOf p = x.successorOf p
      ∧ (x.cleared named start window).noteSuccessorOf p = x.noteSuccessorOf p := by
  unfold Voice.cleared Voice.successorOf Voice.noteSuccessorOf
  cases hphase : x.phase with
  | gated n sus pulse => by_cases hn : named x.part = true <;> simp [hn, hphase, VoicePhase.successor?]
  | damping n su dp timer =>
    cases su with
    | none => simp [hphase]
    | some su =>
      by_cases hn : named su.part = true
      · have hne : su.part ≠ p := fun h => by rw [h, hp] at hn; cases hn
        simp [hn, VoicePhase.successor?, hne]
      · simp [hn, hphase]
  | _ => simp [hphase]

/-- Clearing one part after others. -/
theorem partsCleared_trans {s t u : State} {named : PartId → Bool} {p : PartId} (hp : named p = false)
    (hframe : SameButQueue s t) (hst : Given.partsCleared s t named) (htu : Given.partsCleared t u (· == p)) :
    Given.partsCleared s u fun q => named q || q == p := by
  obtain ⟨hserial, hglides, hdeferred, hvoice, hperf⟩ := hst
  obtain ⟨hserial', hglides', hdeferred', hvoice', hperf'⟩ := htu
  have hv (v : VoiceId) : t.voice v = (s.voice v).cleared named s.timestamp fun q => s.param q pReleaseWindow := hvoice v
  refine ⟨hserial'.trans hserial, hglides'.trans hglides, ?_, fun v => ?_, fun q => ?_⟩
  · rw [hdeferred', hdeferred, List.filter_filter]
    exact List.filter_congr fun d _ => by rw [Bool.not_or, Bool.and_comm]
  · refine Eq.trans ?_ (Voice.cleared_cleared named p s.timestamp (fun q => s.param q pReleaseWindow) (s.voice v))
    rw [← hv, hvoice', hframe.timestamp]
    simp only [hframe.param]
    rfl
  · rw [hperf']
    by_cases hq : q = p
    · subst hq
      have hcount : t.deferredOf q = s.deferredOf q := by
        rw [State.deferredOf, State.deferredOf, hdeferred, List.filter_filter]
        refine congrArg _ (List.filter_congr fun d _ => ?_)
        by_cases hd : d.part = q <;> simp [hd, hp]
      have hnotes : t.noteSuccessorsOf q = s.noteSuccessorsOf q :=
        congrArg _ (List.filter_congr fun v _ => by
          have := (Voice.successor_cleared hp s.timestamp (fun q => s.param q pReleaseWindow) (s.voice v)).2
          rwa [← hv] at this)
      have hsu (v : VoiceId) : (t.voice v).successorOf q = (s.voice v).successorOf q := by
        rw [hv]
        exact (Voice.successor_cleared hp _ _ _).1
      simp only [hperf q, hp, hcount, hnotes, hsu, beq_self_eq_true, Bool.or_true, if_true]
      simp
    · simp only [hperf q, beq_false_of_ne hq, Bool.or_false]
      simp

theorem partsCleared_none (s : State) : Given.partsCleared s s fun _ => false := by
  refine ⟨rfl, rfl, by simp, fun v => ?_, fun p => by simp⟩
  cases (s.voice v).phase with
  | damping n su dp timer => cases su <;> simp
  | _ => simp

/-- ALL_OFF of the parts of a list, before windows of 0 pass. -/
theorem allOffParts_cleared {ps : List PartId} (hnodup : ps.Nodup) (s : State) :
    SameButQueue s (ps.foldl State.allOffPart s) ∧ Given.partsCleared s (ps.foldl State.allOffPart s) (ps.contains ·) := by
  induction ps using List.reverseRecOn with
  | nil => exact ⟨.refl s, by simpa using partsCleared_none s⟩
  | append_singleton ps p ih =>
    obtain ⟨hps, -, hp⟩ := List.nodup_append.mp hnodup
    obtain ⟨hframe, hcleared⟩ := ih hps
    obtain ⟨hframe', hcleared'⟩ := allOffPart_cleared (ps.foldl State.allOffPart s) p
    have hnotin : ps.contains p = false := by
      simpa using fun h => hp p h p (by simp) rfl
    rw [List.foldl_append, List.foldl_cons, List.foldl_nil]
    refine ⟨hframe.trans hframe', ?_⟩
    have h := partsCleared_trans hnotin hframe hcleared hcleared'
    have hsame : (fun q => (ps ++ [p]).contains q) = fun q => ps.contains q || q == p := funext fun q => by
      rw [Bool.eq_iff_iff]
      simp
    rwa [hsame]

/-! ### What passing windows of 0 leaves (R20, R23) -/

/-- No note is given: a voice that sounds or waits for a part did so before, unless a deferred entry was served; the
held-key lists, hold flags and bends stay. -/
structure GivesNothingNew (s t : State) : Prop where
  voices : ∀ v p, ((t.voice v).gatedFor p || (t.voice v).successorOf p) = true →
    ((s.voice v).gatedFor p || (s.voice v).successorOf p) = true ∨ ∃ d ∈ s.deferred, d.part = p
  deferred : ∀ d ∈ t.deferred, d ∈ s.deferred
  held : ∀ p, (t.perfOf p).held = (s.perfOf p).held ∧ (t.perfOf p).hold = (s.perfOf p).hold
    ∧ (t.perfOf p).bend = (s.perfOf p).bend

theorem GivesNothingNew.refl (s : State) : GivesNothingNew s s := ⟨fun _ _ h => .inl h, fun _ h => h, fun _ => ⟨rfl, rfl, rfl⟩⟩

theorem GivesNothingNew.trans {s t u : State} (h : GivesNothingNew s t) (k : GivesNothingNew t u) :
    GivesNothingNew s u := by
  refine ⟨fun v p hv => ?_, fun d hd => h.deferred d (k.deferred d hd), fun p => ?_⟩
  · rcases k.voices v p hv with hv | ⟨d, hd, hpart⟩
    · exact h.voices v p hv
    · exact .inr ⟨d, h.deferred d hd, hpart⟩
  · obtain ⟨h₁, h₂, h₃⟩ := h.held p
    obtain ⟨k₁, k₂, k₃⟩ := k.held p
    exact ⟨k₁.trans h₁, k₂.trans h₂, k₃.trans h₃⟩

theorem GivesNothingNew.foldl {α : Type} {f : State → α → State} (h : ∀ s a, GivesNothingNew s (f s a)) (as : List α)
    (s : State) : GivesNothingNew s (as.foldl f s) := by
  induction as generalizing s with
  | nil => exact .refl s
  | cons a as ih => exact (h s a).trans (ih _)

theorem givesNothingNew_of_same {s t : State} (hv : t.voices = s.voices) (hd : t.deferred = s.deferred)
    (hp : t.perf = s.perf) : GivesNothingNew s t := by
  refine ⟨fun v p h => .inl ?_, fun d h => hd ▸ h, fun p => ?_⟩
  · simpa only [State.voice, hv] using h
  · simp only [State.perfOf, hp, and_self]

/-- A voice that comes to rest. -/
theorem givesNothingNew_setVoice {s : State} {v : VoiceId} {x : Voice} (hg : x.phase.isGated = false)
    (hsu : x.phase.successor? = none) : GivesNothingNew s (s.setVoice v x) := by
  refine ⟨fun w p h => ?_, fun _ hd => hd, fun _ => ⟨rfl, rfl, rfl⟩⟩
  rw [State.voice_setVoice] at h
  split at h
  · simp [Voice.gatedFor, Voice.successorOf, hg, hsu] at h
  · exact .inl h

theorem givesNothingNew_goIdle (v : VoiceId) (s : State) : GivesNothingNew s (s.goIdle v) :=
  (givesNothingNew_setVoice (x := { s.voice v with phase := .idle, releaseStamp := s.timestamp }) rfl rfl).trans
    (givesNothingNew_of_same rfl rfl rfl)

theorem givesNothingNew_offer (v : VoiceId) (s : State) : GivesNothingNew s (s.offer v) := by
  unfold State.offer
  split
  · split
    · next d rest htake =>
      obtain ⟨-, before, after, hsplit, hrest, -⟩ := takeFirst_spec htake
      refine ⟨fun w p h => ?_, fun x hx => ?_, fun p => ?_⟩
      · simp only [State.countSounded, State.voice_countWith, State.voice_soundIdle] at h
        split at h
        · exact .inr ⟨d, by simp [hsplit], by
            simpa [Voice.gatedFor, Voice.successorOf, VoicePhase.isGated, VoicePhase.successor?] using h⟩
        · exact .inl h
      · have hx : x ∈ rest := hx
        rw [hrest] at hx
        rw [hsplit]
        rcases List.mem_append.mp hx with hx | hx <;> simp [hx]
      · simp only [State.countSounded, State.perfOf_countWith, State.perfOf_soundIdle]
        split <;> exact ⟨rfl, rfl, rfl⟩
    · exact .refl s
  · exact .refl s

/-- A voice that comes to rest, while the notes stay. -/
theorem givesNothingNew_of_phase {s t : State} {v : VoiceId} {ph : VoicePhase}
    (hv : t.voices = (s.setPhase v ph).voices) (hd : t.deferred = s.deferred) (hp : t.perf = s.perf)
    (hg : ph.isGated = false) (hsu : ph.successor? = none) : GivesNothingNew s t :=
  (givesNothingNew_setVoice (x := { s.voice v with phase := ph }) hg hsu).trans (givesNothingNew_of_same hv hd hp)

theorem givesNothingNew_takeNext (s : State) : GivesNothingNew s s.takeNext := by
  unfold State.takeNext
  split
  · split
    · split
      · exact givesNothingNew_of_phase rfl rfl rfl rfl rfl
      · exact .refl s
    · exact .refl s
  · exact .refl s

theorem givesNothingNew_enterTuning (v : VoiceId) (fromFault : Bool) (s : State) :
    GivesNothingNew s (s.enterTuning v fromFault) :=
  givesNothingNew_of_phase (v := v) (ph := .tuning (anchorCode 0)) rfl rfl rfl rfl rfl

theorem givesNothingNew_becomeFree (v : VoiceId) (s : State) : GivesNothingNew s (s.becomeFree v) := by
  unfold State.becomeFree
  split
  · exact (givesNothingNew_enterTuning v false s).trans (givesNothingNew_takeNext _)
  · exact (givesNothingNew_goIdle v s).trans (givesNothingNew_offer v _)

theorem givesNothingNew_passZeroWindows (s : State) : GivesNothingNew s s.passZeroWindows := by
  refine GivesNothingNew.foldl (fun s v => ?_) allVoices s
  split
  · unfold State.windowExpiry
    split
    · exact givesNothingNew_becomeFree v s
    · exact .refl s
  · exact .refl s

/-! ### The request ALL_OFF (R25) -/

theorem Voice.cleared_of_named {named : PartId → Bool} {p : PartId} (hp : named p = true) (start : Stamp)
    (window : PartId → Nat) (x : Voice) : (x.cleared named start window).gatedFor p = false
      ∧ (x.cleared named start window).successorOf p = false := by
  unfold Voice.cleared
  cases hphase : x.phase with
  | gated n sus pulse =>
    by_cases hn : named x.part = true
    · simp [hn, Voice.gatedFor, Voice.successorOf, VoicePhase.isGated, VoicePhase.successor?]
    · have hne : x.part ≠ p := fun h => hn (h ▸ hp)
      simp [hn, hphase, hne, Voice.gatedFor, Voice.successorOf, VoicePhase.isGated, VoicePhase.successor?]
  | damping n su dp timer =>
    cases su with
    | none => simp [hphase, Voice.gatedFor, Voice.successorOf, VoicePhase.isGated, VoicePhase.successor?]
    | some su =>
      by_cases hn : named su.part = true
      · simp [hn, Voice.gatedFor, Voice.successorOf, VoicePhase.isGated, VoicePhase.successor?]
      · have hne : su.part ≠ p := fun h => hn (h ▸ hp)
        simp [hn, hphase, hne, Voice.gatedFor, Voice.successorOf, VoicePhase.isGated, VoicePhase.successor?]
  | _ => simp [hphase, Voice.gatedFor, Voice.successorOf, VoicePhase.isGated, VoicePhase.successor?]

/-- What ALL_OFF of the parts of a mask leaves, whatever their release windows. -/
theorem allOff_silences (s : State) (mask : BitVec 4) :
    (∀ p : PartId, mask.getLsbD p.val = true →
      (∀ v, ((s.allOff mask).voice v).gatedFor p = false ∧ ((s.allOff mask).voice v).successorOf p = false)
      ∧ (∀ d ∈ (s.allOff mask).deferred, d.part ≠ p) ∧ ((s.allOff mask).perfOf p).held = [])
    ∧ ∀ p, ((s.allOff mask).perfOf p).hold = (s.perfOf p).hold ∧ ((s.allOff mask).perfOf p).bend = (s.perfOf p).bend := by
  obtain ⟨-, -, -, hdeferred, hvoice, hperf⟩ := allOffParts_cleared (nodup_partsOf mask) s
  have hgives := givesNothingNew_passZeroWindows ((partsOf mask).foldl State.allOffPart s)
  change GivesNothingNew _ (s.allOff mask) at hgives
  generalize (partsOf mask).foldl State.allOffPart s = u at *
  have hv (v : VoiceId) : u.voice v =
      (s.voice v).cleared (fun p => (partsOf mask).contains p) s.timestamp fun q => s.param q pReleaseWindow := hvoice v
  have hempty (p : PartId) (hp : (partsOf mask).contains p = true) : ∀ d ∈ u.deferred, d.part ≠ p := by
    intro d hd hpart
    rw [hdeferred] at hd
    have hkept := (List.mem_filter.mp hd).2
    dsimp only at hkept
    rw [hpart, hp] at hkept
    cases hkept
  refine ⟨fun p hmask => ?_, fun p => ?_⟩
  · have hp : (partsOf mask).contains p = true := List.contains_iff_mem.mpr (mem_partsOf.mpr hmask)
    refine ⟨fun v => ?_, fun d hd => hempty p hp d (hgives.deferred d hd), ?_⟩
    · rw [← Bool.or_eq_false_iff, Bool.eq_false_iff]
      intro h
      rcases hgives.voices v p h with h | ⟨d, hd, hpart⟩
      · rw [hv] at h
        obtain ⟨hg, hs⟩ := Voice.cleared_of_named hp s.timestamp (fun q => s.param q pReleaseWindow) (s.voice v)
        rw [hg, hs] at h
        cases h
      · exact hempty p hp d hd hpart
    · rw [(hgives.held p).1, hperf]
      dsimp only
      rw [if_pos hp]
  · obtain ⟨-, hhold, hbend⟩ := hgives.held p
    rw [hhold, hbend, hperf]
    dsimp only
    split <;> exact ⟨rfl, rfl⟩

theorem Voice.zeroWindow_cleared {named : PartId → Bool} {start : Stamp} {window : PartId → Nat} {x : Voice}
    (hx : x.phase.zeroWindow = false) (hw : ∀ p, named p = true → window p ≠ 0) :
    (x.cleared named start window).phase.zeroWindow = false := by
  unfold Voice.cleared
  split
  · split
    · next h => simpa [VoicePhase.zeroWindow] using hw _ h
    · exact hx
  · split
    · rfl
    · exact hx
  · exact hx

/-- Where the named parts open windows above 0, ALL_OFF is its four stages and no more. -/
theorem allOff_cleared {s : State} {mask : BitVec 4} (h : Given.opensWindows s mask) : SameButQueue s (s.allOff mask)
    ∧ Given.partsCleared s (s.allOff mask) fun p => mask.getLsbD p.val := by
  obtain ⟨hframe, hcleared⟩ := allOffParts_cleared (nodup_partsOf mask) s
  have hnamed : (fun p => (partsOf mask).contains p) = fun p : PartId => mask.getLsbD p.val := funext fun p => by
    rw [Bool.eq_iff_iff, List.contains_iff_mem, mem_partsOf]
  rw [hnamed] at hcleared
  have hsettled : ((partsOf mask).foldl State.allOffPart s).Settled := fun v => by
    rw [hcleared.2.2.2.1 v]
    exact Voice.zeroWindow_cleared (h.1 v) h.2
  rw [State.allOff, State.passZeroWindows_of_settled hsettled]
  exact ⟨hframe, hcleared⟩

theorem State.hasNotes_eq (s : State) (p : PartId) : s.hasNotes p = !Given.silent s p := by
  unfold State.hasNotes Given.silent
  rw [Bool.not_and, Bool.not_and, List.not_all_eq_any_not, List.not_all_eq_any_not]
  simp [bne]

theorem nothing_allOff (s : State) (mask : BitVec 4) : (!((partsOf mask).any s.hasNotes)) =
    allParts.all fun p => !mask.getLsbD p.val || Given.silent s p := by
  rw [List.not_any_eq_all_not, partsOf, List.all_filter]
  exact congrArg _ (funext fun p => by rw [State.hasNotes_eq, Bool.not_not])

theorem SameButQueue.setLink_framed {s u : State} {l m : Link} {payload : List Byte}
    (h : SameButQueue (s.framed m payload) u) (x : LinkUnit) : u.setLink l x =
      { s with voices := u.voices, deferred := u.deferred, perf := u.perf
               linkA := (u.setLink l x).linkA, linkB := (u.setLink l x).linkB } := by
  unfold SameButQueue at h
  rw [h]
  cases l <;> cases m <;> rfl

/-- A request whose service only posts leaves on the links its reply and notices. -/
theorem tookPosting_of_posted {s u : State} {l : Link} {payload : List Byte} (h : Posted (s.framed l payload) u)
    (rep : Reply) : TookPosting s (u.setLink l { u.link l with inProcess := some rep }) l (2 + payload.length) rep := by
  constructor
  · rw [State.link_setLink_self, h.frame l]
    simp [State.framed, LinkUnit.took, fillers]
  · rw [State.link_other_setLink, h.frame l.other, State.framed, State.link_shiftOut_ne (Link.other_ne l)]

/-- Settles O24. -/
theorem allOffSilencesNamedParts : Obligations.AllOffSilencesNamedParts := by
  intro s l mask hready hmask
  have hexec := exec_request_of_running (r := .allOff) hready (by decide) [byte mask.toNat]
  have hwork : Request.allOff.service l [byte mask.toNat] (s.framed l [byte mask.toNat]) =
      ((s.framed l [byte mask.toNat]).allOff mask,
        { status := .ok, nothing := !((partsOf mask).any (s.framed l [byte mask.toNat]).hasNotes) }) := by
    simp only [Request.service, allOffService, partMask?_byte hmask]
  have hposted : Posted (s.framed l [byte mask.toNat]) ((s.framed l [byte mask.toNat]).allOff mask) :=
    (safe_allOff (c := (s.framed l [byte mask.toNat]).known) (o := 0) mask).posted
  obtain ⟨hsilent, hkept⟩ := allOff_silences (s.framed l [byte mask.toNat]) mask
  have hnotes : SameButNotes (s.framed l [byte mask.toNat]) ((s.framed l [byte mask.toNat]).allOff mask) :=
    sameButNotes_allOff mask _
  have hcleared : Given.opensWindows s mask → _ := fun h =>
    allOff_cleared (s := s.framed l [byte mask.toNat]) (mask := mask) (by cases l <;> exact h)
  rw [nothing_allOff] at hwork
  rw [hwork] at hexec
  generalize (s.framed l [byte mask.toNat]).allOff mask = u at *
  unfold SameButNotes at hnotes
  refine ⟨_, _, hexec, fun p hp => ?_, fun p => ?_, ?_, ?_, ?_, ?_, tookPosting_of_posted hposted _, rfl, rfl, fun h => ?_⟩
  · obtain ⟨hvoices, hdeferred, hheld⟩ := hsilent p hp
    exact ⟨fun v => by simpa using hvoices v, by simpa using hdeferred, by simpa using hheld⟩
  · simpa [State.framed] using hkept p
  · rw [State.setLink_params, hnotes, State.framed, State.shiftOut_params]
  · rw [State.setLink_globals, hnotes, State.framed, State.shiftOut_globals]
  · rw [State.setLink_calibration, hnotes, State.framed, State.shiftOut_calibration]
  · rw [State.setLink_knobs, hnotes, State.framed, State.shiftOut_knobs]
  · obtain ⟨hframe, hcleared⟩ := hcleared h
    refine ⟨?_, ?_, ?_⟩
    · simpa only [State.setLink_voices, State.setLink_deferred, State.setLink_perf] using hframe.setLink_framed (l := l) _
    · obtain ⟨hserial, hglides, hdeferred, hvoice, hperf⟩ := hcleared
      refine ⟨by simpa [State.framed] using hserial, by simpa [State.framed] using hglides,
        by simpa [State.framed] using hdeferred, fun v => ?_, fun p => ?_⟩
      · rw [State.setLink_voice, hvoice]
        cases l <;> rfl
      · rw [State.setLink_perfOf, hperf]
        cases l <;> rfl
    · have hlinks : ∀ m, u.link m = (s.framed l [byte mask.toNat]).link m := hframe.link
      have hsilent : (fun p => !mask.getLsbD p.val || Given.silent (s.framed l [byte mask.toNat]) p) =
          fun p : PartId => !mask.getLsbD p.val || Given.silent s p := by cases l <;> rfl
      rw [hlinks, hsilent]
      constructor
      · rw [State.link_setLink_self]
        simp [State.framed, LinkUnit.took, fillers, okReply, Answer.toReply, Request.code]
      · rw [State.link_other_setLink, hlinks, State.framed, State.link_shiftOut_ne (Link.other_ne l)]

end Sys2Proof.Machine
end

section
/-! PROOFS. Theft, deferral and drop of a note of a POLY part (R13 to R16, R41). -/

namespace Sys2Proof.Machine

/-! ### Leaving mono sets, and damping (R15, R41) -/

theorem State.perfOf_leaveSet_self (s : State) (v : VoiceId) (p : PartId) :
    (s.leaveSet v p).perfOf p = Given.leftSet (s.perfOf p) (· == v) := by
  unfold State.leaveSet Given.leftSet
  by_cases hin : v ∈ (s.perfOf p).monoSet
  · have hne : (s.perfOf p).monoSet ≠ [] := List.ne_nil_of_mem hin
    rw [if_pos hin]
    dsimp only
    change _ = if _ ∧ (s.perfOf p).monoSet.filter (· != v) = [] then _ else _
    split
    · next h => rw [if_pos ⟨hne, h⟩, State.perfOf_clearHeld, if_pos rfl]
    · next h => 
      rw [if_neg fun h' => h h'.2, State.perfOf_setPerf_self]
      rfl
  · have hsame : (s.perfOf p).monoSet.filter (fun w => !(w == v)) = (s.perfOf p).monoSet :=
      List.filter_eq_self.mpr fun w hw => by simpa using ne_of_mem_of_not_mem hw hin
    rw [if_neg hin]
    dsimp only
    rw [hsame, if_neg fun h => h.1 h.2]

theorem State.perfOf_leaveSet_ne (s : State) (v : VoiceId) {p q : PartId} (h : q ≠ p) :
    (s.leaveSet v p).perfOf q = s.perfOf q := by
  unfold State.leaveSet
  split
  · dsimp only
    split
    · rw [State.perfOf_clearHeld, if_neg h]
    · rw [State.perfOf_setPerf_ne h]
  · rfl

theorem sameButPerf_leaveSet (s : State) (v : VoiceId) (p : PartId) : SameButPerf s (s.leaveSet v p) := by
  unfold State.leaveSet
  split
  · dsimp only
    split <;> rfl
  · rfl

/-- A voice leaves whatever mono set it is in. -/
theorem leaveSets_touches (v : VoiceId) (s : State) : SameButPerf s (s.leaveSets v)
    ∧ ∀ p, (s.leaveSets v).perfOf p = Given.leftSet (s.perfOf p) (· == v) := by
  have hfold := foldl_touches (get := State.perfOf) (f := fun _ x => Given.leftSet x (· == v))
    (step := State.leaveSet v) (SameButPerf s)
    (fun t p ht => by
      have h := sameButPerf_leaveSet t v p
      unfold SameButPerf at *
      exact h.trans (by rw [ht]))
    (fun t p _ => State.perfOf_leaveSet_self t v p) (fun t p q _ hq => State.perfOf_leaveSet_ne t v hq) nodup_allParts
    (s := s) rfl
  exact ⟨hfold.1, fun p => (hfold.2 p).trans (if_pos (mem_allParts p))⟩

theorem State.leaveSets_eq (v : VoiceId) (s : State) : s.leaveSets v =
    { s with perf := Vector.ofFn fun q => Given.leftSet (s.perfOf q) (· == v) } := by
  obtain ⟨hframe, hperf⟩ := leaveSets_touches v s
  have hrecords : (s.leaveSets v).perf = Vector.ofFn fun q => Given.leftSet (s.perfOf q) (· == v) :=
    Vector.ext fun i hi => by
      rw [Vector.getElem_ofFn]
      exact hperf ⟨i, hi⟩
  exact hframe.trans (by rw [hrecords])

theorem set_ofFn {α : Type} {n : Nat} (f : Fin n → α) (p : Fin n) (x : α) :
    (Vector.ofFn f).set p x = Vector.ofFn fun q => if q = p then x else f q := by
  refine Vector.ext fun i hi => ?_
  rw [Vector.getElem_ofFn, Vector.getElem_set]
  simp only [Vector.getElem_ofFn, Fin.ext_iff, eq_comm]

/-- A voice that holds a note and is stolen stands as `Given.stolen` says. -/
theorem State.damp_eq_stolen {s : State} {v : VoiceId} {n : Note} (h : (s.voice v).phase.note? = some n) (su : Successor) :
    s.damp v (some su) = Given.stolen s su.part su v := by
  rw [State.damp, h, State.leaveSets_eq, Given.stolen, h]
  simp only [State.bind, State.setPerf, State.setPhase, State.setVoice, State.perfOf]
  congr 1
  refine (set_ofFn _ _ _).trans (congrArg _ (funext fun q => ?_))
  split
  · next hq => 
    subst hq
    simp
  · rfl

/-! ### The records after a theft -/

section
variable (s : State) (p q : PartId) (su : Successor) (v w : VoiceId)

theorem State.perfOf_stolen : (Given.stolen s p su v).perfOf q =
    if q = p then
      { Given.leftSet (s.perfOf q) (· == v) with bound := (Given.leftSet (s.perfOf q) (· == v)).bound ++ [v] }
    else Given.leftSet (s.perfOf q) (· == v) := by
  simp [Given.stolen, State.perfOf]

theorem State.voice_stolen_ne (h : w ≠ v) : (Given.stolen s p su v).voice w = s.voice w :=
  State.voice_setVoice_ne h _ s

theorem State.voice_stolen_self {n : Note} (h : (s.voice v).phase.note? = some n) : (Given.stolen s p su v).voice v =
    { s.voice v with phase := .damping n (some su) false (s.global gDampTime) } := by
  refine (State.voice_setVoice_self v _ s).trans ?_
  rw [h]

end

theorem bound_leftSet (perf : Perf) (out : VoiceId → Bool) : (Given.leftSet perf out).bound = perf.bound := by
  unfold Given.leftSet
  dsimp only
  split <;> rfl

theorem leftSet_counters (perf : Perf) (c : Counters) (out : VoiceId → Bool) :
    Given.leftSet { perf with counters := c } out = { Given.leftSet perf out with counters := c } := by
  unfold Given.leftSet
  dsimp only
  split <;> rfl

/-! ### Deferring and dropping (R14) -/

theorem State.mayDefer_iff {s : State} {p : PartId} : s.mayDefer p = true ↔ Given.mayDefer s p := by
  simp [State.mayDefer, State.mayFreeSoon, Given.mayDefer, mem_allVoices, and_assoc]

theorem State.deferOrDrop_of_room {s : State} {p : PartId} (h : Given.mayDefer s p) (hroom : s.deferred.length < 8)
    (k : Key) (velocity : Nat) : s.deferOrDrop p k velocity = { s with deferred := s.deferred ++
        [{ part := p, key := k, velocity, arrival := s.timestamp, timeout := s.global gDeferTimeout }] } := by
  rw [State.deferOrDrop, State.mayDefer_iff.mpr h, if_pos (by simpa using hroom)]

theorem State.deferOrDrop_of_full {s : State} {p : PartId} (h : Given.mayDefer s p) (hfull : 8 ≤ s.deferred.length)
    (k : Key) (velocity : Nat) : s.deferOrDrop p k velocity = (s.countDropped p).postDropped p k 1 := by
  rw [State.deferOrDrop, State.mayDefer_iff.mpr h, if_neg (by simpa using hfull)]
  rfl

theorem State.deferOrDrop_of_not {s : State} {p : PartId} (h : ¬Given.mayDefer s p) (k : Key) (velocity : Nat) :
    s.deferOrDrop p k velocity = (s.countDropped p).postDropped p k 0 := by
  rw [State.deferOrDrop, Bool.eq_false_iff.mpr fun h' => h (State.mayDefer_iff.mp h'), if_neg (by simp)]
  rfl

/-! ### Requests that tell each link one notice -/

theorem LinkUnit.told_eq (yes : Bool) (n : Notice) (x : LinkUnit) :
    x.told yes n = { x with queue := if yes then x.queue.post n else x.queue } := by
  unfold LinkUnit.told
  split <;> rfl

/-- A request whose service tells each link of one notice leaves its reply and that notice. -/
theorem exec_of_told {s : State} {l : Link} (hready : s.ready l) {r : Request} (hr : r ≠ .resetDevice)
    {payload : List Byte} {u : State} {a : Answer} (hwork : r.service l payload (s.framed l payload) = (u, a))
    {yes : NoticeQueue → Bool} {n : Notice}
    (hlinks : ∀ m, u.link m = ((s.framed l payload).link m).told (yes ((s.framed l payload).link m).queue) n) :
    ∃ t, exec (commandOf l payload r) s = .next t
      ∧ (∃ x, t = u.setLink l x)
      ∧ t.link l = ((s.link l).took (2 + payload.length) (a.toReply r.code)).told (yes (s.link l).queue) n
      ∧ t.link l.other = (s.link l.other).told (yes (s.link l.other).queue) n := by
  refine ⟨_, exec_request_of_running hready hr payload, ?_, ?_, ?_⟩ <;> rw [hwork]
  · exact ⟨_, rfl⟩
  · rw [State.link_setLink_self, hlinks]
    simp only [LinkUnit.told_eq, LinkUnit.took, fillers, State.framed, State.link_shiftOut_self]
  · rw [State.link_other_setLink, hlinks, State.framed, State.link_shiftOut_ne (Link.other_ne l)]

theorem State.link_countDropped_post (s : State) (p : PartId) (k : Key) (reason : Nat) (m : Link) :
    ((s.countDropped p).postDropped p k reason).link m = (s.link m).told ((s.link m).queue.mask.getLsbD 0)
      { kind := .noteDropped, subject := p, value1 := k, value2 := reason, stamp := s.timestamp } :=
  State.link_post .noteDropped p k reason m (s.countDropped p)

theorem sameButLinks_post (kind : NoticeKind) (a b c : Nat) (s : State) : SameButLinks s (s.post kind a b c) := by
  unfold State.post
  exact sameButLinks_postWhere _ _ _ _ _ s

theorem sameButLinks_postAlso (named : Link → Bool) (kind : NoticeKind) (a b c : Nat) (s : State) :
    SameButLinks s (s.postAlso named kind a b c) := by
  unfold State.postAlso
  exact sameButLinks_postWhere _ _ _ _ _ s

/-- What a service that writes the parts' records and posts leaves. -/
theorem frame_of_told {s u : State} {l m : Link} {payload : List Byte} {p : PartId} {k : Key} {reason : Nat}
    (h : SameButPerf (s.framed m payload) u) (x : LinkUnit) :
    (u.postDropped p k reason).setLink l x = { s with
      perf := ((u.postDropped p k reason).setLink l x).perf, linkA := ((u.postDropped p k reason).setLink l x).linkA
      linkB := ((u.postDropped p k reason).setLink l x).linkB } := by
  have hpost : SameButLinks u (u.postDropped p k reason) := sameButLinks_post .noteDropped p k reason u
  generalize u.postDropped p k reason = w at *
  unfold SameButLinks at hpost
  unfold SameButPerf at h
  rw [hpost, h]
  cases l <;> cases m <;> rfl

/-- KEY_ON of a new key of a POLY part that is dropped. -/
theorem exec_keyOn_dropped {s : State} {l : Link} {p : PartId} {k : Key} (h : Given.freshPolyKey s l p k) {velocity : Nat}
    (hv : velocity < 256) {reason : Nat}
    (hdrop : ((s.framed l [byte p, byte k, byte velocity]).countIn p).allocate p k (max 1 (min 127 velocity))
      (Source.ofLink l) =
        (((s.framed l [byte p, byte k, byte velocity]).countIn p).countDropped p).postDropped p k reason) :
    let told (u : LinkUnit) : LinkUnit := u.told (u.queue.mask.getLsbD 0)
      { kind := .noteDropped, subject := p, value1 := k, value2 := reason, stamp := s.timestamp }
    let counters := (s.perfOf p).counters
    ∃ t, exec (.keyOn l [byte p, byte k, byte velocity]) s = .next t
      ∧ t = { s with perf := t.perf, linkA := t.linkA, linkB := t.linkB }
      ∧ t.perfOf p = { s.perfOf p with counters := { counters with
          notesIn := min 65535 (counters.notesIn + 1), dropped := min 65535 (counters.dropped + 1) } }
      ∧ (∀ q, q ≠ p → t.perfOf q = s.perfOf q)
      ∧ t.link l = told ((s.link l).took 5 (okReply 0x01 (decide (127 < velocity)) false []))
      ∧ t.link l.other = told (s.link l.other) := by
  intro told counters
  obtain ⟨hpoly, hfresh⟩ := h
  obtain ⟨hpass, hmode, hwaits⟩ := polyNote_framed hpoly l [byte p, byte k, byte velocity]
  have hwork : Request.keyOn.service l [byte p, byte k, byte velocity] (s.framed l [byte p, byte k, byte velocity]) = _ :=
    keyOnService_of_poly (l := l) hpass hmode hwaits hv
  rw [State.polyNote_of_fresh (by cases l <;> exact hfresh), hdrop] at hwork
  obtain ⟨t, hexec, ⟨x, ht⟩, hown, hother⟩ := exec_of_told (r := .keyOn) hpoly.1 (by decide) hwork
    (yes := fun q => q.mask.getLsbD 0)
    (n := { kind := .noteDropped, subject := p, value1 := k, value2 := reason, stamp := s.timestamp })
    fun m => (State.link_countDropped_post _ p k reason m).trans (by cases l <;> rfl)
  refine ⟨t, hexec, ?_, ?_, fun q hq => ?_, hown, hother⟩ <;> rw [ht]
  · exact frame_of_told (show SameButPerf (s.framed l [byte p, byte k, byte velocity])
      (((s.framed l [byte p, byte k, byte velocity]).countIn p).countDropped p) from rfl) x
  · rw [State.setLink_perfOf, State.postDropped_perfOf, State.countDropped, State.perfOf_countWith, if_pos rfl,
      State.countIn, State.perfOf_countWith, if_pos rfl, State.framed, State.shiftOut_perfOf]
    rfl
  · rw [State.setLink_perfOf, State.postDropped_perfOf, State.countDropped, State.perfOf_countWith, if_neg hq,
      State.countIn, State.perfOf_countWith, if_neg hq, State.framed, State.shiftOut_perfOf]

/-- Settles O17. -/
theorem keyOnStealsDefersOrDrops : Obligations.KeyOnStealsDefersOrDrops := by
  intro s l p k velocity hv given command reply perf counters steals drops
  refine ⟨fun v n h => ?_, fun ⟨⟨hpoly, hfresh⟩, hfree, hnone⟩ => ?_⟩
  · have hpoly : Given.polyNote s l p k ∧ (∀ v, ¬((s.voice v).gatedFor p = true ∧ (s.voice v).key = k.val))
        ∧ (s.voice v).phase.note? = some n := by
      rcases h with ⟨hn, -, hpoly, hfresh⟩ | ⟨hn, -, ⟨hpoly, hfresh⟩, -, -⟩ <;> exact ⟨hpoly, hfresh, hn⟩
    obtain ⟨hpoly, hfresh, hn⟩ := hpoly
    have hnote : ((s.framed l [byte p, byte k, byte velocity]).countIn p).polyNote p k given (Source.ofLink l) =
        Given.stolen ((s.framed l [byte p, byte k, byte velocity]).countIn p) p
          { part := p, key := k, velocity := given, source := Source.ofLink l, kind := .note } v := by
      rw [State.polyNote_of_fresh (by cases l <;> exact hfresh)]
      rcases h with ⟨-, htakes, -⟩ | ⟨-, hvictim, -, hfree, hprefers⟩
      · rw [State.allocate_of_released (v := v) (by cases l <;> exact htakes),
          State.damp_eq_stolen (n := n) (by cases l <;> exact hn)]
      · rw [State.allocate_of_victim (v := v) (by cases l <;> exact hfree) (by cases l <;> exact hvictim)
          (by cases l <;> exact hprefers), State.damp_eq_stolen (n := n) (by cases l <;> exact hn)]
    obtain ⟨t, hexec, ht, htook⟩ := exec_keyOn_of_poly hpoly hv hnote fun m => rfl
    refine ⟨t, hexec, ?_, ?_, fun w hw => ?_, ?_, fun q hq => ?_, htook⟩ <;> rw [ht]
    · cases l <;> rfl
    · rw [State.setLink_voice, State.voice_stolen_self _ _ _ _ (n := n) (by cases l <;> exact hn)]
      cases l <;> rfl
    · rw [State.setLink_voice, State.voice_stolen_ne _ _ _ _ _ hw]
      cases l <;> rfl
    · rw [State.setLink_perfOf, State.perfOf_stolen, if_pos rfl, bound_leftSet, State.countIn, State.perfOf_countWith,
        if_pos rfl, leftSet_counters, State.framed, State.shiftOut_perfOf]
      rfl
    · rw [State.setLink_perfOf, State.perfOf_stolen, if_neg hq, State.countIn, State.perfOf_countWith, if_neg hq,
        State.framed, State.shiftOut_perfOf]
  · have hnote : ((s.framed l [byte p, byte k, byte velocity]).countIn p).allocate p k given (Source.ofLink l) = _ :=
      State.allocate_of_none (by cases l <;> exact hfree) (by cases l <;> exact hnone) _ _
    refine ⟨fun hdefers hroom => ?_, fun hdefers hfull => ?_, fun hdefers => ?_⟩
    · obtain ⟨t, hexec, ht, htook⟩ := exec_keyOn_of_poly hpoly hv
        (((State.polyNote_of_fresh (by cases l <;> exact hfresh) _ _).trans hnote).trans
          (State.deferOrDrop_of_room (by cases l <;> exact hdefers) (by cases l <;> exact hroom) _ _)) fun m => rfl
      refine ⟨t, hexec, ?_, ?_, fun q hq => ?_, htook⟩ <;> rw [ht]
      · cases l <;> rfl
      · rw [State.setLink_perfOf]
        change ((s.framed l [byte p, byte k, byte velocity]).countIn p).perfOf p = _
        rw [State.countIn, State.perfOf_countWith, if_pos rfl, State.framed, State.shiftOut_perfOf]
        rfl
      · rw [State.setLink_perfOf]
        change ((s.framed l [byte p, byte k, byte velocity]).countIn p).perfOf q = _
        rw [State.countIn, State.perfOf_countWith, if_neg hq, State.framed, State.shiftOut_perfOf]
    · exact exec_keyOn_dropped ⟨hpoly, hfresh⟩ hv (hnote.trans
        (State.deferOrDrop_of_full (by cases l <;> exact hdefers) (by cases l <;> exact hfull) _ _))
    · exact exec_keyOn_dropped ⟨hpoly, hfresh⟩ hv (hnote.trans
        (State.deferOrDrop_of_not (by cases l <;> exact hdefers) _ _))

end Sys2Proof.Machine
end

section
/-! PROOFS. The mono set of a MONO or UNISON part (R33 to R41): the selected key, and how the set follows, is refreshed
or dissolves. -/

namespace Sys2Proof.Machine

/-! ### The selection (R34) -/

theorem foldl_pick_mem {α : Type} (better : α → α → Bool) (xs : List α) (x : α) :
    xs.foldl (fun best y => if better y best then y else best) x ∈ x :: xs := by
  induction xs generalizing x with
  | nil => simp
  | cons y ys ih =>
    rw [List.foldl_cons]
    rcases List.mem_cons.mp (ih (if better y x then y else x)) with h | h
    · rw [h]
      split <;> simp
    · simp [h]

/-- The pick by a strict order on keys is bettered by no entry. -/
theorem foldl_pick_best {α : Type} (key : α → Int) (xs : List α) (x : α) :
    ∀ y ∈ x :: xs, key (xs.foldl (fun best y => if decide (key y < key best) then y else best) x) ≤ key y := by
  induction xs generalizing x with
  | nil => simp
  | cons z zs ih =>
    intro y hy
    rw [List.foldl_cons]
    have hhead := ih (if decide (key z < key x) then z else x) _ (List.mem_cons_self ..)
    rcases List.mem_cons.mp hy with rfl | hy
    · refine le_trans hhead ?_
      split
      · next hlt => exact le_of_lt (of_decide_eq_true hlt)
      · exact le_refl _
    · rcases List.mem_cons.mp hy with rfl | hy
      · refine le_trans hhead ?_
        split
        · exact le_refl _
        · next hlt => simpa using hlt
      · exact ih _ y (List.mem_cons_of_mem _ hy)

theorem lowestKey_eq {held : List HeldKey} {e : HeldKey} (he : e ∈ held) (h : ∀ x ∈ held, x ≠ e → e.key < x.key) :
    lowestKey held = some e := by
  cases held with
  | nil => cases he
  | cons x xs =>
    have hmem := foldl_pick_mem (fun x best : HeldKey => decide (x.key < best.key)) xs x
    have hbest := foldl_pick_best (fun y : HeldKey => (y.key.val : Int)) xs x e he
    have hsame : (xs.foldl (fun best x : HeldKey => if decide ((x.key.val : Int) < best.key.val) then x else best) x) =
        xs.foldl (fun best x : HeldKey => if decide (x.key < best.key) then x else best) x := by
      simp only [Int.ofNat_lt, Fin.lt_def]
    rw [hsame] at hbest
    have : lowestKey (x :: xs) =
        some (xs.foldl (fun best x : HeldKey => if decide (x.key < best.key) then x else best) x) := by
      simp [lowestKey]
    rw [this]
    by_contra hne
    have hlt := h _ hmem fun heq => hne (by rw [heq])
    rw [Fin.lt_def] at hlt
    omega

theorem highestKey_eq {held : List HeldKey} {e : HeldKey} (he : e ∈ held) (h : ∀ x ∈ held, x ≠ e → x.key < e.key) :
    highestKey held = some e := by
  cases held with
  | nil => cases he
  | cons x xs =>
    have hmem := foldl_pick_mem (fun x best : HeldKey => decide (best.key < x.key)) xs x
    have hbest := foldl_pick_best (fun y : HeldKey => -(y.key.val : Int)) xs x e he
    have hsame : (xs.foldl (fun best x : HeldKey => if decide (-(x.key.val : Int) < -best.key.val) then x else best) x) =
        xs.foldl (fun best x : HeldKey => if decide (best.key < x.key) then x else best) x := by
      simp only [Int.neg_lt_neg_iff, Int.ofNat_lt, Fin.lt_def]
    rw [hsame] at hbest
    have heq : highestKey (x :: xs) =
        some (xs.foldl (fun best x : HeldKey => if decide (best.key < x.key) then x else best) x) := by
      simp [highestKey]
    rw [heq]
    by_contra hne
    have hlt := h _ hmem fun heq => hne (by rw [heq])
    rw [Fin.lt_def] at hlt
    omega

/-- The entry that KEY_PRIORITY selects is the model's selection. -/
theorem selectEntry_of_selects {priority : Nat} {held : List HeldKey} {e : HeldKey}
    (h : Given.selects priority held e) : selectEntry priority held = some e := by
  unfold Given.selects at h
  unfold selectEntry
  split
  · exact h
  · exact lowestKey_eq h.1 h.2
  · next h0 h1 =>
    split at h
    · exact absurd rfl h0
    · exact absurd rfl h1
    · exact highestKey_eq h.1 h.2

/-! ### A set that takes serials one after the other (R37, R38) -/

/-- Each step writes the voice and the glide of its own place, with the serial that stands then, and takes one serial
when its voice counts. -/
def takesSerials (f : Stamp → Voice → Voice) (g : Voice → Glide → Glide) (counts : Voice → Bool) (s : State)
    (v : VoiceId) : State :=
  { s with
    voices := s.voices.set v (f s.serial (s.voice v))
    glides := s.glides.set v (g (s.voice v) (s.glide v))
    serial := s.serial + if counts (s.voice v) then 1 else 0 }

/-- The voices, the glides and the serial counter alone differ. -/
def SameButSound (s t : State) : Prop := t = { s with voices := t.voices, glides := t.glides, serial := t.serial }

theorem SameButSound.trans {s t u : State} (h : SameButSound s t) (k : SameButSound t u) : SameButSound s u := by
  unfold SameButSound at *
  exact k.trans (by rw [h])

theorem foldl_takesSerials {f : Stamp → Voice → Voice} {g : Voice → Glide → Glide} {counts : Voice → Bool}
    (hfree : ∀ a b x, counts x = false → f a x = f b x) {set : List VoiceId} (hset : set.Nodup) (s : State) :
    let t := set.foldl (takesSerials f g counts) s
    let gated := set.filter fun v => counts (s.voice v)
    SameButSound s t ∧ t.serial = s.serial + BitVec.ofNat 16 gated.length
    ∧ (∀ v, v ∉ set → t.voice v = s.voice v ∧ t.glide v = s.glide v)
    ∧ ∀ v ∈ set, t.voice v = f (s.serial + BitVec.ofNat 16 (gated.idxOf v)) (s.voice v)
      ∧ t.glide v = g (s.voice v) (s.glide v) := by
  induction set generalizing s with
  | nil => exact ⟨rfl, by simp, fun v _ => ⟨rfl, rfl⟩, fun v h => by cases h⟩
  | cons w ws ih =>
    obtain ⟨hw, hws⟩ := List.nodup_cons.mp hset
    intro t gated
    have hself : (takesSerials f g counts s w).voice w = f s.serial (s.voice w)
        ∧ (takesSerials f g counts s w).glide w = g (s.voice w) (s.glide w) :=
      ⟨State.voice_setVoice_self w _ s, State.glide_setGlide_self w _ s⟩
    have hne (v : VoiceId) (hv : v ≠ w) : (takesSerials f g counts s w).voice v = s.voice v
        ∧ (takesSerials f g counts s w).glide v = s.glide v :=
      ⟨State.voice_setVoice_ne hv _ s, State.glide_setGlide_ne hv _ s⟩
    obtain ⟨hframe, hserial, hout, hin⟩ := ih hws (takesSerials f g counts s w)
    have hgated : (ws.filter fun v => counts ((takesSerials f g counts s w).voice v)) =
        ws.filter fun v => counts (s.voice v) :=
      List.filter_congr fun v hv => by rw [(hne v (ne_of_mem_of_not_mem hv hw)).1]
    have hstep : (takesSerials f g counts s w).serial = s.serial + if counts (s.voice w) then 1 else 0 := rfl
    rw [hgated] at hserial hin
    rw [hstep] at hserial hin
    refine ⟨SameButSound.trans (show SameButSound s (takesSerials f g counts s w) from rfl) hframe, ?_, fun v hv => ?_,
      fun v hv => ?_⟩
    · refine hserial.trans ?_
      simp only [gated, List.filter_cons]
      split <;> simp [BitVec.ofNat_add, add_assoc, add_comm]
    · obtain ⟨hvw, hvws⟩ : v ≠ w ∧ v ∉ ws := by simpa using hv
      exact ⟨(hout v hvws).1.trans (hne v hvw).1, (hout v hvws).2.trans (hne v hvw).2⟩
    · by_cases hvw : v = w
      · subst hvw
        obtain ⟨hvoice, hglide⟩ := hout v hw
        refine ⟨(hvoice.trans hself.1).trans ?_, hglide.trans hself.2⟩
        by_cases hc : counts (s.voice v) = true
        · simp [gated, hc]
        · exact hfree _ _ _ (Bool.eq_false_iff.mpr hc)
      · obtain ⟨hvoice, hglide⟩ := hin v ((List.mem_cons.mp hv).resolve_left hvw)
        refine ⟨hvoice.trans ?_, hglide.trans (by rw [(hne v hvw).1, (hne v hvw).2])⟩
        rw [(hne v hvw).1]
        congr 1
        simp only [gated, List.filter_cons]
        split
        · rw [List.idxOf_cons_ne _ (Ne.symm hvw)]
          simp [BitVec.ofNat_add, add_assoc, add_comm]
        · simp

/-! ### Following and refreshing (R37, R38) -/

/-- A voice of a part's set after it followed entry e. -/
def Voice.followed (p : PartId) (e : HeldKey) (legato : Nat) (serial : Stamp) (x : Voice) : Voice :=
  match x.phase with
  | .gated n sus pulse =>
    if legato = 0 then
      { x with
        phase := .gated { key := e.key, velocity := e.velocity } sus (some pulseTime)
        serial := serial + 1, clamped := false }
    else { x with phase := .gated { n with key := e.key } sus pulse, clamped := false }
  | .damping n (some su) dp timer =>
    if su.kind = .set ∧ su.part = p then { x with phase := .damping n (some (su.follow e)) dp timer } else x
  | _ => x

/-- The glide of a voice that followed a key, with the rate of the voice's part (R162). -/
def Glide.followed (k : Key) (rate : PartId → Nat) (x : Voice) (g : Glide) : Glide :=
  if x.phase.isGated then
    if rate x.part = 0 ∨ g.position = 256 * k.val then { position := 256 * k.val, target := none }
    else { g with target := some (256 * k.val) }
  else g

/-- A step that leaves its voice as it found it. -/
theorem takesSerials_of_rest {f : Stamp → Voice → Voice} {g : Voice → Glide → Glide} {counts : Voice → Bool} {s : State}
    {v : VoiceId} (hg : g (s.voice v) (s.glide v) = s.glide v) (hc : counts (s.voice v) = false) :
    takesSerials f g counts s v = s.setVoice v (f s.serial (s.voice v)) := by
  have h : takesSerials f g counts s v =
      (({ s with serial := s.serial + if counts (s.voice v) then 1 else 0 }).setVoice v (f s.serial (s.voice v))).setGlide v
        (g (s.voice v) (s.glide v)) := rfl
  rw [h, hg, hc]
  simp [State.setGlide, State.glide, State.setVoice]

/-- The glide of a sounding voice that was written with a new key. -/
theorem State.turnGlide_setVoice {s : State} {v : VoiceId} {x : Voice} (hpart : x.part = (s.voice v).part)
    (hgated : (s.voice v).phase.isGated = true) (k : Key) : (s.setVoice v x).turnGlide v k =
      (s.setVoice v x).setGlide v ((s.glide v).followed k (fun q => s.param q pGlideRate) (s.voice v)) := by
  rw [State.turnGlide, Glide.followed, if_pos hgated, State.voice_setVoice_self, hpart]
  change (if s.param _ _ = 0 ∨ (s.glide v).position = _ then _ else _) = _
  split <;> rfl

theorem State.followVoice_eq (p : PartId) (e : HeldKey) (s : State) (v : VoiceId) : s.followVoice p e v =
    takesSerials (Voice.followed p e (s.param p pLegato)) (fun x g => g.followed e.key (fun q => s.param q pGlideRate) x)
      (fun x => x.phase.isGated && s.param p pLegato == 0) s v := by
  unfold State.followVoice
  cases hphase : (s.voice v).phase with
  | gated n sus pulse =>
    dsimp only
    have hgated : (s.voice v).phase.isGated = true := by rw [hphase]; rfl
    by_cases hlegato : s.param p pLegato = 0
    · rw [if_pos hlegato]
      refine (State.turnGlide_setVoice (s := { s with serial := s.serial + 1 }) (x := { s.voice v with
        phase := .gated { key := e.key, velocity := e.velocity } sus (some pulseTime)
        serial := s.serial + 1, clamped := false }) rfl hgated e.key).trans ?_
      simp only [takesSerials, Voice.followed, hphase, hlegato, VoicePhase.isGated]
      rfl
    · rw [if_neg hlegato]
      refine (State.turnGlide_setVoice (x := { s.voice v with
        phase := .gated { n with key := e.key } sus pulse, clamped := false }) rfl hgated e.key).trans ?_
      simp [takesSerials, Voice.followed, hphase, hlegato, VoicePhase.isGated, State.setVoice, State.setGlide]
  | damping n su dp timer =>
    rw [takesSerials_of_rest (by simp [Glide.followed, hphase, VoicePhase.isGated]) (by simp [hphase, VoicePhase.isGated])]
    cases su with
    | none => simp [Voice.followed, hphase, State.setVoice_voice]
    | some su =>
      dsimp only [Voice.followed]
      rw [hphase]
      dsimp only
      split
      · rfl
      · exact (State.setVoice_voice v s).symm
  | _ =>
    rw [takesSerials_of_rest (by simp [Glide.followed, hphase, VoicePhase.isGated]) (by simp [hphase, VoicePhase.isGated])]
    simp [Voice.followed, hphase, State.setVoice_voice]

/-- A voice of a part's set after entry e repeated its selected key. -/
def Voice.refreshed (p : PartId) (e : HeldKey) (serial : Stamp) (x : Voice) : Voice :=
  match x.phase with
  | .gated n sus _ =>
    { x with phase := .gated { n with velocity := e.velocity } sus (some pulseTime), serial := serial + 1 }
  | .damping n (some su) dp timer =>
    if su.kind = .set ∧ su.part = p then
      { x with phase := .damping n (some { su with velocity := e.velocity, source := e.source }) dp timer }
    else x
  | _ => x

theorem State.refreshVoice_eq (p : PartId) (e : HeldKey) (s : State) (v : VoiceId) : s.refreshVoice p e v =
    takesSerials (Voice.refreshed p e) (fun _ g => g) (fun x => x.phase.isGated) s v := by
  unfold State.refreshVoice
  cases hphase : (s.voice v).phase with
  | gated n sus pulse =>
    simp [State.retrigger, takesSerials, Voice.refreshed, hphase, VoicePhase.isGated, State.setVoice, State.glide]
  | damping n su dp timer =>
    rw [takesSerials_of_rest rfl (by simp [hphase, VoicePhase.isGated])]
    cases su with
    | none => simp [Voice.refreshed, hphase, State.setVoice_voice]
    | some su =>
      dsimp only [Voice.refreshed]
      rw [hphase]
      dsimp only
      split
      · rfl
      · exact (State.setVoice_voice v s).symm
  | _ =>
    rw [takesSerials_of_rest rfl (by simp [hphase, VoicePhase.isGated])]
    simp [Voice.refreshed, hphase, State.setVoice_voice]

/-- A fold of steps that each read a parameter, over steps with that parameter's value. -/
theorem foldl_congr_of_frame {step step' : State → VoiceId → State} {s : State}
    (hsame : ∀ t v, SameButSound s t → step t v = step' t v) (hframe : ∀ t v, SameButSound s t → SameButSound s (step' t v))
    (vs : List VoiceId) {t : State} (ht : SameButSound s t) : vs.foldl step t = vs.foldl step' t := by
  induction vs generalizing t with
  | nil => rfl
  | cons v vs ih =>
    rw [List.foldl_cons, List.foldl_cons, hsame t v ht]
    exact ih (hframe t v ht)

theorem SameButSound.takesSerials {f : Stamp → Voice → Voice} {g : Voice → Glide → Glide} {counts : Voice → Bool}
    {s t : State} (h : SameButSound s t) (v : VoiceId) : SameButSound s (takesSerials f g counts t v) :=
  h.trans (show SameButSound t (Machine.takesSerials f g counts t v) from rfl)

theorem SameButSound.param {s t : State} (h : SameButSound s t) (p : PartId) (i : ParamId) :
    t.param p i = s.param p i := by
  unfold SameButSound at h
  rw [h]
  rfl

theorem SameButSound.perfOf {s t : State} (h : SameButSound s t) (p : PartId) : t.perfOf p = s.perfOf p := by
  unfold SameButSound at h
  rw [h]
  rfl

/-- What a set leaves that follows an entry. -/
theorem foldl_followVoice (p : PartId) (e : HeldKey) (set : List VoiceId) (s : State) :
    set.foldl (State.followVoice p e) s = set.foldl (takesSerials (Voice.followed p e (s.param p pLegato))
      (fun x g => g.followed e.key (fun q => s.param q pGlideRate) x)
      (fun x => x.phase.isGated && s.param p pLegato == 0)) s :=
  foldl_congr_of_frame (fun t v h => by simp only [State.followVoice_eq, h.param]) (fun t v h => h.takesSerials v) set
    (s := s) rfl

theorem foldl_refreshVoice (p : PartId) (e : HeldKey) (set : List VoiceId) (s : State) :
    set.foldl (State.refreshVoice p e) s =
      set.foldl (takesSerials (Voice.refreshed p e) (fun _ g => g) fun x => x.phase.isGated) s :=
  foldl_congr_of_frame (fun t v _ => State.refreshVoice_eq p e t v) (fun _ v h => h.takesSerials v) set (s := s) rfl

theorem Voice.followed_free (p : PartId) (e : HeldKey) (legato : Nat) (a b : Stamp) (x : Voice)
    (h : (x.phase.isGated && legato == 0) = false) : x.followed p e legato a = x.followed p e legato b := by
  unfold Voice.followed
  cases hphase : x.phase with
  | gated n sus pulse =>
    have hlegato : legato ≠ 0 := by simpa [hphase, VoicePhase.isGated] using h
    simp [hlegato]
  | damping n su dp timer => cases su <;> rfl
  | _ => rfl

theorem Voice.refreshed_free (p : PartId) (e : HeldKey) (a b : Stamp) (x : Voice) (h : x.phase.isGated = false) :
    x.refreshed p e a = x.refreshed p e b := by
  unfold Voice.refreshed
  cases hphase : x.phase with
  | gated n sus pulse => simp [hphase, VoicePhase.isGated] at h
  | damping n su dp timer => cases su <;> rfl
  | _ => rfl

/-! ### The selection made again (R34, R37) -/

theorem State.reselect_of_same {s : State} {p : PartId} {e : HeldKey} (h : s.selection p = some e)
    (hsame : (s.perfOf p).selected = some e.key) : s.reselect p = s := by
  simp only [State.reselect, h, if_pos hsame]

theorem State.reselect_of_other {s : State} {p : PartId} {e : HeldKey} (h : s.selection p = some e)
    (hother : (s.perfOf p).selected ≠ some e.key) : s.reselect p =
      (s.perfOf p).monoSet.foldl (takesSerials (Voice.followed p e (s.param p pLegato))
        (fun x g => g.followed e.key (fun q => s.param q pGlideRate) x)
        (fun x => x.phase.isGated && s.param p pLegato == 0)) (s.setPerf p { s.perfOf p with selected := some e.key }) := by
  simp only [State.reselect, h, if_neg hother]
  exact foldl_followVoice p e _ _

theorem selection_isSome {s : State} {p : PartId} (h : (s.perfOf p).held ≠ []) : ∃ e, s.selection p = some e := by
  unfold State.selection selectEntry
  obtain ⟨e, es, hheld⟩ := List.exists_cons_of_ne_nil h
  rw [hheld]
  split
  · exact ⟨_, List.getLast?_eq_some_getLast (by simp)⟩
  · exact ⟨_, rfl⟩
  · exact ⟨_, rfl⟩

theorem phase_of_goodSet {s : State} {p : PartId} (h : Given.goodSet s p) {v : VoiceId} (hv : v ∈ (s.perfOf p).monoSet) :
    (∃ n sus pulse, (s.voice v).phase = .gated n sus pulse ∧ (s.voice v).part = p)
      ∨ ∃ n su dp timer, (s.voice v).phase = .damping n (some su) dp timer ∧ su.kind = .set ∧ su.part = p := by
  rcases h.2 v hv with hgated | hwaits
  · left
    have hpart := Voice.part_of_gatedFor hgated
    cases hphase : (s.voice v).phase with
    | gated n sus pulse => exact ⟨n, sus, pulse, rfl, hpart⟩
    | _ => simp [Voice.gatedFor, hphase, VoicePhase.isGated] at hgated
  · right
    cases hphase : (s.voice v).phase with
    | damping n su dp timer =>
      cases su with
      | none => simp [hphase, VoicePhase.successor?] at hwaits
      | some su =>
        obtain ⟨hpart, hkind⟩ : su.part = p ∧ su.kind = .set := by
          simpa [hphase, VoicePhase.successor?] using hwaits
        exact ⟨n, su, dp, timer, rfl, hkind, hpart⟩
    | _ => simp [hphase, VoicePhase.successor?] at hwaits

/-- A selection made again is followed by the set. -/
theorem setFollows_reselect {s : State} {p : PartId} (hset : Given.goodSet s p) (hheld : (s.perfOf p).held ≠ []) :
    Given.setFollows s (s.reselect p) p (s.param p pKeyPriority) (s.perfOf p).held (s.perfOf p) := by
  have hselected {e : HeldKey} (he : Given.selects (s.param p pKeyPriority) (s.perfOf p).held e) :
      s.selection p = some e := selectEntry_of_selects he
  obtain ⟨e, he⟩ := selection_isSome hheld
  by_cases hsame : (s.perfOf p).selected = some e.key
  · rw [State.reselect_of_same he hsame]
    refine ⟨fun _ _ => rfl, fun _ _ => ⟨rfl, rfl⟩, fun h => absurd h hheld, fun e' he' => ?_⟩
    obtain rfl : e = e' := Option.some.inj (he.symm.trans (hselected he'))
    refine ⟨?_, fun _ => ⟨⟨rfl, rfl⟩, rfl⟩, fun h => absurd hsame h⟩
    rw [← hsame]
  · rw [State.reselect_of_other he hsame]
    obtain ⟨hframe, hserial, hout, hin⟩ := foldl_takesSerials (Voice.followed_free p e (s.param p pLegato))
      (g := fun x g => g.followed e.key (fun q => s.param q pGlideRate) x) hset.1
      (s.setPerf p { s.perfOf p with selected := some e.key })
    refine ⟨fun q hq => ?_, hout, fun h => absurd h hheld, fun e' he' => ?_⟩
    · rw [hframe.perfOf, State.perfOf_setPerf_ne hq]
    · obtain rfl : e = e' := Option.some.inj (he.symm.trans (hselected he'))
      refine ⟨?_, fun h => absurd h hsame, fun _ => ⟨?_, fun v hv => ?_⟩⟩
      · rw [hframe.perfOf, State.perfOf_setPerf_self]
      · refine hserial.trans (congrArg (s.serial + ·) ?_)
        by_cases hlegato : s.param p pLegato = 0
        · rw [if_pos hlegato]
          refine congrArg (fun vs => BitVec.ofNat 16 (List.length vs)) (List.filter_congr fun v _ => ?_)
          rw [hlegato, beq_self_eq_true, Bool.and_true]
          rfl
        · rw [if_neg hlegato, beq_false_of_ne hlegato]
          simp only [Bool.and_false, List.filter_false]
          rfl
      · obtain ⟨hvoice, hglide⟩ := hin v hv
        refine ⟨hvoice.trans ?_, hglide.trans ?_⟩
        · change (s.voice v).followed p e (s.param p pLegato) _ = _
          rcases phase_of_goodSet hset hv with ⟨n, sus, pulse, hphase, -⟩ | ⟨n, su, dp, timer, hphase, hkind, hpart⟩
          · unfold Voice.followed
            rw [hphase]
            dsimp only
            by_cases hlegato : s.param p pLegato = 0
            · rw [if_pos hlegato, if_pos hlegato]
              rw [hlegato, show (fun v => (((s.setPerf p { s.perfOf p with selected := some e.key }).voice v).phase.isGated
                && (0 : Nat) == 0)) = fun v => (s.voice v).phase.isGated from funext fun v => Bool.and_true _]
              rw [BitVec.ofNat_add, ← BitVec.add_assoc]
              rfl
            · rw [if_neg hlegato, if_neg hlegato]
          · unfold Voice.followed
            rw [hphase]
            exact if_pos ⟨hkind, hpart⟩
        · change (s.glide v).followed e.key (fun q => s.param q pGlideRate) (s.voice v) = _
          unfold Glide.followed
          split
          · next hgated =>
            have hpart : (s.voice v).part = p := by
              rcases phase_of_goodSet hset hv with ⟨n, sus, pulse, -, hpart⟩ | ⟨n, su, dp, timer, hphase, -⟩
              · exact hpart
              · simp [hphase, VoicePhase.isGated] at hgated
            rw [hpart]
          · rfl

theorem State.selected_refresh {s : State} {p : PartId} {e : HeldKey}
    (h : (s.perfOf p).selected = some e.key ∧ s.param p pLegato = 0) : s.refreshSet p e =
      (s.perfOf p).monoSet.foldl (takesSerials (Voice.refreshed p e) (fun _ g => g) fun x => x.phase.isGated) s := by
  rw [State.refreshSet, if_pos h, foldl_refreshVoice]

/-- A set takes a repeated selected key. -/
theorem setRefreshes_refreshSet {s : State} {p : PartId} {e : HeldKey} (hset : Given.goodSet s p)
    (h : (s.perfOf p).selected = some e.key ∧ s.param p pLegato = 0) :
    Given.setRefreshes s (s.refreshSet p e) p e (s.perfOf p) := by
  rw [State.selected_refresh h]
  obtain ⟨hframe, hserial, hout, hin⟩ := foldl_takesSerials (Voice.refreshed_free p e) (g := fun _ g => g) hset.1 s
  refine ⟨hframe.perfOf p, fun q _ => hframe.perfOf q, hserial, ?_, fun v hv => (hout v hv).1, fun v hv => ?_⟩
  · refine Vector.ext fun i hi => ?_
    by_cases hv : (⟨i, hi⟩ : VoiceId) ∈ (s.perfOf p).monoSet
    · exact (hin _ hv).2
    · exact (hout _ hv).2
  · refine (hin v hv).1.trans ?_
    rcases phase_of_goodSet hset hv with ⟨n, sus, pulse, hphase, -⟩ | ⟨n, su, dp, timer, hphase, hkind, hpart⟩
    · unfold Voice.refreshed
      rw [hphase, BitVec.ofNat_add, ← BitVec.add_assoc]
      rfl
    · unfold Voice.refreshed
      rw [hphase]
      exact if_pos ⟨hkind, hpart⟩

/-! ### Dissolving a set (R40) -/

/-- The voice waits with a SET successor of part p. -/
def Voice.waitsForSet (p : PartId) (x : Voice) : Bool :=
  x.phase.successor?.any fun su => su.part == p && su.kind == .set

/-- A fold whose steps take their places out of the binding order of part p. -/
theorem foldl_unbinds {step : State → VoiceId → State} {p : PartId} {test : Voice → Bool}
    (hstep : ∀ s v, (step s v).perfOf p = if test (s.voice v) = true then
      { s.perfOf p with bound := (s.perfOf p).bound.filter (· != v) } else s.perfOf p)
    (hother : ∀ s v w, w ≠ v → (step s v).voice w = s.voice w) {vs : List VoiceId} (hnodup : vs.Nodup) (s : State) :
    (vs.foldl step s).perfOf p = { s.perfOf p with
      bound := (s.perfOf p).bound.filter fun v => !(vs.contains v && test (s.voice v)) } := by
  induction vs generalizing s with
  | nil => simp
  | cons v vs ih =>
    obtain ⟨hv, hvs⟩ := List.nodup_cons.mp hnodup
    rw [List.foldl_cons, ih hvs, hstep]
    by_cases ht : test (s.voice v) = true
    · rw [if_pos ht]
      dsimp only
      congr 1
      rw [List.filter_filter]
      refine List.filter_congr fun w _ => ?_
      by_cases hw : w = v
      · subst hw
        simp [ht]
      · rw [hother s v w hw]
        simp [hw]
    · rw [if_neg ht]
      dsimp only
      congr 1
      refine List.filter_congr fun w _ => ?_
      by_cases hw : w = v
      · subst hw
        simp [hv, ht]
      · rw [hother s v w hw]
        simp [hw]

/-- One voice of a set that is dissolved. -/
def dissolveVoice (p : PartId) (s : State) (v : VoiceId) : State :=
  match (s.voice v).phase with
  | .gated _ _ _ => s.release v
  | .damping _ (some su) _ _ => if su.kind = .set ∧ su.part = p then s.cancelSuccessor v else s
  | _ => s

theorem State.dissolve_eq (p : PartId) (s : State) :
    s.dissolve p = ((s.perfOf p).monoSet.foldl (dissolveVoice p) s).clearHeld p := rfl

/-- The voice after the set that it was in was dissolved. -/
def Voice.dissolved (p : PartId) (start : Stamp) (window : PartId → Nat) (x : Voice) : Voice :=
  match x.phase with
  | .gated n _ _ => { x with phase := .released n start (window x.part) }
  | .damping n (some su) dp timer =>
    if su.kind = .set ∧ su.part = p then { x with phase := .damping n none dp timer } else x
  | _ => x

theorem dissolveVoice_touches (p : PartId) (s : State) (v : VoiceId) : SameButQueue s (dissolveVoice p s v)
    ∧ (dissolveVoice p s v).deferred = s.deferred
    ∧ (dissolveVoice p s v).voice v = (s.voice v).dissolved p s.timestamp (fun q => s.param q pReleaseWindow)
    ∧ (∀ w, w ≠ v → (dissolveVoice p s v).voice w = s.voice w)
    ∧ (∀ q, q ≠ p → (dissolveVoice p s v).perfOf q = s.perfOf q)
    ∧ (dissolveVoice p s v).perfOf p = if (s.voice v).waitsForSet p = true then
        { s.perfOf p with bound := (s.perfOf p).bound.filter (· != v) } else s.perfOf p := by
  unfold dissolveVoice Voice.dissolved Voice.waitsForSet
  cases hphase : (s.voice v).phase with
  | gated n sus pulse =>
    dsimp only
    rw [State.release_of_gated hphase]
    refine ⟨rfl, rfl, State.voice_setPhase_self v _ s, fun w hw => ?_, fun q _ => rfl, ?_⟩
    · rw [State.voice_setPhase, if_neg hw]
    · simp [VoicePhase.successor?]
  | damping n su dp timer =>
    cases su with
    | none => simp [SameButQueue.refl, VoicePhase.successor?]
    | some su =>
      dsimp only [VoicePhase.successor?]
      by_cases hset : su.kind = .set ∧ su.part = p
      · obtain ⟨hkind, rfl⟩ := hset
        have hcancel : s.cancelSuccessor v = (s.setPhase v (.damping n none dp timer)).unbind v su.part := by
          rw [State.cancelSuccessor, hphase]
          dsimp only
          rw [hkind, if_neg (by decide)]
        rw [if_pos ⟨hkind, rfl⟩, if_pos ⟨hkind, rfl⟩, hcancel]
        refine ⟨rfl, rfl, State.voice_setPhase_self v _ s, fun w hw => ?_, fun q hq => ?_, ?_⟩
        · rw [State.voice_unbind, State.voice_setPhase, if_neg hw]
        · rw [State.perfOf_unbind, if_neg hq]
          rfl
        · rw [State.perfOf_unbind, if_pos rfl]
          simp [hkind]
      · rw [if_neg hset, if_neg hset]
        refine ⟨rfl, rfl, rfl, fun w _ => rfl, fun q _ => rfl, ?_⟩
        exact (if_neg fun h => hset (by simpa [and_comm] using h)).symm
  | _ => simp [SameButQueue.refl, VoicePhase.successor?]

theorem not_selects_nil (priority : Nat) (e : HeldKey) : ¬Given.selects priority [] e := by
  unfold Given.selects
  split <;> simp

theorem waitsForSet_of_goodSet {s : State} {p : PartId} (hset : Given.goodSet s p) {v : VoiceId}
    (hv : v ∈ (s.perfOf p).monoSet) : (s.voice v).waitsForSet p = (s.voice v).phase.isDamping := by
  unfold Voice.waitsForSet
  rcases phase_of_goodSet hset hv with ⟨n, sus, pulse, hphase, -⟩ | ⟨n, su, dp, timer, hphase, hkind, hpart⟩
  · rw [hphase]
    rfl
  · simp [hphase, VoicePhase.successor?, VoicePhase.isDamping, hkind, hpart]

/-- A dissolved set. -/
theorem setFollows_dissolve {s : State} {p : PartId} (hset : Given.goodSet s p) (priority : Nat) (perf : Perf)
    (hperf : s.perfOf p = perf) : SameButQueue s (s.dissolve p) ∧ (s.dissolve p).deferred = s.deferred
      ∧ Given.setFollows s (s.dissolve p) p priority [] perf := by
  subst hperf
  obtain ⟨⟨⟨hframe, hdeferred⟩, hother⟩, hvoice⟩ := foldl_touches (get := State.voice)
    (f := fun _ => Voice.dissolved p s.timestamp (fun q => s.param q pReleaseWindow)) (step := dissolveVoice p)
    (fun t => (SameButQueue s t ∧ t.deferred = s.deferred) ∧ ∀ q, q ≠ p → t.perfOf q = s.perfOf q)
    (fun t v ht => by
      obtain ⟨hf, hd, -, -, ho, -⟩ := dissolveVoice_touches p t v
      exact ⟨⟨ht.1.1.trans hf, hd.trans ht.1.2⟩, fun q hq => (ho q hq).trans (ht.2 q hq)⟩)
    (fun t v ht => by
      obtain ⟨-, -, hv, -⟩ := dissolveVoice_touches p t v
      rw [hv, ht.1.1.timestamp]
      simp only [ht.1.1.param])
    (fun t v w _ hw => (dissolveVoice_touches p t v).2.2.2.1 w hw) hset.1 (s := s) ⟨⟨.refl s, rfl⟩, fun _ _ => rfl⟩
  have hbound : ((s.perfOf p).monoSet.foldl (dissolveVoice p) s).perfOf p = _ :=
    foldl_unbinds (fun t v => (dissolveVoice_touches p t v).2.2.2.2.2)
      (fun t v w hw => (dissolveVoice_touches p t v).2.2.2.1 w hw) hset.1 s
  rw [State.dissolve_eq]
  generalize (s.perfOf p).monoSet.foldl (dissolveVoice p) s = a at *
  refine ⟨hframe.trans (show SameButQueue a (a.clearHeld p) from rfl), hdeferred, fun q hq => ?_, fun v hv => ⟨?_, ?_⟩,
    fun _ => ⟨⟨hframe.serial, hframe.glides⟩, ?_, fun v hv => ?_⟩, fun e he => ?_⟩
  · rw [State.perfOf_clearHeld, if_neg hq, hother q hq]
  · exact (hvoice v).trans (if_neg hv)
  · change a.glide v = _
    rw [State.glide, hframe.glides]
    rfl
  · rw [State.perfOf_clearHeld, if_pos rfl, hbound]
    dsimp only
    congr 1
    refine List.filter_congr fun v _ => ?_
    by_cases hv : v ∈ (s.perfOf p).monoSet
    · rw [waitsForSet_of_goodSet hset hv]
    · simp [hv]
  · change a.voice v = _
    rw [hvoice, if_pos hv, Voice.dissolved]
    rcases phase_of_goodSet hset hv with ⟨n, sus, pulse, hphase, hpart⟩ | ⟨n, su, dp, timer, hphase, hkind, hpart⟩
    · simp only [hphase, hpart]
    · rw [hphase]
      exact if_pos ⟨hkind, hpart⟩
  · exact absurd he (not_selects_nil priority e)

/-! ### Requests of a MONO or UNISON part -/

/-- What a set does is said of the voices, glides, serials and part records alone. -/
theorem setFollows_congr {s t a u : State} {p : PartId} {priority : Nat} {held : List HeldKey} {perf : Perf}
    (hvoices : a.voices = s.voices) (hglides : a.glides = s.glides) (hserial : a.serial = s.serial)
    (hparams : a.params = s.params) (htime : a.timestamp = s.timestamp)
    (hset : (a.perfOf p).monoSet = (s.perfOf p).monoSet) (hother : ∀ q, q ≠ p → a.perfOf q = s.perfOf q)
    (huv : u.voices = t.voices) (hug : u.glides = t.glides) (hus : u.serial = t.serial) (hup : u.perf = t.perf)
    (h : Given.setFollows a u p priority held perf) : Given.setFollows s t p priority held perf := by
  obtain ⟨hq, hout, hempty, hselected⟩ := h
  simp only [State.voice, State.glide, State.param, hvoices, hglides, hserial, hparams, htime, hset, huv, hug, hus]
    at hout hempty hselected
  have hperf (q : PartId) : u.perfOf q = t.perfOf q := by simp only [State.perfOf, hup]
  simp only [hperf] at hq hempty hselected
  exact ⟨fun q hne => (hq q hne).trans (hother q hne), hout, hempty, hselected⟩

theorem setRefreshes_congr {s t a u : State} {p : PartId} {e : HeldKey} {perf : Perf}
    (hvoices : a.voices = s.voices) (hglides : a.glides = s.glides) (hserial : a.serial = s.serial)
    (hset : (a.perfOf p).monoSet = (s.perfOf p).monoSet) (hother : ∀ q, q ≠ p → a.perfOf q = s.perfOf q)
    (huv : u.voices = t.voices) (hug : u.glides = t.glides) (hus : u.serial = t.serial) (hup : u.perf = t.perf)
    (h : Given.setRefreshes a u p e perf) : Given.setRefreshes s t p e perf := by
  obtain ⟨hself, hq, hnumber, hglide, hout, hin⟩ := h
  simp only [State.voice, hvoices, hglides, hserial, hset, huv, hug, hus] at hnumber hglide hout hin
  have hperf (q : PartId) : u.perfOf q = t.perfOf q := by simp only [State.perfOf, hup]
  simp only [hperf] at hself hq
  exact ⟨hself, fun q hne => (hq q hne).trans (hother q hne), hnumber, hglide, hout, hin⟩

end Sys2Proof.Machine
end

section
/-! PROOFS. Requests of a MONO or UNISON part whose list holds keys: KEY_ON, KEY_OFF and HOLD OFF (R33, R34, R37 to R40,
R46). -/

namespace Sys2Proof.Machine

/-! ### Frames -/

/-- The voices, the glides, the serial counter and the parts' records alone differ. -/
def SameButSet (s t : State) : Prop :=
  t = { s with voices := t.voices, serial := t.serial, perf := t.perf, glides := t.glides }

theorem SameButSet.refl (s : State) : SameButSet s s := rfl

theorem SameButSet.trans {s t u : State} (h : SameButSet s t) (k : SameButSet t u) : SameButSet s u := by
  unfold SameButSet at *
  exact k.trans (by rw [h])

theorem SameButSound.set {s t : State} (h : SameButSound s t) : SameButSet s t := by
  unfold SameButSound at h
  unfold SameButSet
  exact h.trans (by rw [h])

theorem SameButQueue.set {s t : State} (h : SameButQueue s t) (hd : t.deferred = s.deferred) : SameButSet s t := by
  unfold SameButQueue at h
  unfold SameButSet
  rw [hd] at h
  exact h.trans (by rw [h])

theorem SameButSet.link {s t : State} (h : SameButSet s t) (m : Link) : t.link m = s.link m := by
  unfold SameButSet at h
  rw [h]
  cases m <;> rfl

theorem SameButSet.setLink_framed {s u : State} {l m : Link} {payload : List Byte}
    (h : SameButSet (s.framed m payload) u) (x : LinkUnit) : u.setLink l x =
      { s with voices := u.voices, serial := u.serial, perf := u.perf, glides := u.glides
               linkA := (u.setLink l x).linkA, linkB := (u.setLink l x).linkB } := by
  unfold SameButSet at h
  rw [h]
  cases l <;> cases m <;> rfl

theorem SameButSound.refl (s : State) : SameButSound s s := rfl

theorem SameButSound.foldl_takesSerials {f : Stamp → Voice → Voice} {g : Voice → Glide → Glide} {counts : Voice → Bool}
    (vs : List VoiceId) {s t : State} (h : SameButSound s t) :
    SameButSound s (vs.foldl (Machine.takesSerials f g counts) t) := by
  induction vs generalizing t with
  | nil => exact h
  | cons v vs ih => exact ih (h.takesSerials v)

/-- A selection made again writes the selected key, and voices, glides and serials. -/
theorem reselect_frame (p : PartId) (s : State) :
    ∃ selected, SameButSound (s.setPerf p { s.perfOf p with selected }) (s.reselect p) := by
  have hsame : s.setPerf p { s.perfOf p with selected := (s.perfOf p).selected } = s := State.setPerf_perfOf p s
  cases he : s.selection p with
  | none => exact ⟨_, by rw [hsame, State.reselect, he]; rfl⟩
  | some e =>
    by_cases h : (s.perfOf p).selected = some e.key
    · exact ⟨_, by rw [hsame, State.reselect_of_same he h]; rfl⟩
    · exact ⟨some e.key, by rw [State.reselect_of_other he h]; exact SameButSound.foldl_takesSerials _ (.refl _)⟩

theorem refreshSet_frame (p : PartId) (e : HeldKey) (s : State) : SameButSound s (s.refreshSet p e) := by
  by_cases h : (s.perfOf p).selected = some e.key ∧ s.param p pLegato = 0
  · rw [State.selected_refresh h]
    exact SameButSound.foldl_takesSerials _ (.refl _)
  · rw [State.refreshSet, if_neg h]
    rfl

/-! ### A key stored at the tail (R33, R34, R37, R38) -/

theorem storeHeld_eq (e : HeldKey) (held : List HeldKey) : storeHeld e held =
    if held.any (fun x => x.key == e.key) = true then held.filter (fun x => x.key != e.key) ++ [e]
    else if held.length < 10 then held ++ [e] else held.tail ++ [e] := by
  rw [storeHeld, List.drop_one]

theorem storeHeld_ne_nil (e : HeldKey) (held : List HeldKey) : storeHeld e held ≠ [] := by
  unfold storeHeld
  split
  · simp
  · split <;> simp

/-- The state in which the selection is made again after key e was stored. -/
def State.stored (p : PartId) (e : HeldKey) (s : State) : State :=
  (s.setPerf p { s.perfOf p with held := storeHeld e (s.perfOf p).held }).countSounded p

theorem State.nextKey_eq (p : PartId) (e : HeldKey) (s : State) : s.nextKey p e =
    if ((s.stored p e).selection p).map HeldKey.key = ((s.stored p e).perfOf p).selected then (s.stored p e).refreshSet p e
    else (s.stored p e).reselect p := rfl

theorem State.perfOf_stored (s : State) (p q : PartId) (e : HeldKey) : (s.stored p e).perfOf q =
    if q = p then
      { s.perfOf q with
        held := storeHeld e (s.perfOf q).held
        counters := { (s.perfOf q).counters with sounded := min 65535 ((s.perfOf q).counters.sounded + 1) } }
    else s.perfOf q := by
  unfold State.stored State.countSounded
  rw [State.perfOf_countWith]
  split
  · next h =>
    subst h
    rw [State.perfOf_setPerf_self]
    rfl
  · next h => rw [State.perfOf_setPerf_ne h]

/-- A key that is stored writes the part's record, and voices, glides and serials. -/
theorem nextKey_frame (p : PartId) (e : HeldKey) (s : State) :
    ∃ selected, SameButSound ((s.stored p e).setPerf p { (s.stored p e).perfOf p with selected }) (s.nextKey p e) := by
  rw [State.nextKey_eq]
  split
  · refine ⟨((s.stored p e).perfOf p).selected, ?_⟩
    rw [show (s.stored p e).setPerf p _ = s.stored p e from State.setPerf_perfOf p _]
    exact refreshSet_frame p e _
  · exact reselect_frame p _

/-- What a stored key does to a set: a repeated selected key refreshes it, another selection is followed. -/
theorem nextKey_follows {p : PartId} {e : HeldKey} {s : State} (hset : Given.goodSet (s.stored p e) p) {x : HeldKey}
    (hx : Given.selects (s.param p pKeyPriority) ((s.stored p e).perfOf p).held x) :
    let perf := (s.stored p e).perfOf p
    let repeated := x.key = e.key ∧ perf.selected = some e.key ∧ s.param p pLegato = 0
    (repeated → Given.setRefreshes (s.stored p e) (s.nextKey p e) p e perf)
    ∧ (¬repeated → Given.setFollows (s.stored p e) (s.nextKey p e) p (s.param p pKeyPriority) perf.held perf) := by
  intro perf repeated
  have hselection : (s.stored p e).selection p = some x := selectEntry_of_selects hx
  have hheld : perf.held ≠ [] := by
    change ((s.stored p e).perfOf p).held ≠ []
    rw [State.perfOf_stored, if_pos rfl]
    exact storeHeld_ne_nil e _
  rw [State.nextKey_eq, hselection]
  dsimp only [Option.map]
  refine ⟨fun ⟨hkey, hselected, hlegato⟩ => ?_, fun hnot => ?_⟩
  · rw [if_pos (by rw [hkey]; exact hselected.symm)]
    exact setRefreshes_refreshSet hset ⟨hselected, hlegato⟩
  · split
    · next hsame =>
      have hrest : ¬(((s.stored p e).perfOf p).selected = some e.key ∧ (s.stored p e).param p pLegato = 0) :=
        fun h => hnot ⟨Option.some.inj (hsame.trans h.1), h⟩
      rw [State.refreshSet, if_neg hrest, ← State.reselect_of_same hselection hsame.symm]
      nth_rw 1 [State.reselect_of_same hselection hsame.symm]
      exact setFollows_reselect hset hheld
    · exact setFollows_reselect hset hheld

/-- Settles O18. -/
theorem monoKeyOnStoresKeyAtTail : Obligations.MonoKeyOnStoresKeyAtTail := by
  intro s l p k velocity ⟨hready, hpass, hmode, hheld⟩ hv e perf held stored
  have hwork : Request.keyOn.service l [byte p, byte k, byte velocity] (s.framed l [byte p, byte k, byte velocity]) =
      (((s.framed l [byte p, byte k, byte velocity]).countIn p).nextKey p e,
        { status := .ok, clamped := decide (127 < velocity) }) := by
    refine (keyOnService_byte l p k hv _).trans ?_
    rw [giveNote_of_mono (by cases l <;> exact hpass) (by cases l <;> exact hmode), State.monoNote]
    rw [if_neg]
    rw [State.countIn, State.perfOf_countWith, if_pos rfl]
    cases l <;> exact hheld
  generalize hx : (s.framed l [byte p, byte k, byte velocity]).countIn p = x at hwork
  have hframed : SameButSet (s.framed l [byte p, byte k, byte velocity]) x := by rw [← hx]; rfl
  have hperf (q : PartId) : x.perfOf q = if q = p then
      { s.perfOf q with counters := { (s.perfOf q).counters with
        notesIn := min 65535 ((s.perfOf q).counters.notesIn + 1) } } else s.perfOf q := by
    rw [← hx, State.countIn, State.perfOf_countWith, State.framed, State.shiftOut_perfOf]
    rfl
  have hstored : (x.stored p e).perfOf p = stored := by
    rw [State.perfOf_stored, if_pos rfl, hperf, if_pos rfl, storeHeld_eq]
  have hother (q : PartId) (hq : q ≠ p) : (x.stored p e).perfOf q = s.perfOf q := by
    rw [State.perfOf_stored, if_neg hq, hperf, if_neg hq]
  obtain ⟨selected, hnext⟩ := nextKey_frame p e x
  have hset : SameButSet (s.framed l [byte p, byte k, byte velocity]) (x.nextKey p e) :=
    (hframed.trans (show SameButSet x ((x.stored p e).setPerf p { (x.stored p e).perfOf p with selected }) from rfl)).trans
      hnext.set
  obtain ⟨t, hexec, ht, htook⟩ := exec_of_quiet hready (by decide) hwork hset.link
  have hself : (x.nextKey p e).perfOf p = { stored with selected } := by
    rw [hnext.perfOf, State.perfOf_setPerf_self, hstored]
  refine ⟨t, hexec, ?_, ?_, fun q hq => ?_, htook, fun hgood y hy => ?_⟩
  · rw [ht]
    simpa only [State.setLink_voices, State.setLink_serial, State.setLink_perf, State.setLink_glides] using
      hset.setLink_framed (l := l) _
  · rw [ht, State.setLink_perfOf, hself]
  · rw [ht, State.setLink_perfOf, hnext.perfOf, State.perfOf_setPerf_ne hq, hother q hq]
  · have hvoices : (x.stored p e).voices = s.voices := by rw [← hx]; cases l <;> rfl
    have hglides : (x.stored p e).glides = s.glides := by rw [← hx]; cases l <;> rfl
    have hserial : (x.stored p e).serial = s.serial := by rw [← hx]; cases l <;> rfl
    have hparams : (x.stored p e).params = s.params := by rw [← hx]; cases l <;> rfl
    have htime : (x.stored p e).timestamp = s.timestamp := by rw [← hx]; cases l <;> rfl
    have hparam (i : ParamId) : x.param p i = s.param p i := congrArg (fun ps => ps[p][i]) hparams
    have hmono : ((x.stored p e).perfOf p).monoSet = (s.perfOf p).monoSet := by rw [hstored]
    have hgood' : Given.goodSet (x.stored p e) p := by
      unfold Given.goodSet
      rw [hmono]
      simp only [State.voice, hvoices]
      exact hgood
    obtain ⟨hrefresh, hfollow⟩ := nextKey_follows (s := x) (p := p) (e := e) hgood' (x := y)
      (by rw [hparam, hstored]; exact hy)
    rw [hstored, hparam] at hrefresh hfollow
    have htv : (x.nextKey p e).voices = t.voices := by rw [ht, State.setLink_voices]
    have htg : (x.nextKey p e).glides = t.glides := by rw [ht, State.setLink_glides]
    have hts : (x.nextKey p e).serial = t.serial := by rw [ht, State.setLink_serial]
    have htp : (x.nextKey p e).perf = t.perf := by rw [ht, State.setLink_perf]
    refine ⟨fun hrepeated => ?_, fun hnot => ?_⟩
    · exact setRefreshes_congr hvoices hglides hserial hmono hother htv htg hts htp (hrefresh hrepeated)
    · rw [hparam] at hfollow
      exact setFollows_congr hvoices hglides hserial hparams htime hmono hother htv htg hts htp (hfollow hnot)

/-! ### Keys that leave the list (R39, R40, R46) -/

/-- A held-key list that becomes `held` is treated once; windows above 0 leave no window of 0. -/
theorem keepHeld_follows {s : State} {p : PartId} (hset : Given.goodSet s p) (hs : s.Settled)
    (hwindow : s.param p pReleaseWindow ≠ 0) (held : List HeldKey) :
    SameButSet s (s.keepHeld p held) ∧ (s.keepHeld p held).Settled
      ∧ Given.setFollows s (s.keepHeld p held) p (s.param p pKeyPriority) held (s.perfOf p) := by
  unfold State.keepHeld
  split
  · next hempty =>
    subst hempty
    obtain ⟨hframe, hdeferred, hfollows⟩ := setFollows_dissolve hset (s.param p pKeyPriority) _ rfl
    refine ⟨hframe.set hdeferred, fun v => ?_, hfollows⟩
    obtain ⟨-, hout, hempty, -⟩ := hfollows
    by_cases hv : v ∈ (s.perfOf p).monoSet
    · rw [(hempty rfl).2.2 v hv]
      split
      · simpa [VoicePhase.zeroWindow] using hwindow
      · rfl
      · exact hs v
    · rw [(hout v hv).1]
      exact hs v
  · next hne =>
    have hself : (s.setPerf p { s.perfOf p with held }).perfOf p = { s.perfOf p with held } := State.perfOf_setPerf_self ..
    have hgood : Given.goodSet (s.setPerf p { s.perfOf p with held }) p := by
      unfold Given.goodSet
      rw [hself]
      exact hset
    have hfollows := setFollows_reselect hgood (by rw [hself]; exact hne)
    obtain ⟨selected, hframe⟩ := reselect_frame p (s.setPerf p { s.perfOf p with held })
    rw [hself] at hfollows
    refine ⟨?_, ?_, setFollows_congr (a := s.setPerf p { s.perfOf p with held }) (s := s) rfl rfl rfl rfl rfl (by rw [hself])
      (fun q hq => State.perfOf_setPerf_ne hq _ s) rfl rfl rfl rfl hfollows⟩
    · exact (show SameButSet s ((s.setPerf p { s.perfOf p with held }).setPerf p
        { (s.setPerf p { s.perfOf p with held }).perfOf p with selected }) from rfl).trans hframe.set
    · exact (noNewWindow_reselect p).settled hs

theorem State.keyOff_of_mono {s : State} {p : PartId} (h : s.param p pVoiceMode ≠ 0) (k : Key) :
    s.keyOff p k = s.monoKeyOff p k := by
  rw [State.keyOff, State.isPoly_of_ne h]
  rfl

/-- A key that is not held, or is sustained already. -/
theorem State.monoKeyOff_of_nothing {s : State} {p : PartId} {k : Key}
    (h : ∀ x ∈ (s.perfOf p).held, x.key = k → x.sustained = true) : s.monoKeyOff p k = (s, true) := by
  unfold State.monoKeyOff
  cases hfind : (s.perfOf p).held.find? (fun e => e.key == k) with
  | none => simp only [hfind]
  | some e =>
    have hkey : e.key = k := by simpa using List.find?_some hfind
    simp only [hfind, h e (List.mem_of_find?_eq_some hfind) hkey, if_true]

/-- A pressed key is sustained under hold, and leaves the list otherwise. -/
theorem State.monoKeyOff_of_pressed {s : State} {p : PartId} {k : Key} (hpressed : ∃ x ∈ (s.perfOf p).held, x.key = k)
    (hplain : ∀ x ∈ (s.perfOf p).held, x.key = k → x.sustained = false) : s.monoKeyOff p k =
      if s.holds p = true then
        (s.setPerf p { s.perfOf p with
          held := (s.perfOf p).held.map fun x => if x.key = k then { x with sustained := true } else x }, false)
      else ((s.keepHeld p ((s.perfOf p).held.filter fun x => x.key != k)).passZeroWindows, false) := by
  obtain ⟨x, hx, hkey⟩ := hpressed
  obtain ⟨e, hfind⟩ := Option.isSome_iff_exists.mp
    (List.find?_isSome.mpr ⟨x, hx, beq_iff_eq.mpr hkey⟩ : ((s.perfOf p).held.find? fun e => e.key == k).isSome = true)
  have hekey : e.key = k := by simpa using List.find?_some hfind
  unfold State.monoKeyOff
  simp only [hfind, hplain e (List.mem_of_find?_eq_some hfind) hekey]
  rfl

/-- What a set does, told of the state after a request was taken. -/
theorem setFollows_of_request {s u : State} {l : Link} {payload : List Byte} {p : PartId} {priority : Nat}
    {held : List HeldKey} {perf : Perf} (h : Given.setFollows (s.framed l payload) u p priority held perf) (x : LinkUnit) :
    Given.setFollows s (u.setLink l x) p priority held perf :=
  setFollows_congr (a := s.framed l payload) (u := u) (by cases l <;> rfl) (by cases l <;> rfl) (by cases l <;> rfl)
    (by cases l <;> rfl) (by cases l <;> rfl) (by cases l <;> rfl) (fun q _ => by cases l <;> rfl)
    (State.setLink_voices ..).symm (State.setLink_glides ..).symm (State.setLink_serial ..).symm
    (State.setLink_perf ..).symm h

/-- HOLD OFF of one MONO or UNISON part whose flag is on and whose list holds keys. -/
theorem setHolds_off_mono {s : State} {p : PartId} (hmode : s.param p pVoiceMode ≠ 0) (hhold : (s.perfOf p).hold = true)
    (hheld : (s.perfOf p).held ≠ []) : s.setHolds false (BitVec.ofNat 4 (2 ^ p.val)) =
      ((s.setPerf p { s.perfOf p with hold := false }).keepHeld p
        (((s.setPerf p { s.perfOf p with hold := false }).perfOf p).held.filter fun x => !x.sustained)).passZeroWindows := by
  have hmode' : (s.setPerf p { s.perfOf p with hold := false }).isPoly p = false := State.isPoly_of_ne hmode
  have hheld' : ((s.setPerf p { s.perfOf p with hold := false }).perfOf p).held ≠ [] := by
    rwa [State.perfOf_setPerf_self]
  rw [State.setHolds, partsOf_twoPow, List.foldl_cons, List.foldl_nil, State.setHold_off hhold, State.holdOff, hmode']
  simp only [hheld']
  rfl

/-- Settles O20. -/
theorem monoSetFollowsAndDissolves : Obligations.MonoSetFollowsAndDissolves := by
  intro s l p ⟨hready, hsettled, hmode, hwindow, hset⟩ perf priority frame
  constructor
  · intro k held pressed plain kept
    refine ⟨fun hplain hpressed hfree => ?_, fun hplain hpressed hkept => ?_, fun hnothing => ?_⟩
    · have hoff : (s.framed l [byte p, byte k]).keyOff p k = _ :=
        (State.keyOff_of_mono (by cases l <;> exact hmode) k).trans
          (State.monoKeyOff_of_pressed (by cases l <;> exact hpressed) (by cases l <;> exact hplain))
      rw [if_neg fun h => hfree (by cases l <;> exact State.holds_iff.mp h)] at hoff
      obtain ⟨hframe, hs, hfollows⟩ := keepHeld_follows (s := s.framed l [byte p, byte k]) (p := p)
        (by cases l <;> exact hset) (by cases l <;> exact hsettled) (by cases l <;> exact hwindow)
        (((s.framed l [byte p, byte k]).perfOf p).held.filter fun x => x.key != k)
      rw [State.passZeroWindows_of_settled hs] at hoff
      obtain ⟨t, hexec, ht, htook⟩ := exec_keyOff hready hoff hframe.link
      refine ⟨t, hexec, ?_, ?_, htook⟩ <;> rw [ht]
      · simpa only [frame, State.setLink_voices, State.setLink_serial, State.setLink_perf, State.setLink_glides] using
          hframe.setLink_framed (l := l) _
      · have h := setFollows_of_request hfollows ((s.link l).took 4 (okReply 0x02 false false []))
        cases l <;> exact h
    · have hoff : (s.framed l [byte p, byte k]).keyOff p k = _ :=
        (State.keyOff_of_mono (by cases l <;> exact hmode) k).trans
          (State.monoKeyOff_of_pressed (by cases l <;> exact hpressed) (by cases l <;> exact hplain))
      rw [if_pos (State.holds_iff.mpr (by cases l <;> exact hkept))] at hoff
      obtain ⟨t, hexec, ht, htook⟩ := exec_keyOff hready hoff fun m => rfl
      refine ⟨t, hexec, ?_, ?_, fun q hq => ?_, htook⟩ <;> rw [ht]
      · cases l <;> rfl
      · rw [State.setLink_perfOf, State.perfOf_setPerf_self, State.framed, State.shiftOut_perfOf]
      · rw [State.setLink_perfOf, State.perfOf_setPerf_ne hq, State.framed, State.shiftOut_perfOf]
    · have hoff : (s.framed l [byte p, byte k]).keyOff p k = _ :=
        (State.keyOff_of_mono (by cases l <;> exact hmode) k).trans
          (State.monoKeyOff_of_nothing (by cases l <;> exact hnothing))
      obtain ⟨t, hexec, ht, htook⟩ := exec_keyOff hready hoff fun m => rfl
      refine ⟨t, hexec, ?_, htook⟩
      rw [ht]
      cases l <;> rfl
  · intro hhold hheld
    have hwork : Request.hold.service l [byte (2 ^ p.val), 0x00#8] (s.framed l [byte (2 ^ p.val), 0x00#8]) = _ :=
      holdService_byte l (partMask?_twoPow p) (by decide : flag? 0x00#8 = some false) _
    rw [setHolds_off_mono (by cases l <;> exact hmode) (by cases l <;> exact hhold) (by cases l <;> exact hheld)] at hwork
    generalize hx : (s.framed l [byte (2 ^ p.val), 0x00#8]).setPerf p
      { (s.framed l [byte (2 ^ p.val), 0x00#8]).perfOf p with hold := false } = x at hwork
    have hself : x.perfOf p = { perf with hold := false } := by
      rw [← hx, State.perfOf_setPerf_self, State.framed, State.shiftOut_perfOf]
    obtain ⟨hframe, hs, hfollows⟩ := keepHeld_follows (s := x) (p := p)
      (by unfold Given.goodSet; rw [hself, ← hx]; cases l <;> exact hset) (by rw [← hx]; cases l <;> exact hsettled)
      (by rw [← hx]; cases l <;> exact hwindow) ((x.perfOf p).held.filter fun x => !x.sustained)
    rw [State.passZeroWindows_of_settled hs] at hwork
    have hset : SameButSet (s.framed l [byte (2 ^ p.val), 0x00#8]) x := by rw [← hx]; rfl
    obtain ⟨t, hexec, ht, htook⟩ := exec_of_quiet hready (by decide) hwork (hset.trans hframe).link
    rw [show ((partsOf (BitVec.ofNat 4 (2 ^ p.val))).all fun q =>
        ((s.framed l [byte (2 ^ p.val), 0x00#8]).perfOf q).hold == false) = false by
      rw [partsOf_twoPow]
      simp [State.framed, show (s.perfOf p).hold = true from hhold]] at htook
    rw [hself] at hfollows
    refine ⟨t, hexec, ?_, ?_, htook⟩
    · rw [ht]
      simpa only [frame, State.setLink_voices, State.setLink_serial, State.setLink_perf, State.setLink_glides] using
        (hset.trans hframe).setLink_framed (l := l) _
    · have hparam : x.param p pKeyPriority = priority := by rw [← hx]; cases l <;> rfl
      have hother (q : PartId) (hq : q ≠ p) : x.perfOf q = s.perfOf q := by
        rw [← hx, State.perfOf_setPerf_ne hq, State.framed, State.shiftOut_perfOf]
      rw [hparam] at hfollows
      refine setFollows_congr (a := x) (by rw [← hx]; cases l <;> rfl) (by rw [← hx]; cases l <;> rfl)
        (by rw [← hx]; cases l <;> rfl) (by rw [← hx]; cases l <;> rfl) (by rw [← hx]; cases l <;> rfl) (by rw [hself])
        hother ?_ ?_ ?_ ?_ hfollows <;> rw [ht] <;> simp [hself]

end Sys2Proof.Machine
end

section
/-! PROOFS. The first key of a MONO or UNISON part and the set that it obtains (R33, R35, R36). -/

namespace Sys2Proof.Machine

/-! ### Picking voices one at a time (R35) -/

/-- x is s with other counters of part p and other links. -/
def Mirrors (p : PartId) (counters : Counters) (x s : State) : Prop :=
  ∃ perf linkA linkB, x = { s with perf := perf, linkA := linkA, linkB := linkB }
    ∧ ∀ q, x.perfOf q = if q = p then { s.perfOf q with counters } else s.perfOf q

theorem Mirrors.pickVoice {p : PartId} {c : Counters} {x s : State} (h : Mirrors p c x s)
    {taken : List VoiceId} {own : Bool} : x.pickVoice p taken own = s.pickVoice p taken own := by
  obtain ⟨perf, linkA, linkB, rfl, -⟩ := h
  rfl

theorem Mirrors.voice {p : PartId} {c : Counters} {x s : State} (h : Mirrors p c x s) (v : VoiceId) : x.voice v = s.voice v := by
  obtain ⟨perf, linkA, linkB, rfl, -⟩ := h
  rfl

theorem soundIdle_eq_sounds (s : State) (p : PartId) (e : HeldKey) (v : VoiceId) :
    s.soundIdle v p { key := e.key, velocity := e.velocity } = Given.sounds s p e v := rfl

theorem Mirrors.sounds {p : PartId} {c : Counters} {x s : State} (h : Mirrors p c x s) (e : HeldKey) (v : VoiceId) :
    Mirrors p c (Given.sounds x p e v) (Given.sounds s p e v) := by
  obtain ⟨perf, linkA, linkB, rfl, hperf⟩ := h
  exact ⟨perf, linkA, linkB, rfl, hperf⟩

theorem Mirrors.stolen {p : PartId} {c : Counters} {x s : State} (h : Mirrors p c x s) (su : Successor)
    (v : VoiceId) : Mirrors p c (Given.stolen x p su v) (Given.stolen s p su v) := by
  obtain ⟨perf, linkA, linkB, rfl, hperf⟩ := h
  refine ⟨_, linkA, linkB, rfl, fun q => ?_⟩
  rw [State.perfOf_stolen, State.perfOf_stolen, hperf]
  by_cases hq : q = p
  · rw [if_pos hq, if_pos hq, if_pos hq, if_pos hq, leftSet_counters]
  · rw [if_neg hq, if_neg hq, if_neg hq, if_neg hq]

theorem State.Picked.sounds {s : State} {taken : List VoiceId} (h : s.Picked taken) (p : PartId) (e : HeldKey)
    (v : VoiceId) : (Given.sounds s p e v).Picked (taken ++ [v]) := by
  intro w hw
  rw [← soundIdle_eq_sounds, State.voice_soundIdle]
  split
  · exact ⟨nofun, rfl⟩
  · next hne => exact h w (by simpa [hne] using hw)

theorem State.Picked.stolen {s : State} {taken : List VoiceId} (h : s.Picked taken) (p : PartId) (su : Successor)
    {v : VoiceId} {n : Note} (hn : (s.voice v).phase.note? = some n) : (Given.stolen s p su v).Picked (taken ++ [v]) := by
  intro w hw
  by_cases hwv : w = v
  · rw [hwv, State.voice_stolen_self s p su v hn]
    exact ⟨nofun, rfl⟩
  · rw [State.voice_stolen_ne s p su v w hwv]
    exact h w (by simpa [hwv] using hw)

theorem note_of_taken {s : State} {p : PartId} {taken : List VoiceId} {v : VoiceId}
    (h : Given.takesReleased s p v ∨ Given.takesVictim s p taken v) : ∃ n, (s.voice v).phase.note? = some n := by
  have hholds : (s.voice v).phase.isReleased = true ∨ (s.voice v).phase.isGated = true :=
    h.imp (fun h => h.1.1) fun h => h.1.1.2.1
  cases hphase : (s.voice v).phase <;> simp [hphase, VoicePhase.isReleased, VoicePhase.isGated] at hholds <;>
    exact ⟨_, rfl⟩

section
variable {p : PartId} {e : HeldKey} {n : Nat} {taken : List VoiceId} {s : State} {v : VoiceId}

theorem pickSet_of_idle (h : s.pickVoice p taken false = .idle v) :
    State.pickSet p e (n + 1) taken s = State.pickSet p e n (taken ++ [v]) (Given.sounds s p e v) := by
  simp only [State.pickSet, h]
  rfl

theorem pickSet_of_steal (h : s.pickVoice p taken false = .steal v) {note : Note}
    (hn : (s.voice v).phase.note? = some note) : State.pickSet p e (n + 1) taken s = State.pickSet p e n (taken ++ [v])
      (Given.stolen s p { part := p, key := e.key, velocity := e.velocity, source := e.source, kind := .set } v) := by
  simp only [State.pickSet, h]
  rw [State.damp_eq_stolen hn]

theorem pickSet_of_nothing (h : s.pickVoice p taken false = .nothing) : State.pickSet p e (n + 1) taken s = (taken, s) := by
  simp only [State.pickSet, h]

theorem nodup_snoc (hnodup : taken.Nodup) (hv : v ∉ taken) : (taken ++ [v]).Nodup :=
  List.nodup_append.mpr ⟨hnodup, List.nodup_singleton v, fun w hw u hu => by
    rw [List.mem_singleton.mp hu]
    exact ne_of_mem_of_not_mem hw hv⟩

theorem victimFor_set : s.victimFor p taken false v ↔ Given.setVictim s p taken v := by simp [State.victimFor]

/-- A voice that a pick steals is not among those picked before. -/
theorem pickVoice_of_taken (hpicked : s.Picked taken)
    (h : Given.takesReleased s p v ∨ Given.takesVictim s p taken v) :
    s.pickVoice p taken false = .steal v ∧ v ∉ taken := by
  rcases h with h | ⟨hvictim, hfree, hprefers⟩
  · refine ⟨State.pickVoice_of_released hpicked h false, fun hv => ?_⟩
    have := h.1.1
    rw [(hpicked v hv).2] at this
    cases this
  · exact ⟨State.pickVoice_of_victim hfree (victimFor_set.mpr hvictim) fun w hw => hprefers w (victimFor_set.mp hw),
      hvictim.2.1⟩

end

/-- What the model picks is what the statement's picks lead to. -/
theorem obtains_of_pickSet {p : PartId} {e : HeldKey} {post : List VoiceId → State → Prop} {c : Counters}
    (n : Nat) {taken : List VoiceId} {x s : State} (hx : Mirrors p c x s) (hpicked : s.Picked taken) (hnodup : taken.Nodup)
    (hpost : ∀ u, Mirrors p c (State.pickSet p e n taken x).2 u → (State.pickSet p e n taken x).1.Nodup →
      post (State.pickSet p e n taken x).1 u) : Given.obtains p e post n taken s := by
  induction n generalizing taken x s with
  | zero => exact hpost s hx hnodup
  | succ n ih =>
    refine ⟨fun v hload hidle => ?_, fun v hv => ?_, fun hfree hnone => ?_⟩
    · rw [pickSet_of_idle (hx.pickVoice.trans (State.pickVoice_of_idle hpicked hload hidle false))] at hpost
      refine ih (hx.sounds e v) (hpicked.sounds p e v) (nodup_snoc hnodup fun hv => ?_) hpost
      exact (hpicked v hv).1 hidle.2.1
    · obtain ⟨note, hnote⟩ := note_of_taken hv
      obtain ⟨hpick, hnew⟩ := pickVoice_of_taken hpicked hv
      rw [pickSet_of_steal (hx.pickVoice.trans hpick) (by rw [hx.voice]; exact hnote)] at hpost
      exact ih (hx.stolen _ v) (hpicked.stolen p _ hnote) (nodup_snoc hnodup hnew) hpost
    · rw [pickSet_of_nothing (hx.pickVoice.trans
        (State.pickVoice_of_none hfree fun v hv => hnone v (victimFor_set.mp hv)))] at hpost
      exact hpost s hx hnodup

/-! ### The first key (R33, R35, R36) -/

/-- The voices picked, in ascending index order. -/
def setOf (taken : List VoiceId) : List VoiceId := allVoices.filter fun v => taken.contains v

theorem length_setOf {taken : List VoiceId} (h : taken.Nodup) : (setOf taken).length = taken.length :=
  ((List.perm_ext_iff_of_nodup (nodup_allVoices.filter _) h).mpr fun v => by
    simp [mem_allVoices]).length_eq

theorem setOf_eq_nil {taken : List VoiceId} (h : taken.Nodup) : setOf taken = [] ↔ taken = [] := by
  rw [← List.length_eq_zero_iff, length_setOf h, List.length_eq_zero_iff]

theorem State.firstKey_of_none {s : State} {p : PartId} {e : HeldKey}
    (h : (State.pickSet p e (s.wantedCount p) [] s).1 = []) : s.firstKey p e =
      ((State.pickSet p e (s.wantedCount p) [] s).2.countDropped p).postDropped p e.key 0 := by
  simp only [State.firstKey, h, if_true]

/-- The state in which the first key e of part p has its set. -/
def State.founded (p : PartId) (e : HeldKey) (wanted : Nat) (taken : List VoiceId) (s : State) : State :=
  (s.setPerf p { s.perfOf p with
    held := [e], selected := some e.key, wanted := some wanted, monoSet := setOf taken }).countSounded p

theorem State.firstKey_of_some {s : State} {p : PartId} {e : HeldKey}
    (h : (State.pickSet p e (s.wantedCount p) [] s).1 ≠ []) : s.firstKey p e =
      let picked := State.pickSet p e (s.wantedCount p) [] s
      let founded := picked.2.founded p e (s.wantedCount p) picked.1
      if picked.1.length < s.wantedCount p then founded.post .unisonShort p (s.wantedCount p) picked.1.length
      else founded := by
  simp only [State.firstKey, if_neg h]
  rfl

theorem State.perfOf_founded (s : State) (p q : PartId) (e : HeldKey) (wanted : Nat) (taken : List VoiceId) :
    (s.founded p e wanted taken).perfOf q =
      if q = p then { s.perfOf q with
        held := [e], selected := some e.key, wanted := some wanted, monoSet := setOf taken
        counters := { (s.perfOf q).counters with sounded := min 65535 ((s.perfOf q).counters.sounded + 1) } }
      else s.perfOf q := by
  unfold State.founded State.countSounded
  rw [State.perfOf_countWith]
  split
  · next h =>
    subst h
    rw [State.perfOf_setPerf_self]
    rfl
  · next h => rw [State.perfOf_setPerf_ne h]

theorem SameButVoices.link {s t : State} (h : SameButVoices s t) (m : Link) : t.link m = s.link m := by
  unfold SameButVoices at h
  rw [h]
  cases m <;> rfl

/-- The parts' records and the links alone differ. -/
def SameButRecords (s t : State) : Prop := t = { s with perf := t.perf, linkA := t.linkA, linkB := t.linkB }

theorem SameButRecords.trans {s t u : State} (h : SameButRecords s t) (k : SameButRecords t u) : SameButRecords s u := by
  unfold SameButRecords at *
  exact k.trans (by rw [h])

theorem SameButPerf.records {s t : State} (h : SameButPerf s t) : SameButRecords s t := by
  unfold SameButPerf at h
  unfold SameButRecords
  exact h.trans (by rw [h])

theorem SameButLinks.records {s t : State} (h : SameButLinks s t) : SameButRecords s t := by
  unfold SameButLinks at h
  unfold SameButRecords
  exact h.trans (by rw [h])

theorem Mirrors.records {p : PartId} {c : Counters} {x s : State} (h : Mirrors p c x s) : SameButRecords s x := by
  obtain ⟨perf, linkA, linkB, rfl, -⟩ := h
  rfl

/-- Settles O19. -/
theorem firstKeyObtainsMonoSet : Obligations.FirstKeyObtainsMonoSet := by
  intro s l p k velocity ⟨hready, hpass, hmode, hheld⟩ hv e wanted counters
  generalize hx : (s.framed l [byte p, byte k, byte velocity]).countIn p = x
  have hwork : Request.keyOn.service l [byte p, byte k, byte velocity] (s.framed l [byte p, byte k, byte velocity]) =
      (x.firstKey p e, { status := .ok, clamped := decide (127 < velocity) }) := by
    refine (keyOnService_byte l p k hv _).trans ?_
    rw [giveNote_of_mono (by cases l <;> exact hpass) (by cases l <;> exact hmode), State.monoNote, hx, if_pos]
    rw [← hx, State.countIn, State.perfOf_countWith, if_pos rfl]
    cases l <;> exact hheld
  have hwanted : x.wantedCount p = wanted := by rw [← hx]; cases l <;> rfl
  have hperf (q : PartId) : x.perfOf q = if q = p then
      { s.perfOf q with counters := { (s.perfOf q).counters with
        notesIn := min 65535 ((s.perfOf q).counters.notesIn + 1) } } else s.perfOf q := by
    rw [← hx, State.countIn, State.perfOf_countWith, State.framed, State.shiftOut_perfOf]
    rfl
  have hmirrors : Mirrors p { (s.perfOf p).counters with
      notesIn := min 65535 ((s.perfOf p).counters.notesIn + 1) } x s := by
    refine ⟨x.perf, x.linkA, x.linkB, by rw [← hx]; cases l <;> rfl, fun q => ?_⟩
    rw [hperf]
    split
    · next hq => rw [hq]
    · rfl
  have hsame : SameButVoices (s.framed l [byte p, byte k, byte velocity]) (State.pickSet p e wanted [] x).2 :=
    (show SameButVoices (s.framed l [byte p, byte k, byte velocity]) x by rw [← hx]; rfl).trans
      (sameButVoices_pickSet p e wanted [] x)
  have hstamp : (s.framed l [byte p, byte k, byte velocity]).timestamp = s.timestamp := by cases l <;> rfl
  have hpicks := fun post => obtains_of_pickSet (p := p) (e := e) (post := post) wanted hmirrors (State.picked_nil s) List.nodup_nil
  generalize hpicked : State.pickSet p e wanted [] x = picked at hsame hpicks
  have htime : picked.2.timestamp = s.timestamp := hsame.notes.timestamp.trans hstamp
  by_cases hnone : picked.1 = []
  · rw [State.firstKey_of_none (by rw [hwanted, hpicked]; exact hnone), hwanted, hpicked] at hwork
    obtain ⟨t, hexec, ⟨y, ht⟩, hown, hother⟩ := exec_of_told hready (by decide) hwork
      (yes := fun q => q.mask.getLsbD 0)
      (n := { kind := .noteDropped, subject := p, value1 := k, value2 := 0, stamp := s.timestamp })
      fun m => by rw [State.link_countDropped_post, hsame.link, htime]
    refine ⟨t, hexec, hpicks _ fun u hu hnodup => ?_⟩
    have hset : allVoices.filter (fun v => picked.1.contains v) = [] := (setOf_eq_nil hnodup).mpr hnone
    have hrecord (q : PartId) : t.perfOf q = if q = p then
        { picked.2.perfOf q with counters := { (picked.2.perfOf q).counters with
          dropped := min 65535 ((picked.2.perfOf q).counters.dropped + 1) } } else picked.2.perfOf q := by
      rw [ht, State.setLink_perfOf, State.postDropped_perfOf, State.countDropped, State.perfOf_countWith]
      rfl
    have hframe : SameButRecords u t := by
      rw [ht]
      exact ((hu.records.trans (show SameButPerf picked.2 (picked.2.countDropped p) from rfl).records).trans
        (sameButLinks_post .noteDropped p e.key 0 _).records).trans (sameButLinks_setLink l y _).records
    obtain ⟨perf, linkA, linkB, hpicked, hrecords⟩ := hu
    refine ⟨hframe, fun q hq => ?_, fun h => absurd hset h, fun _ => ⟨?_, hown, hother⟩⟩
    · rw [hrecord, if_neg hq, hrecords, if_neg hq]
    · rw [hrecord, if_pos rfl, hrecords, if_pos rfl]
      rfl
  · rw [State.firstKey_of_some (by rw [hwanted, hpicked]; exact hnone), hwanted, hpicked] at hwork
    dsimp only at hwork
    obtain ⟨t, hexec, ⟨y, ht⟩, hown, hother⟩ := exec_of_told hready (by decide) hwork
      (yes := fun q => decide (picked.1.length < wanted) && q.mask.getLsbD 0)
      (n := { kind := .unisonShort, subject := p, value1 := wanted, value2 := picked.1.length, stamp := s.timestamp })
      fun m => by
        rw [← hsame.link, ← htime]
        split
        · next hshort =>
          rw [decide_eq_true hshort, Bool.true_and]
          exact State.link_post .unisonShort p wanted picked.1.length m _
        · next hshort => rw [decide_eq_false hshort, Bool.false_and]; rfl
    refine ⟨t, hexec, hpicks _ fun u hu hnodup => ?_⟩
    have hset : allVoices.filter (fun v => picked.1.contains v) ≠ [] := fun h => hnone ((setOf_eq_nil hnodup).mp h)
    have hlength : (allVoices.filter fun v => picked.1.contains v).length = picked.1.length := length_setOf hnodup
    have hrecord (q : PartId) : t.perfOf q = (picked.2.founded p e wanted picked.1).perfOf q := by
      rw [ht, State.setLink_perfOf]
      split
      · exact State.post_perfOf ..
      · rfl
    have hframe : SameButRecords u t := by
      have hfounded : SameButRecords picked.2 (picked.2.founded p e wanted picked.1) :=
        (show SameButPerf picked.2 (picked.2.founded p e wanted picked.1) from rfl).records
      rw [ht]
      refine (hu.records.trans (hfounded.trans ?_)).trans (sameButLinks_setLink l y _).records
      split
      · exact (sameButLinks_post .unisonShort p wanted picked.1.length _).records
      · rfl
    obtain ⟨perf, linkA, linkB, hpicked, hrecords⟩ := hu
    refine ⟨hframe, fun q hq => ?_, fun _ => ⟨?_, ?_⟩, fun h => absurd h hset⟩
    · rw [hrecord, State.perfOf_founded, if_neg hq, hrecords, if_neg hq]
    · rw [hrecord, State.perfOf_founded, if_pos rfl, hrecords, if_pos rfl]
      rfl
    · rw [hlength]
      exact ⟨hown, hother⟩

end Sys2Proof.Machine
end

section
/-! PROOFS. Writes of single parameters, staging, and the steps and the end of a morph (R54 to R57, R67, R74 to R78, R83,
R84, R106). -/

namespace Sys2Proof.Machine

/-! ### Requests that tell the links one notice -/

/-- A request whose service tells some links of one notice leaves its reply and that notice. -/
theorem exec_of_telling {s : State} {l : Link} (hready : s.ready l) {r : Request} (hr : r ≠ .resetDevice)
    {payload : List Byte} {u : State} {a : Answer} (hwork : r.service l payload (s.framed l payload) = (u, a))
    {yes : Link → Bool} {n : Notice} (hlinks : ∀ m, u.link m = ((s.framed l payload).link m).told (yes m) n) :
    ∃ t, exec (commandOf l payload r) s = .next t
      ∧ (∃ x, t = u.setLink l x)
      ∧ t.link l = ((s.link l).took (2 + payload.length) (a.toReply r.code)).told (yes l) n
      ∧ t.link l.other = (s.link l.other).told (yes l.other) n := by
  refine ⟨_, exec_request_of_running hready hr payload, ?_, ?_, ?_⟩ <;> rw [hwork]
  · exact ⟨_, rfl⟩
  · rw [State.link_setLink_self, hlinks]
    simp only [LinkUnit.told_eq, LinkUnit.took, fillers, State.framed, State.link_shiftOut_self]
  · rw [State.link_other_setLink, hlinks, State.framed, State.link_shiftOut_ne (Link.other_ne l)]

/-! ### Frames of the image, the slots and the bindings -/

/-- The live values of the parts, the slots, the knob bindings and the links alone differ. -/
def SameButImage (s t : State) : Prop :=
  t = { s with params := t.params, slots := t.slots, knobs := t.knobs, linkA := t.linkA, linkB := t.linkB }

theorem SameButImage.refl (s : State) : SameButImage s s := rfl

theorem SameButImage.trans {s t u : State} (h : SameButImage s t) (k : SameButImage t u) : SameButImage s u := by
  unfold SameButImage at *
  exact k.trans (by rw [h])

theorem SameButLinks.trans {s t u : State} (h : SameButLinks s t) (k : SameButLinks t u) : SameButLinks s u := by
  unfold SameButLinks at *
  exact k.trans (by rw [h])

theorem SameButLinks.image {s t : State} (h : SameButLinks s t) : SameButImage s t := by
  unfold SameButLinks at h
  unfold SameButImage
  exact h.trans (by rw [h])

theorem SameButImage.timestamp {s t : State} (h : SameButImage s t) : t.timestamp = s.timestamp := by
  unfold SameButImage at h
  rw [h]

theorem SameButImage.reportedAt {s t : State} (h : SameButImage s t) (k : ControlId) :
    Given.reportedAt t k = Given.reportedAt s k := by
  unfold SameButImage at h
  rw [h]
  rfl

/-- Where the slots stay. -/
theorem SameButImage.of_slots {s t : State} (h : SameButImage s t) (hslots : t.slots = s.slots) :
    t = { s with params := t.params, knobs := t.knobs, linkA := t.linkA, linkB := t.linkB } := by
  unfold SameButImage at h
  rw [hslots] at h
  exact h

theorem sameButImage_framed (s : State) (l : Link) (payload : List Byte) : SameButImage s (s.framed l payload) := by
  cases l <;> rfl

theorem sameButImage_setParam (p : PartId) (i : ParamId) (x : Nat) (s : State) : SameButImage s (s.setParam p i x) := rfl

theorem sameButImage_tellMap (p : PartId) (i : ParamId) (x : Nat) (s : State) : SameButImage s (s.tellMap p i x) := by
  unfold State.tellMap
  generalize Vector.ofFn (s.toldKnob p i x) = b
  rfl

theorem sameButImage_setSlot (p : PartId) (m : Option Morph) (s : State) : SameButImage s (s.setSlot p m) := rfl

theorem sameButImage_postParamChanged (w : Writer) (c i x : Nat) (s : State) :
    SameButImage s (s.postParamChanged w c i x) := (sameButLinks_postWhere _ _ _ _ _ s).image

/-! ### The control map is told (R105, R106) -/

@[simp] theorem State.tellMap_slots (p : PartId) (i : ParamId) (x : Nat) (s : State) :
    (s.tellMap p i x).slots = s.slots := by
  rw [State.tellMap]

@[simp] theorem State.tellMap_param (p : PartId) (i : ParamId) (x : Nat) (q : PartId) (j : ParamId) (s : State) :
    (s.tellMap p i x).param q j = s.param q j := by
  unfold State.tellMap
  generalize Vector.ofFn (s.toldKnob p i x) = b
  rfl

@[simp] theorem State.tellMap_slotOf (p : PartId) (i : ParamId) (x : Nat) (q : PartId) (s : State) :
    (s.tellMap p i x).slotOf q = s.slotOf q := by
  unfold State.tellMap
  generalize Vector.ofFn (s.toldKnob p i x) = b
  rfl

@[simp] theorem State.tellMap_link (p : PartId) (i : ParamId) (x : Nat) (m : Link) (s : State) :
    (s.tellMap p i x).link m = s.link m := by
  unfold State.tellMap
  generalize Vector.ofFn (s.toldKnob p i x) = b
  cases m <;> rfl

theorem KnobBinding.enter_eq (s : State) (k : ControlId) (ref : Nat) (b : KnobBinding) : b.enter (s.control k) ref =
    { b with pickup := Given.pickupFor b.mode (Given.knobPosition b.index (Given.reportedAt s k)) ref } := by
  have hstate : enterState b.mode = Given.pickupFor b.mode := by
    funext kv ref
    unfold enterState Given.pickupFor
    cases b.mode <;> rfl
  rw [KnobBinding.enter, hstate]
  simp only [knobValue, Given.knobPosition, Control.reportedOr0, Given.reportedAt]

theorem State.knob_tellMap (s : State) (p : PartId) (i : ParamId) (ref : Nat) (k : ControlId) :
    (s.tellMap p i ref).knob k = (s.knob k).map (Given.told p (Given.only i ref) (Given.reportedAt s k)) := by
  have h : (s.tellMap p i ref).knob k = s.toldKnob p i ref k := by simp [State.tellMap, State.knob]
  rw [h, State.toldKnob]
  refine congrArg (fun f => (s.knob k).map f) (funext fun b => ?_)
  unfold Given.told Given.only
  by_cases hi : b.index = i
  · by_cases hp : b.part = p
    · simp [hi, hp, KnobBinding.enter_eq]
    · simp [hi, hp]
  · simp [hi]

/-! ### A write outside a morph and without a reconcile (R54 to R57) -/

theorem isStruct_eq_false {i : ParamId} (h : (descriptor i).cls ≠ .struct) : isStruct i = false := by
  simpa [isStruct] using h

theorem State.isMorphing_eq_false {s : State} {p : PartId} {i : ParamId}
    (h : ∀ m ∈ s.slotOf p, ∀ e ∈ m.entries, e.index ≠ i) : s.isMorphing p i = false := by
  unfold State.isMorphing
  cases hslot : s.slotOf p with
  | none => rfl
  | some m => simpa using h m (by rw [hslot]; rfl)

theorem State.takeAway_of_not {s : State} {p : PartId} {i : ParamId} (h : s.isMorphing p i = false) :
    s.takeAway p i = s := by
  unfold State.takeAway
  unfold State.isMorphing at h
  cases hslot : s.slotOf p with
  | none => rfl
  | some m =>
    rw [hslot] at h
    exact if_neg (Bool.eq_false_iff.mp h)

theorem State.link_postParamChanged (s : State) (w : Writer) (partCode index value : Nat) (m : Link) :
    (s.postParamChanged w partCode index value).link m =
      (s.link m).told ((s.link m).queue.mask.getLsbD 1 && w != .link m)
        { kind := .paramChanged, subject := partCode, value1 := 256 * w.code + index, value2 := value
          stamp := s.timestamp } :=
  State.link_postWhere _ _ _ _ _ m s

/-- A write that takes nothing out of a morph and needs no reconcile. -/
theorem State.writeParam_of_plain {s : State} {p : PartId} {i : ParamId} (hmorph : s.isMorphing p i = false) {x : Nat}
    (hstruct : isStruct i = false ∨ x = s.param p i) (w : Writer) :
    s.writeParam w p i x = ((s.setParam p i x).tellMap p i x).postParamChanged w p i x := by
  have hrest : (isStruct i && x != s.params[p][i]) = false := by
    rcases hstruct with h | h
    · rw [h, Bool.false_and]
    · rw [h]
      simp [State.param]
  have htake : (s.setParam p i x).takeAway p i = s.setParam p i x := State.takeAway_of_not hmorph
  simp only [State.writeParam, htake, hmorph, hrest]
  rfl

theorem paramSetService_byte (l : Link) (p : PartId) (i : ParamId) {x : Nat} (hx : x < 65536) (s : State) :
    paramSetService l ([byte p, byte i] ++ field16 x) s =
      (s.writeParam (.link l) p i (clampParam i x), { status := .ok, clamped := clampParam i x != x
                                                      data := [byte p, byte i] ++ le16 (clampParam i x) }) := by
  have hi : field? 40 (byte i) = some i := field?_byte (by decide) i
  simp [paramSetService, field16, u16_field16 hx, hi]

theorem clampParam_lt {i : ParamId} (x : Nat) : clampParam i x < 65536 :=
  lt_of_le_of_lt (inRange_clampParam i x).2 ((show ∀ i : ParamId, (descriptor i).max < 65536 by decide) i)

/-- What a write that a link made says of itself. -/
theorem told_other (l : Link) : (Writer.link l != .link l) = false ∧ (Writer.link l != .link l.other) = true := by
  cases l <;> decide

theorem State.param_framed (s : State) (l : Link) (payload : List Byte) (p : PartId) (i : ParamId) :
    (s.framed l payload).param p i = s.param p i := by cases l <;> rfl

theorem State.slots_framed (s : State) (l : Link) (payload : List Byte) : (s.framed l payload).slots = s.slots := by
  cases l <;> rfl

theorem State.slotOf_framed (s : State) (l : Link) (payload : List Byte) (p : PartId) :
    (s.framed l payload).slotOf p = s.slotOf p := by cases l <;> rfl

theorem State.knob_framed (s : State) (l : Link) (payload : List Byte) (k : ControlId) :
    (s.framed l payload).knob k = s.knob k := by cases l <;> rfl

/-- PARAM_SET whose write leaves the links alone up to its own notice. -/
theorem exec_paramSet_of {s u : State} {l : Link} {p : PartId} {i : ParamId} {x : Nat} (hready : s.ready l)
    (hx : x < 65536) (hwrite : (s.framed l ([byte p, byte i] ++ field16 x)).writeParam (.link l) p i (clampParam i x) =
      u.postParamChanged (.link l) p i (clampParam i x))
    (hlinks : ∀ m, u.link m = (s.framed l ([byte p, byte i] ++ field16 x)).link m) (hstamp : u.timestamp = s.timestamp) :
    ∃ t, exec (.paramSet l ([byte p, byte i] ++ field16 x)) s = .next t
      ∧ (∃ y, t = (u.postParamChanged (.link l) p i (clampParam i x)).setLink l y)
      ∧ t.link l = (s.link l).took 6 (okReply 0x10 (clampParam i x != x) false
          ([byte p, byte i] ++ field16 (clampParam i x)))
      ∧ t.link l.other = (s.link l.other).told ((s.link l.other).queue.mask.getLsbD 1)
          { kind := .paramChanged, subject := p, value1 := 256 * linkCode l + i, value2 := clampParam i x
            stamp := s.timestamp } := by
  have hwork : Request.paramSet.service l ([byte p, byte i] ++ field16 x) (s.framed l ([byte p, byte i] ++ field16 x)) = _ :=
    paramSetService_byte l p i hx _
  rw [hwrite, le16_eq_field16 (clampParam_lt x)] at hwork
  obtain ⟨t, hexec, hform, hown, hother⟩ := exec_of_telling hready (by decide) hwork
    (yes := fun m => (s.link m).queue.mask.getLsbD 1 && Writer.link l != .link m)
    (n := { kind := .paramChanged, subject := p, value1 := 256 * linkCode l + i, value2 := clampParam i x
            stamp := s.timestamp })
    fun m => by
      rw [State.link_postParamChanged, hlinks, hstamp]
      cases l <;> cases m <;> rfl
  rw [(told_other l).1, Bool.and_false] at hown
  rw [(told_other l).2, Bool.and_true] at hother
  exact ⟨t, hexec, hform, hown, hother⟩

/-- PARAM_SET where the write takes nothing out of a morph and needs no reconcile. -/
theorem exec_paramSet_plain {s : State} {l : Link} {p : PartId} {i : ParamId} {x : Nat} (hready : s.ready l)
    (hmorph : ∀ m ∈ s.slotOf p, ∀ e ∈ m.entries, e.index ≠ i)
    (hstruct : isStruct i = false ∨ Given.clamped i x = s.param p i) (hx : x < 65536) :
    ∃ t, exec (.paramSet l ([byte p, byte i] ++ field16 x)) s = .next t
      ∧ t = { s with params := t.params, knobs := t.knobs, linkA := t.linkA, linkB := t.linkB }
      ∧ Given.paramWritten s t l p i x (Given.clamped i x) := by
  have hframed := sameButImage_framed s l ([byte p, byte i] ++ field16 x)
  have hwrite := State.writeParam_of_plain (s := s.framed l ([byte p, byte i] ++ field16 x)) (p := p) (i := i)
    (x := clampParam i x) (State.isMorphing_eq_false (by rw [State.slotOf_framed]; exact hmorph))
    (hstruct.imp_right fun h => by rw [State.param_framed]; exact h) (.link l)
  have hslots := State.slots_framed s l ([byte p, byte i] ++ field16 x)
  have hparam := State.param_framed s l ([byte p, byte i] ++ field16 x)
  have hknob := State.knob_framed s l ([byte p, byte i] ++ field16 x)
  obtain ⟨t, hexec, ⟨z, ht⟩, hown, hother⟩ := exec_paramSet_of hready hx hwrite
    (fun m => by rw [State.tellMap_link, State.setParam_link])
    (((sameButImage_setParam p i _ _).trans (sameButImage_tellMap p i _ _)).timestamp.trans hframed.timestamp)
  generalize s.framed l ([byte p, byte i] ++ field16 x) = f at *
  have hset := hframed.trans (sameButImage_setParam p i (clampParam i x) f)
  have hframe : SameButImage s t := by
    rw [ht]
    exact hset.trans ((sameButImage_tellMap p i _ _).trans ((sameButImage_postParamChanged _ _ _ _ _).trans
      (sameButLinks_setLink l z _).image))
  refine ⟨t, hexec, hframe.of_slots ?_, ?_, fun q j hne => ?_, fun k => ?_, hown, hother⟩ <;> rw [ht]
  · simp [State.postParamChanged, hslots]
  · simp [State.postParamChanged]
    rfl
  · simp [State.postParamChanged, State.param_setParam_ne hne, hparam]
  · simp [State.postParamChanged, State.knob_tellMap, hset.reportedAt, hknob]
    rfl

/-- Settles O25: a CONT or STEP parameter that is no entry of a running morph is written plainly. -/
theorem paramSetStoresClampedValue : Obligations.ParamSetStoresClampedValue := by
  unfold Obligations.ParamSetStoresClampedValue
  rintro s l p i x ⟨hready, hcls, hmorph⟩ hx
  exact exec_paramSet_plain hready hmorph (.inl (isStruct_eq_false hcls)) hx

/-! ### A write of a global parameter (R53, R55, R56, R151) -/

theorem globalRanges_lt : ∀ g : GlobalId, globalRanges[g].1 < 65536 ∧ globalRanges[g].2 < 65536 := by decide

theorem clampGlobal_lt (g : GlobalId) (x : Nat) : clampGlobal g x < 65536 := by
  obtain ⟨hmin, hmax⟩ := globalRanges_lt g
  unfold clampGlobal clampTo
  omega

theorem paramSetService_global (l : Link) (g : GlobalId) {x : Nat} (hx : x < 65536) (s : State) :
    paramSetService l ([0x04#8, byte g] ++ field16 x) s =
      (s.writeGlobal (.link l) g (clampGlobal g x), { status := .ok, clamped := clampGlobal g x != x
                                                      data := [0x04#8, byte g] ++ field16 (clampGlobal g x) }) := by
  have hpart : part? 0x04#8 = none := by decide
  have hg : field? 16 (byte g) = some g := field?_byte (by decide) g
  simp [paramSetService, field16, u16_field16 hx, hg, hpart, globalCode, le16_eq_field16 (clampGlobal_lt g x)]

/-- The state that a write of a global parameter leaves but for its notice. -/
theorem State.writeGlobal_eq (s : State) (w : Writer) (g : GlobalId) (x : Nat) : s.writeGlobal w g x =
    State.postParamChanged w 4 g x
      { s with globals := s.globals.set g x
               retune := if g = gRetuneInterval then (if x = 0 then none else some x) else s.retune } := by
  unfold State.writeGlobal
  by_cases hg : g = gRetuneInterval
  · simp only [hg, if_true]
    rfl
  · simp only [hg, if_false]
    rfl

/-- Settles O26. -/
theorem paramSetStoresGlobal : Obligations.ParamSetStoresGlobal := by
  unfold Obligations.ParamSetStoresGlobal
  intro s l g x hready hx y told
  have hwork : Request.paramSet.service l ([0x04#8, byte g] ++ field16 x) (s.framed l ([0x04#8, byte g] ++ field16 x)) = _ :=
    paramSetService_global l g hx _
  obtain ⟨u, hu⟩ : ∃ u : State, u =
      { s.framed l ([0x04#8, byte g] ++ field16 x) with
        globals := s.globals.set g y
        retune := if g = gRetuneInterval then (if y = 0 then none else some y) else s.retune } := ⟨_, rfl⟩
  have hwrite : (s.framed l ([0x04#8, byte g] ++ field16 x)).writeGlobal (.link l) g (clampGlobal g x) =
      u.postParamChanged (.link l) 4 g (clampGlobal g x) := (State.writeGlobal_eq _ _ _ _).trans (by rw [hu]; cases l <;> rfl)
  rw [hwrite] at hwork
  obtain ⟨t, hexec, ⟨z, ht⟩, hown, hother⟩ := exec_of_telling hready (by decide) hwork
    (yes := fun m => (s.link m).queue.mask.getLsbD 1 && Writer.link l != .link m) (n := told)
    fun m => (State.link_postParamChanged _ _ 4 g _ m).trans (by rw [hu]; cases l <;> cases m <;> rfl)
  rw [(told_other l).1, Bool.and_false] at hown
  rw [(told_other l).2, Bool.and_true] at hother
  have hglobals : t.globals = s.globals.set g y := by
    rw [ht, State.setLink_globals, State.postParamChanged, State.postWhere_globals, hu]
  have hretune : t.retune = if g = gRetuneInterval then (if y = 0 then none else some y) else s.retune := by
    rw [ht, State.setLink_retune, State.postParamChanged, State.postWhere_retune, hu]
  refine ⟨t, hexec, ?_, ?_, fun h hne => ?_, hretune, hown, hother⟩
  · have hpost : SameButLinks u t := by
      rw [ht]
      exact (sameButLinks_postWhere _ _ _ _ _ u).trans (sameButLinks_setLink l z _)
    rw [hglobals, hretune]
    unfold SameButLinks at hpost
    rw [hpost, hu]
    cases l <;> rfl
  · rw [State.global, hglobals]
    simp
  · have hval : g.val ≠ h.val := fun e => hne (Fin.ext e.symm)
    rw [State.global, State.global, hglobals]
    simp [hval]

/-! ### STAGE_WRITE (R67) -/

/-- A request whose service replaces the staging buffer of its link. -/
theorem exec_of_staging {s : State} {l : Link} (hready : s.ready l) {r : Request} (hr : r ≠ .resetDevice)
    {payload : List Byte} {st : Vector (Option Nat) 40} {a : Answer}
    (hwork : r.service l payload (s.framed l payload) = ((s.framed l payload).setStaging l st, a)) :
    ∃ t, exec (commandOf l payload r) s = .next t ∧ SameButLinks s t ∧ t.link l.other = s.link l.other
      ∧ t.link l = { (s.link l).took (2 + payload.length) (a.toReply r.code) with staging := st } := by
  refine ⟨_, exec_request_of_running hready hr payload, ?_, ?_, ?_⟩ <;> rw [hwork] <;> cases l <;> rfl

theorem values16?_flatMap_field16 {vs : List Nat} (h : ∀ x ∈ vs, x < 65536) : values16? (vs.flatMap field16) = some vs := by
  induction vs with
  | nil => rfl
  | cons x xs ih =>
    have hx := u16_field16 (h x List.mem_cons_self)
    have hxs := ih fun y hy => h y (List.mem_cons_of_mem _ hy)
    simp [List.flatMap_cons, field16, values16?, hxs, hx]

theorem presentCount_eq (st : Vector (Option Nat) 40) :
    presentCount st = (List.finRange 40).countP fun i => st[i].isSome := by
  rw [presentCount, presentEntries, List.length_filterMap_eq_countP]
  simp

theorem stageWriteService_byte {l : Link} {first : Nat} {vs : List Nat} (hvs : ∀ x ∈ vs, x < 65536)
    (hlen : 1 ≤ vs.length) (hfit : first + vs.length ≤ 40) (s : State) :
    stageWriteService l (byte first :: vs.flatMap field16) s =
      (s.setStaging l (writeStaging first vs (s.link l).staging),
        { status := .ok, clamped := stagingClamps first vs
          data := [byte (presentCount (writeStaging first vs (s.link l).staging))] }) := by
  have hne : vs ≠ [] := fun h => by simp [h] at hlen
  have hcount : ¬(vs = [] ∨ 40 < vs.length) := by simp [hne]; omega
  have hrange : ¬(40 ≤ first ∨ 40 < first + vs.length) := by omega
  simp only [stageWriteService, values16?_flatMap_field16 hvs, toNat_byte (show first < 256 by omega), if_neg hcount,
    if_neg hrange]

theorem length_flatMap_field16 (vs : List Nat) : (vs.flatMap field16).length = 2 * vs.length := by
  simp [List.length_flatMap, field16, Nat.mul_comm]

theorem writeStaging_of_some {first : Nat} {vs : List Nat} {i : ParamId} {x : Nat} (h : stagedValue first vs i = some x)
    (st : Vector (Option Nat) 40) : (writeStaging first vs st)[i] = some (clampParam i x) := by
  simp [writeStaging, h]

theorem writeStaging_of_none {first : Nat} {vs : List Nat} {i : ParamId} (h : stagedValue first vs i = none)
    (st : Vector (Option Nat) 40) : (writeStaging first vs st)[i] = st[i] := by
  simp [writeStaging, h]

/-- Settles O27. -/
theorem stageWriteStoresClampedRun : Obligations.StageWriteStoresClampedRun := by
  unfold Obligations.StageWriteStoresClampedRun
  rintro s l first vs ⟨hready, hlen, hfit, hvs⟩
  have hstaging : ((s.framed l (byte first :: vs.flatMap field16)).link l).staging = (s.link l).staging := by
    cases l <;> rfl
  have hwork : Request.stageWrite.service l (byte first :: vs.flatMap field16) _ = _ :=
    stageWriteService_byte hvs hlen hfit (s.framed l (byte first :: vs.flatMap field16))
  rw [hstaging] at hwork
  obtain ⟨t, hexec, hframe, hother, hown⟩ := exec_of_staging hready (by decide) hwork
  have hst : (t.link l).staging = writeStaging first vs (s.link l).staging := by rw [hown]
  have hlength : 2 + (byte first :: vs.flatMap field16).length = 3 + 2 * vs.length := by
    rw [List.length_cons, length_flatMap_field16]
    omega
  rw [hlength] at hown
  refine ⟨t, _, hexec, hframe, hother, hown.trans (by rw [hst]), fun i x hle hget => ?_, fun i hout => ?_, rfl, ?_⟩
  · rw [hst]
    exact writeStaging_of_some (by rw [stagedValue, if_pos hle, hget]) _
  · rw [hst]
    refine writeStaging_of_none ?_ _
    unfold stagedValue
    split
    · exact List.getElem?_eq_none (by omega)
    · rfl
  · rw [hst, ← presentCount_eq]
    rfl

/-! ### Several values are written and told at once (R76, R78, R83, R84) -/

/-- The value that a list of writes gives a parameter. -/
def valueIn (es : List (ParamId × Nat)) (j : ParamId) : Option Nat := (es.find? fun e => e.1 == j).map Prod.snd

theorem valueIn_cons (e : ParamId × Nat) (es : List (ParamId × Nat)) (j : ParamId) :
    valueIn (e :: es) j = if e.1 = j then some e.2 else valueIn es j := by
  by_cases h : e.1 = j <;> simp [valueIn, h]

theorem valueIn_eq_none {es : List (ParamId × Nat)} {j : ParamId} (h : j ∉ es.map Prod.fst) : valueIn es j = none := by
  rw [valueIn, Option.map_eq_none_iff, List.find?_eq_none]
  intro e he heq
  exact h (List.mem_map.mpr ⟨e, he, beq_iff_eq.mp heq⟩)

theorem valueIn_of_mem {es : List (ParamId × Nat)} (hnodup : (es.map Prod.fst).Nodup) {e : ParamId × Nat} (he : e ∈ es) :
    valueIn es e.1 = some e.2 := by
  induction es with
  | nil => simp at he
  | cons f fs ih =>
    rw [List.map_cons, List.nodup_cons] at hnodup
    rw [valueIn_cons]
    rcases List.mem_cons.mp he with rfl | hmem
    · exact if_pos rfl
    · rw [if_neg fun h => hnodup.1 (List.mem_map.mpr ⟨e, hmem, Eq.symm h⟩)]
      exact ih hnodup.2 hmem

theorem valueIn_map {α : Type} (xs : List α) (index : α → ParamId) (value : α → Nat) (j : ParamId) :
    valueIn (xs.map fun x => (index x, value x)) j = (xs.find? fun x => index x == j).map value := by
  rw [valueIn, List.find?_map, Option.map_map]
  rfl

/-- A list of writes to a part's image. -/
def State.setParams (p : PartId) (es : List (ParamId × Nat)) (s : State) : State :=
  es.foldl (fun s e => s.setParam p e.1 e.2) s

/-- The live values of the parts alone differ. -/
def SameButParams (s t : State) : Prop := t = { s with params := t.params }

theorem sameButParams_setParams (p : PartId) (es : List (ParamId × Nat)) (s : State) :
    SameButParams s (s.setParams p es) := by
  induction es generalizing s with
  | nil => rfl
  | cons e es ih =>
    have h := ih (s.setParam p e.1 e.2)
    unfold SameButParams at *
    exact h

theorem param_setParams {es : List (ParamId × Nat)} (hnodup : (es.map Prod.fst).Nodup) (p : PartId) (s : State) (q : PartId)
    (j : ParamId) : (s.setParams p es).param q j = if q = p then (valueIn es j).getD (s.param q j) else s.param q j := by
  induction es generalizing s with
  | nil => simp [State.setParams, valueIn]
  | cons e es ih =>
    rw [List.map_cons, List.nodup_cons] at hnodup
    have h := ih hnodup.2 (s.setParam p e.1 e.2)
    rw [State.param_setParam] at h
    rw [State.setParams, List.foldl_cons]
    refine h.trans ?_
    rw [valueIn_cons]
    by_cases hq : q = p
    · by_cases hj : e.1 = j
      · have hnone : valueIn es j = none := valueIn_eq_none (hj ▸ hnodup.1)
        simp [hq, hj, hnone]
      · simp [hq, hj, Ne.symm hj]
    · simp [hq]

/-- The knob bindings alone differ. -/
def SameButKnobs (s t : State) : Prop := t = { s with knobs := t.knobs }

theorem sameButKnobs_tellMap (p : PartId) (i : ParamId) (x : Nat) (s : State) : SameButKnobs s (s.tellMap p i x) := by
  unfold State.tellMap
  generalize Vector.ofFn (s.toldKnob p i x) = b
  rfl

theorem SameButKnobs.trans {s t u : State} (h : SameButKnobs s t) (k : SameButKnobs t u) : SameButKnobs s u := by
  unfold SameButKnobs at *
  exact k.trans (by rw [h])

theorem SameButKnobs.refl (s : State) : SameButKnobs s s := rfl

theorem State.tellAll_nil (p : PartId) (s : State) : s.tellAll p [] = s := by rw [State.tellAll, List.foldl_nil]

theorem State.tellAll_cons (p : PartId) (e : ParamId × Nat) (es : List (ParamId × Nat)) (s : State) :
    s.tellAll p (e :: es) = (s.tellMap p e.1 e.2).tellAll p es := by
  rw [State.tellAll, State.tellAll, List.foldl_cons]

theorem sameButKnobs_tellAll (p : PartId) (es : List (ParamId × Nat)) (s : State) : SameButKnobs s (s.tellAll p es) := by
  induction es generalizing s with
  | nil => rw [State.tellAll_nil]; exact .refl s
  | cons e es ih =>
    rw [State.tellAll_cons]
    exact (sameButKnobs_tellMap p e.1 e.2 s).trans (ih _)

theorem SameButKnobs.reportedAt {s t : State} (h : SameButKnobs s t) (k : ControlId) :
    Given.reportedAt t k = Given.reportedAt s k := by
  unfold SameButKnobs at h
  rw [h]
  rfl

theorem Given.told_told (p : PartId) (r₁ r₂ : ParamId → Option Nat) (pos : Nat) (b : KnobBinding) :
    Given.told p r₂ pos (Given.told p r₁ pos b) = Given.told p (fun j => (r₂ j).or (r₁ j)) pos b := by
  unfold Given.told
  cases h₁ : r₁ b.index with
  | none => simp [h₁]
  | some x =>
    by_cases hp : b.part = p
    · cases h₂ : r₂ b.index <;> simp [hp, h₁, h₂]
    · cases h₂ : r₂ b.index <;> simp [hp, h₁, h₂]

theorem knob_tellAll {es : List (ParamId × Nat)} (hnodup : (es.map Prod.fst).Nodup) (p : PartId) (s : State)
    (k : ControlId) :
    (s.tellAll p es).knob k = (s.knob k).map (Given.told p (valueIn es) (Given.reportedAt s k)) := by
  induction es generalizing s with
  | nil =>
    rw [show Given.told p (valueIn []) (Given.reportedAt s k) = id from rfl, Option.map_id, State.tellAll_nil]
    rfl
  | cons e es ih =>
    rw [List.map_cons, List.nodup_cons] at hnodup
    have h := ih hnodup.2 (s.tellMap p e.1 e.2)
    rw [State.knob_tellMap, (sameButKnobs_tellMap p e.1 e.2 s).reportedAt, Option.map_map] at h
    rw [State.tellAll_cons]
    refine h.trans (congrArg (fun f => (s.knob k).map f) (funext fun b => ?_))
    rw [Function.comp_apply, Given.told_told]
    refine congrArg (fun r => Given.told p r _ b) (funext fun j => ?_)
    rw [valueIn_cons, Given.only]
    by_cases hj : e.1 = j
    · rw [if_pos hj, if_pos hj.symm, valueIn_eq_none (hj ▸ hnodup.1)]
      rfl
    · rw [if_neg hj, if_neg (Ne.symm hj)]
      simp

end Sys2Proof.Machine
end

section
/-! PROOFS. MORPH_CANCEL and the steps of a morph (R74 to R78, R83 to R85). -/

namespace Sys2Proof.Machine

/-! ### The end of a chain writes and tells every entry (R78, R83, R84) -/

/-- A chain's final values are written, told and announced, and its slot goes IDLE. -/
def State.finishMorph (p : PartId) (es : List (ParamId × Nat)) (dest : Link → Bool) (kind : NoticeKind) (a b : Nat)
    (s : State) : State :=
  ((((s.setParams p es).tellAll p es).postAlso dest kind p a b)).setSlot p none

theorem SameButParams.image {s t : State} (h : SameButParams s t) : SameButImage s t := by
  unfold SameButParams at h
  unfold SameButImage
  exact h.trans (by rw [h])

theorem SameButKnobs.image {s t : State} (h : SameButKnobs s t) : SameButImage s t := by
  unfold SameButKnobs at h
  unfold SameButImage
  exact h.trans (by rw [h])

theorem SameButParams.link {s t : State} (h : SameButParams s t) (m : Link) : t.link m = s.link m := by
  unfold SameButParams at h
  rw [h]
  cases m <;> rfl

theorem SameButKnobs.link {s t : State} (h : SameButKnobs s t) (m : Link) : t.link m = s.link m := by
  unfold SameButKnobs at h
  rw [h]
  cases m <;> rfl

theorem SameButParams.slotOf {s t : State} (h : SameButParams s t) (q : PartId) : t.slotOf q = s.slotOf q := by
  unfold SameButParams at h
  rw [h]
  rfl

theorem SameButParams.knob {s t : State} (h : SameButParams s t) (k : ControlId) : t.knob k = s.knob k := by
  unfold SameButParams at h
  rw [h]
  rfl

theorem SameButKnobs.slotOf {s t : State} (h : SameButKnobs s t) (q : PartId) : t.slotOf q = s.slotOf q := by
  unfold SameButKnobs at h
  rw [h]
  rfl

theorem SameButKnobs.param {s t : State} (h : SameButKnobs s t) (q : PartId) (i : ParamId) : t.param q i = s.param q i := by
  unfold SameButKnobs at h
  rw [h]
  rfl

section
variable {p : PartId} {es : List (ParamId × Nat)} {dest : Link → Bool} {kind : NoticeKind} {a b : Nat} {s : State}

theorem sameButImage_finishMorph : SameButImage s (s.finishMorph p es dest kind a b) := by
  have hparams := sameButParams_setParams p es s
  have hknobs := sameButKnobs_tellAll p es (s.setParams p es)
  exact hparams.image.trans (hknobs.image.trans ((sameButLinks_postAlso dest kind p a b _).image.trans
    (sameButImage_setSlot p none _)))

theorem link_finishMorph (m : Link) : (s.finishMorph p es dest kind a b).link m =
    (s.link m).told (dest m || (s.link m).queue.mask.getLsbD kind.group.bit)
      { kind, subject := p, value1 := a, value2 := b, stamp := s.timestamp } := by
  have hstamp := ((sameButParams_setParams p es s).image.trans
    (sameButKnobs_tellAll p es (s.setParams p es)).image).timestamp
  have hlink : ∀ m, ((s.setParams p es).tellAll p es).link m = s.link m := fun m =>
    ((sameButKnobs_tellAll p es _).link m).trans ((sameButParams_setParams p es s).link m)
  rw [State.finishMorph, State.setSlot_link, State.postAlso, State.link_postWhere, State.subscribed, hlink, hstamp]
  rfl

theorem slotOf_finishMorph (q : PartId) :
    (s.finishMorph p es dest kind a b).slotOf q = if q = p then none else s.slotOf q := by
  rw [State.finishMorph]
  by_cases hq : q = p
  · rw [if_pos hq, hq, State.slotOf_setSlot_self]
  · rw [if_neg hq, State.slotOf_setSlot_ne hq, State.postAlso, State.postWhere_slotOf,
      (sameButKnobs_tellAll p es _).slotOf, (sameButParams_setParams p es s).slotOf]

theorem param_finishMorph (q : PartId) (j : ParamId) :
    (s.finishMorph p es dest kind a b).param q j = (s.setParams p es).param q j := by
  rw [State.finishMorph, State.setSlot_param, State.postAlso, State.postWhere_param,
    (sameButKnobs_tellAll p es _).param]

theorem knob_finishMorph (hnodup : (es.map Prod.fst).Nodup) (k : ControlId) :
    (s.finishMorph p es dest kind a b).knob k = (s.knob k).map (Given.told p (valueIn es) (Given.reportedAt s k)) := by
  rw [State.finishMorph, State.setSlot_knob, State.postAlso, State.postWhere_knob, knob_tellAll hnodup,
    (sameButParams_setParams p es s).knob, (sameButParams_setParams p es s).image.reportedAt]

end

/-- The index and value of every entry of a morph. -/
def Morph.values (m : Morph) (value : MorphEntry → Nat) : List (ParamId × Nat) := m.entries.map fun e => (e.index, value e)

section
variable {p : PartId} {m : Morph} {s : State} (h : Given.morphing s p m) (value : MorphEntry → Nat)
include h

theorem nodup_values : ((m.values value).map Prod.fst).Nodup := by
  rw [Morph.values, List.map_map]
  exact h.2

/-- What writing a value for every entry leaves in the image. -/
theorem param_values : (∀ e ∈ m.entries, (s.setParams p (m.values value)).param p e.index = value e)
    ∧ ∀ q j, (q ≠ p ∨ ∀ e ∈ m.entries, e.index ≠ j) → (s.setParams p (m.values value)).param q j = s.param q j := by
  have hnodup := nodup_values h value
  refine ⟨fun e he => ?_, fun q j hne => ?_⟩ <;> rw [param_setParams hnodup]
  · rw [if_pos rfl, valueIn_of_mem (e := (e.index, value e)) hnodup (List.mem_map.mpr ⟨e, he, rfl⟩), Option.getD_some]
  · rcases hne with hq | hj
    · exact if_neg hq
    · have hnone : valueIn (m.values value) j = none := by
        refine valueIn_eq_none fun hmem => ?_
        rw [Morph.values, List.map_map] at hmem
        obtain ⟨e, he, heq⟩ := List.mem_map.mp hmem
        exact hj e he heq
      rw [hnone]
      exact ite_self _

/-- What the chain's final values leave in the image, the slots and the bindings. -/
theorem finishMorph_writes {dest : Link → Bool} {kind : NoticeKind} {a b : Nat} {t : State}
    (ht : t = s.finishMorph p (m.values value) dest kind a b) :
    (∀ e ∈ m.entries, t.param p e.index = value e)
      ∧ (∀ k, t.knob k = (s.knob k).map (Given.told p (fun i =>
          (m.entries.find? fun e => e.index == i).map value) (Given.reportedAt s k)))
      ∧ (∀ q j, (q ≠ p ∨ ∀ e ∈ m.entries, e.index ≠ j) → t.param q j = s.param q j)
      ∧ t.slotOf p = none ∧ ∀ q, q ≠ p → t.slotOf q = s.slotOf q := by
  obtain ⟨hentries, hrest⟩ := param_values h value
  subst ht
  refine ⟨fun e he => ?_, fun k => ?_, fun q j hne => ?_, ?_, fun q hq => ?_⟩
  · rw [param_finishMorph, hentries e he]
  · rw [knob_finishMorph (nodup_values h value),
      show valueIn (m.values value) = _ from funext (valueIn_map m.entries _ value)]
  · rw [param_finishMorph, hrest q j hne]
  · rw [slotOf_finishMorph, if_pos rfl]
  · rw [slotOf_finishMorph, if_neg hq]

end

/-! ### MORPH_CANCEL (R83) -/

theorem flag?_byte (b : Bool) : flag? (byte (bit b)) = some b := by cases b <;> decide

theorem State.cancelMorph_eq (s : State) (p : PartId) (m : Morph) (revert : Bool) (l : Link) :
    s.cancelMorph p m revert l =
      s.finishMorph p (m.values fun e => if revert then e.prior else s.param p e.index)
        (fun who => who == m.origin || who == l) .morphCancelled (pair (bit revert) (linkCode l)) m.entries.length := rfl

theorem morphCancelService_running {s : State} {l : Link} {p : PartId} {m : Morph} (h : s.slotOf p = some m)
    (revert : Bool) : morphCancelService l [byte p, byte (bit revert)] s =
      (s.cancelMorph p m revert l,
        { status := .ok, data := [byte p, byte (bit revert), byte m.entries.length] }) := by
  simp only [morphCancelService, part?_byte, flag?_byte, h]

theorem morphCancelService_idle {s : State} {l : Link} {p : PartId} (h : s.slotOf p = none) (revert : Bool) :
    morphCancelService l [byte p, byte (bit revert)] s =
      (s, { status := .ok, nothing := true, data := [byte p, byte (bit revert), byte 0] }) := by
  simp only [morphCancelService, part?_byte, flag?_byte, h]

/-- Settles O33. -/
theorem morphCancelStopsChain : Obligations.MorphCancelStopsChain := by
  unfold Obligations.MorphCancelStopsChain
  constructor
  · rintro s l p m revert ⟨hready, hslot, hnodup⟩ told
    have hwork : Request.morphCancel.service l [byte p, byte (bit revert)] _ = _ :=
      morphCancelService_running
      ((State.slotOf_framed s l [byte p, byte (bit revert)] p).trans hslot) revert
    rw [State.cancelMorph_eq] at hwork
    obtain ⟨t, hexec, ⟨y, ht⟩, hown, hother⟩ := exec_of_telling hready (by decide) hwork
      (yes := fun who => who == m.origin || who == l || (s.link who).queue.mask.getLsbD 1)
      (n := { kind := .morphCancelled, subject := p, value1 := 256 * bit revert + linkCode l
              value2 := m.entries.length, stamp := s.timestamp })
      fun who => (link_finishMorph who).trans (by cases l <;> cases who <;> rfl)
    have hframed := sameButImage_framed s l [byte p, byte (bit revert)]
    have hslots := State.slotOf_framed s l [byte p, byte (bit revert)]
    have hparam := State.param_framed s l [byte p, byte (bit revert)]
    have hknob := State.knob_framed s l [byte p, byte (bit revert)]
    generalize s.framed l [byte p, byte (bit revert)] = f at *
    have hvalue : (fun e : MorphEntry => if revert then e.prior else f.param p e.index) =
        fun e => if revert then e.prior else s.param p e.index := by
      funext e
      rw [hparam]
    rw [hvalue] at ht
    obtain ⟨hentries, hknobs, hrest, hself, hothers⟩ :=
      finishMorph_writes (s := f) ⟨(hslots p).trans hslot, hnodup⟩ _ rfl
    refine ⟨t, hexec, ?_, fun e he => ?_, fun k => ?_, fun q j hne => ?_, ?_, fun q hq => ?_, hown, hother⟩
    · rw [ht]
      exact hframed.trans (sameButImage_finishMorph.trans (sameButLinks_setLink l y _).image)
    · rw [ht, State.setLink_param]
      exact hentries e he
    · rw [ht, State.setLink_knob, hknobs, hknob, hframed.reportedAt]
      refine congrArg (fun r => (s.knob k).map (Given.told p r (Given.reportedAt s k))) (funext fun i => ?_)
      refine Option.map_congr fun e he => ?_
      have hi : e.index = i := by simpa using List.find?_some he
      rw [hi]
    · rw [ht, State.setLink_param, hrest q j hne, hparam]
    · rw [ht, State.setLink_slotOf, hself]
    · rw [ht, State.setLink_slotOf, hothers q hq, hslots]
  · rintro s l p revert ⟨hready, hslot⟩
    have hwork : Request.morphCancel.service l [byte p, byte (bit revert)] _ = _ :=
      morphCancelService_idle
      ((State.slotOf_framed s l [byte p, byte (bit revert)] p).trans hslot) revert
    obtain ⟨t, hexec, ht, htook⟩ := exec_of_quiet hready (by decide) hwork fun _ => rfl
    refine ⟨t, hexec, ?_, htook⟩
    rw [ht]
    cases l <;> rfl

/-! ### The morph step (R74 to R78) -/

/-- The levels of a curve as the list Y0 to Y4 (R74). -/
def State.levels (s : State) (c : Curve) : List Int :=
  match c with
  | .linear => [0, 256, 512, 768, 1024]
  | .template => [0, s.template.l1, s.template.l2, s.template.l3, 1024]

theorem State.level_eq (s : State) (c : Curve) {i : Nat} (h : i ≤ 4) : s.level c i = (s.levels c).getD i 0 := by
  interval_cases i <;> cases c <;> rfl

theorem State.phi_eq (s : State) (c : Curve) {e total : Nat} (h : e < total) :
    s.phi c e total = (s.levels c).getD (e * 1024 / total / 256) 0 +
      ((s.levels c).getD (e * 1024 / total / 256 + 1) 0 - (s.levels c).getD (e * 1024 / total / 256) 0) *
        ((e * 1024 / total % 256 : Nat) : Int) / 256 := by
  have hx : e * 1024 / total < 1024 := by
    rw [Nat.div_lt_iff_lt_mul (by omega)]
    omega
  unfold State.phi
  generalize e * 1024 / total = x at *
  have hseg : min 3 (x / 256) = x / 256 := by omega
  have hrest : (x : Int) - 256 * ((x / 256 : Nat) : Int) = ((x % 256 : Nat) : Int) := by omega
  simp only [hseg, hrest, State.level_eq s c (show x / 256 ≤ 4 by omega),
    State.level_eq s c (show x / 256 + 1 ≤ 4 by omega)]

theorem stepEntry_fst (phi : Int) (e : MorphEntry) : (stepEntry phi e).1 =
    if (descriptor e.index).cls = .cont then e else { e with switched := e.switched || decide (512 ≤ phi) } := by
  unfold stepEntry
  cases (descriptor e.index).cls <;> rfl

theorem index_stepEntry (phi : Int) (e : MorphEntry) : (stepEntry phi e).1.index = e.index := by
  rw [stepEntry_fst]
  split <;> rfl

theorem stepEntry_cont {e : MorphEntry} (h : (descriptor e.index).cls = .cont) (phi : Int) :
    (stepEntry phi e).2 = ((e.start : Int) + (((e.target : Int) - e.start) * phi).tdiv 1024).toNat := by
  unfold stepEntry
  rw [h]
  rfl

theorem stepEntry_step {e : MorphEntry} (h : (descriptor e.index).cls ≠ .cont) (phi : Int) :
    (stepEntry phi e).2 = if e.switched = true ∨ 512 ≤ phi then e.target else e.start := by
  unfold stepEntry
  cases hcls : (descriptor e.index).cls with
  | cont => exact absurd hcls h
  | step => simp
  | struct => simp

theorem State.morphMove_eq (s : State) (p : PartId) (m : Morph) (e : Nat) : s.morphMove p m e =
    (s.setParams p (m.values fun x => (stepEntry (s.phi m.curve e m.total) x).2)).setSlot p
      (some { m with elapsed := e, entries := m.entries.map fun x => (stepEntry (s.phi m.curve e m.total) x).1 }) := by
  unfold State.morphMove State.setParams Morph.values
  simp only [List.foldl_map, List.map_map, index_stepEntry]
  rfl

theorem State.morphComplete_eq (s : State) (p : PartId) (m : Morph) : s.morphComplete p m =
    s.finishMorph p (m.values MorphEntry.target) (· == m.origin) .applied m.entries.length
      (pair (linkCode m.origin) m.taken) := rfl

theorem exec_morphStep_mid {s : State} {p : PartId} {m : Morph} (h : Given.midStep s p m) :
    exec (.morphStep p) s = .next (s.morphMove p m (m.elapsed + 2)) := by
  obtain ⟨⟨hslot, -⟩, hlt⟩ := h
  have hmin : min m.total (m.elapsed + 2) = m.elapsed + 2 := by omega
  refine congrArg Host.Outcome.next ?_
  simp only [State.morphStep, hslot, hmin, if_pos hlt]

theorem exec_morphStep_last {s : State} {p : PartId} {m : Morph} (h : Given.lastStep s p m) :
    exec (.morphStep p) s = .next (s.morphComplete p m) := by
  obtain ⟨⟨hslot, -⟩, hle⟩ := h
  have hmin : ¬min m.total (m.elapsed + 2) < m.total := by omega
  refine congrArg Host.Outcome.next ?_
  simp only [State.morphStep, hslot, if_neg hmin]

/-- Settles O34: a step before completion writes each entry's value of the curve, and the last one finishes the chain
with the targets. -/
theorem morphStepWritesCurveValues : Obligations.MorphStepWritesCurveValues := by
  unfold Obligations.MorphStepWritesCurveValues
  constructor
  · rintro s p m h x levels y0 y1 phi
    have hphi : s.phi m.curve (m.elapsed + 2) m.total = phi := State.phi_eq s m.curve h.2
    obtain ⟨t, ht⟩ : ∃ t, t = s.morphMove p m (m.elapsed + 2) := ⟨_, rfl⟩
    have hexec := exec_morphStep_mid h
    rw [← ht] at hexec
    rw [State.morphMove_eq, hphi] at ht
    clear_value phi
    obtain ⟨hentries, hrest⟩ := param_values h.1 fun e => (stepEntry phi e).2
    have hframe := sameButParams_setParams p (m.values fun e => (stepEntry phi e).2) s
    refine ⟨t, hexec, ?_, fun e he hcls => ?_, fun e he hcls => ?_, fun q j hne => ?_, ?_, fun q hq => ?_⟩ <;> rw [ht]
    · unfold SameButParams at hframe
      generalize s.setParams p (m.values fun e => (stepEntry phi e).2) = u at *
      rw [hframe]
      rfl
    · rw [State.setSlot_param, hentries e he, stepEntry_cont hcls]
    · rw [State.setSlot_param, hentries e he, stepEntry_step hcls]
    · rw [State.setSlot_param, hrest q j hne]
    · rw [State.slotOf_setSlot_self]
      simp only [stepEntry_fst]
    · rw [State.slotOf_setSlot_ne hq, hframe.slotOf]
  · rintro s p m h told
    have hexec := exec_morphStep_last h
    rw [State.morphComplete_eq] at hexec
    obtain ⟨hentries, hknobs, hrest, hself, hothers⟩ := finishMorph_writes h.1 MorphEntry.target rfl
    exact ⟨_, hexec, sameButImage_finishMorph, hentries, hknobs, hrest, hself, hothers, link_finishMorph⟩

end Sys2Proof.Machine
end

section
/-! PROOFS. The reading requests: what they return of the state (R28, R59, R99, R154, R183, R184). -/

namespace Sys2Proof.Machine

/-! ### A request that reads -/

/-- A request whose service changes nothing. -/
theorem reads_of_service {s : State} {l : Link} (hready : s.ready l) {r : Request} (hr : r ≠ .resetDevice)
    {payload : List Byte} {a : Answer} (hwork : r.service l payload (s.framed l payload) = (s.framed l payload, a)) :
    ∃ t, exec (commandOf l payload r) s = .next t ∧ Took s t l (2 + payload.length) (a.toReply r.code) := by
  obtain ⟨t, hexec, -, htook⟩ := exec_of_quiet hready hr hwork fun _ => rfl
  exact ⟨t, hexec, htook⟩

theorem byte_mod (n : Nat) : byte (n % 256) = byte n := by simp [byte, ← BitVec.toNat_inj]

theorem field16_eq_le16 (x : Nat) : field16 x = le16 x := by rw [field16, le16, byte_mod (x / 256)]

theorem inTable_of {n maxCount first count : Nat} (h₁ : first < n) (h₂ : 1 ≤ count) (h₃ : count ≤ maxCount)
    (h₄ : first + count ≤ n) : inTable n maxCount first count = true := decide_eq_true ⟨h₁, h₂, h₃, h₄⟩

/-! ### PARAM_GET (R59) -/

theorem paramGet_part (s : State) (l : Link) (p : PartId) (first count : Nat) (h : Given.paramRun s l first count) :
    ∃ t, exec (.paramGet l [byte p, byte first, byte count]) s = .next t ∧
      Took s t l 5 (okReply 0x11 false false ([byte p, byte first, byte count] ++
        ((List.finRange 40).filter fun i => decide (first ≤ i.val ∧ i.val < first + count)).flatMap fun i =>
          field16 (s.param p i) ++
            [byte (bit ((s.slotOf p).any fun m => m.entries.any fun e => e.index == i))])) := by
  obtain ⟨hready, hfirst, hcount, hfit⟩ := h
  have hwork : Request.paramGet.service l [byte p, byte first, byte count] (s.framed l [byte p, byte first, byte count]) =
      (s.framed l [byte p, byte first, byte count],
        { status := .ok, data := [byte p, byte first, byte count] ++ s.paramData p first count }) := by
    have hdata : (s.framed l [byte p, byte first, byte count]).paramData p first count = s.paramData p first count := by
      cases l <;> rfl
    simp only [Request.service, paramGetService, part?_byte, toNat_byte (show first < 256 by omega),
      toNat_byte (show count < 256 by omega), inTable_of (show first < 40 by omega) hcount (show count ≤ 40 by omega) hfit,
      if_true, hdata]
  simp only [field16_eq_le16]
  exact reads_of_service hready (by decide) hwork

theorem paramGet_global (s : State) (l : Link) (first count : Nat) (h : Given.globalRun s l first count) :
    ∃ t, exec (.paramGet l [0x04#8, byte first, byte count]) s = .next t ∧
      Took s t l 5 (okReply 0x11 false false ([0x04#8, byte first, byte count] ++
        ((List.finRange 16).filter fun g => decide (first ≤ g.val ∧ g.val < first + count)).flatMap fun g =>
          field16 (s.global g) ++ [0x00#8])) := by
  obtain ⟨hready, hfirst, hcount, hfit⟩ := h
  have hwork : Request.paramGet.service l [0x04#8, byte first, byte count] (s.framed l [0x04#8, byte first, byte count]) =
      (s.framed l [0x04#8, byte first, byte count],
        { status := .ok, data := [0x04#8, byte first, byte count] ++ s.globalData first count }) := by
    have hdata : (s.framed l [0x04#8, byte first, byte count]).globalData first count = s.globalData first count := by
      cases l <;> rfl
    have hpart : part? 0x04#8 = none := by decide
    have hin : 0x04#8 = globalCode ∧ inTable 16 16 first count = true :=
      ⟨rfl, inTable_of (by omega) hcount (by omega) hfit⟩
    simp only [Request.service, paramGetService, hpart, toNat_byte (show first < 256 by omega),
      toNat_byte (show count < 256 by omega), if_pos hin, hdata]
  simp only [field16_eq_le16]
  exact reads_of_service hready (by decide) hwork

/-! ### VOICE_READ (R28, R183) -/

theorem Voice.entry_eq (x : Voice) : x.entry = Given.voiceBytes x := by
  unfold Voice.entry Given.voiceBytes Voice.flagByte Voice.velocity
  cases x.phase with
  | damping n su dp timer => cases su <;> rfl
  | offline r => cases r <;> rfl
  | _ => rfl

theorem voiceRead_entries (s : State) (l : Link) (first count : Nat) (h : Given.voiceRun s l first count) :
    ∃ t, exec (.voiceRead l [byte first, byte count]) s = .next t ∧
      Took s t l 4 (okReply 0x42 false false ([byte first, byte count] ++
        (allVoices.filter fun v => decide (first ≤ v.val ∧ v.val < first + count)).flatMap fun v =>
          Given.voiceBytes (s.voice v))) := by
  obtain ⟨hready, hfirst, hcount, hfit⟩ := h
  have hwork : Request.voiceRead.service l [byte first, byte count] (s.framed l [byte first, byte count]) =
      (s.framed l [byte first, byte count],
        { status := .ok, data := [byte first, byte count] ++ s.voiceEntries first count }) := by
    have hdata : (s.framed l [byte first, byte count]).voiceEntries first count = s.voiceEntries first count := by
      cases l <;> rfl
    simp only [Request.service, voiceReadService, toNat_byte (show first < 256 by omega),
      toNat_byte (show count < 256 by omega), inTable_of (show first < 16 by omega) hcount (show count ≤ 16 by omega) hfit,
      if_true, hdata]
  simp only [← Voice.entry_eq]
  exact reads_of_service hready (by decide) hwork

/-! ### PANEL_READ (R99, R183) -/

theorem State.controlEntry_eq (s : State) (k : ControlId) : s.controlEntry k = Given.controlBytes (s.control k) (s.knob k) := by
  unfold State.controlEntry Given.controlBytes pickupCode Control.reportedOr0
  obtain ⟨seed, motion, direction, reversals, noisy⟩ := s.control k
  obtain _ | ⟨p, i, mode, pickup⟩ := s.knob k
  · cases motion <;> cases seed <;> simp [bit, le16, byte, Seeded.position]
  · cases pickup <;> cases motion <;> cases seed <;> simp [bit, le16, byte, Seeded.position, Pickup.code]

theorem panelRead_entries (s : State) (l : Link) (first count : Nat) (h : Given.controlRun s l first count) :
    ∃ t, exec (.panelRead l [0x00#8, byte first, byte count]) s = .next t ∧
      Took s t l 5 (okReply 0x22 false false ([0x00#8, byte first, byte count] ++ le16 s.scanner.roundNumber.toNat ++
          le16 s.scanner.skipped ++
        ((List.finRange 128).filter fun k => decide (first ≤ k.val ∧ k.val < first + count)).flatMap fun k =>
          Given.controlBytes (s.control k) (s.knob k))) := by
  obtain ⟨hready, hfirst, hcount, hmax, hfit⟩ := h
  have hwork : Request.panelRead.service l [0x00#8, byte first, byte count]
      (s.framed l [0x00#8, byte first, byte count]) = (s.framed l [0x00#8, byte first, byte count],
        { status := .ok
          data := s.panelHead 0x00#8 (byte first) (byte count) ++ s.controlEntries first count }) := by
    have hdata : (s.framed l [0x00#8, byte first, byte count]).controlEntries first count =
      s.controlEntries first count := by cases l <;> rfl
    have hhead : (s.framed l [0x00#8, byte first, byte count]).panelHead 0x00#8 (byte first) (byte count) =
      s.panelHead 0x00#8 (byte first) (byte count) := by cases l <;> rfl
    have hflag : flag? 0x00#8 = some false := by decide
    simp only [Request.service, panelReadService, hflag, toNat_byte (show first < 256 by omega),
      toNat_byte (show count < 256 by omega), inTable_of (show first < 128 by omega) hcount hmax hfit, if_true, hdata,
      hhead]
  simp only [← State.controlEntry_eq]
  exact reads_of_service hready (by decide) hwork

theorem State.switchEntry_eq (s : State) (i : SwitchId) : s.switchEntry i =
    [(s.switches[i].map fun x => byte (1 + 2 * bit x.closed)).getD 0x00#8] := by
  unfold State.switchEntry
  cases s.switches[i] <;> rfl

theorem State.switchEntries_eq (s : State) (first count : Nat) : s.switchEntries first count =
    ((List.finRange 64).filter fun i => decide (first ≤ i.val ∧ i.val < first + count)).map fun i =>
      (s.switches[i].map fun x => byte (1 + 2 * bit x.closed)).getD 0x00#8 := by
  rw [State.switchEntries, show s.switchEntry = _ from funext s.switchEntry_eq, List.map_eq_flatMap]

theorem panelRead_switches (s : State) (l : Link) (first count : Nat) (h : Given.switchRun s l first count) :
    ∃ t, exec (.panelRead l [0x01#8, byte first, byte count]) s = .next t ∧
      Took s t l 5 (okReply 0x22 false false ([0x01#8, byte first, byte count] ++ le16 s.scanner.roundNumber.toNat ++
          le16 s.scanner.skipped ++ s.switchEntries first count)) := by
  obtain ⟨hready, hfirst, hcount, hfit⟩ := h
  have hwork : Request.panelRead.service l [0x01#8, byte first, byte count]
      (s.framed l [0x01#8, byte first, byte count]) = (s.framed l [0x01#8, byte first, byte count],
        { status := .ok
          data := s.panelHead 0x01#8 (byte first) (byte count) ++ s.switchEntries first count }) := by
    have hdata : (s.framed l [0x01#8, byte first, byte count]).switchEntries first count =
      s.switchEntries first count := by cases l <;> rfl
    have hhead : (s.framed l [0x01#8, byte first, byte count]).panelHead 0x01#8 (byte first) (byte count) =
      s.panelHead 0x01#8 (byte first) (byte count) := by cases l <;> rfl
    have hflag : flag? 0x01#8 = some true := by decide
    simp only [Request.service, panelReadService, hflag, toNat_byte (show first < 256 by omega),
      toNat_byte (show count < 256 by omega),
      inTable_of (show first < 64 by omega) hcount (show count ≤ 64 by omega) hfit, if_true, hdata, hhead]
  exact reads_of_service hready (by decide) hwork

/-! ### CAL_READ (R154, R183) -/

theorem calRead_record (s : State) (l : Link) (o : OscId) (hready : s.ready l) :
    ∃ t, exec (.calRead l [byte o]) s = .next t ∧ Took s t l 3 (okReply 0x32 false false (s.calData o)) := by
  have hwork : Request.calRead.service l [byte o] (s.framed l [byte o]) =
      (s.framed l [byte o], { status := .ok, data := s.calData o }) := by
    have hdata : (s.framed l [byte o]).calData o = s.calData o := by cases l <;> rfl
    simp only [Request.service, calReadService, field?_byte (show 32 ≤ 256 by decide) o, hdata]
  exact reads_of_service hready (by decide) hwork

/-! ### Masks (R183) -/

theorem testBit_foldl_or (ns : List Nat) (m j : Nat) :
    (ns.foldl (fun m n => m ||| 2 ^ n) m).testBit j = (m.testBit j || decide (j ∈ ns)) := by
  induction ns generalizing m with
  | nil => simp
  | cons n ns ih =>
    rw [List.foldl_cons, ih, Nat.testBit_or, Nat.testBit_two_pow]
    by_cases h : n = j
    · simp [h]
    · simp [h, Ne.symm h]

theorem testBit_maskOf (ns : List Nat) (j : Nat) : (maskOf ns).testBit j = decide (j ∈ ns) := by
  rw [maskOf, testBit_foldl_or]
  simp

/-- The places below `n` that a test picks, as the sum of their powers. -/
theorem sum_powers_eq (f : Nat → Bool) (n : Nat) :
    ((List.range n).map fun i => if f i = true then 2 ^ i else 0).sum = maskOf ((List.range n).filter f) := by
  have hlt : ∀ n, ((List.range n).map fun i => if f i = true then 2 ^ i else 0).sum < 2 ^ n := by
    intro n
    induction n with
    | zero => simp
    | succ n ih =>
      rw [List.range_succ, List.map_append, List.sum_append]
      simp only [List.map_cons, List.map_nil, List.sum_singleton]
      split <;> omega
  induction n with
  | zero => rfl
  | succ n ih =>
    rw [List.range_succ, List.map_append, List.sum_append, List.filter_append, maskOf, List.foldl_append]
    have hbase : ((List.range n).filter f).foldl (fun m n => m ||| 2 ^ n) 0 = maskOf ((List.range n).filter f) := rfl
    by_cases hn : f n = true
    · have hor := Nat.two_pow_add_eq_or_of_lt (hlt n) 1
      rw [ih, Nat.mul_one] at hor
      simp only [hn, hbase, ih, List.map_cons, List.map_nil, List.sum_cons, List.sum_nil, List.filter_cons,
        List.filter_nil, List.foldl_cons, List.foldl_nil, if_true, Nat.or_comm (maskOf _), ← hor]
      omega
    · simp [hn, hbase, ih]

theorem queueMask_eq (vs : List VoiceId) : queueMask vs = Given.voiceMask vs := by
  have hrange : allVoices.map Fin.val = List.range 16 := by decide
  have hsum := sum_powers_eq (fun n => decide (n ∈ vs.map Fin.val)) 16
  have hmask : Given.voiceMask vs =
      ((List.range 16).map fun n => if decide (n ∈ vs.map Fin.val) = true then 2 ^ n else 0).sum := by
    rw [Given.voiceMask, ← hrange, List.map_map]
    refine congrArg List.sum (List.map_congr_left fun v _ => ?_)
    simp [Fin.val_inj]
  rw [hmask, hsum, queueMask]
  refine Nat.eq_of_testBit_eq fun j => ?_
  rw [testBit_maskOf, testBit_maskOf]
  simp only [List.mem_filter, List.mem_range, decide_eq_true_eq, List.mem_map, decide_eq_decide]
  exact ⟨fun ⟨v, hv, hj⟩ => ⟨hj ▸ v.isLt, v, hv, hj⟩, fun h => h.2⟩

theorem sustainedMask_eq (held : List HeldKey) : sustainedMask held =
    ((List.range 10).map fun n => if held[n]?.any HeldKey.sustained = true then 2 ^ n else 0).sum :=
  (sum_powers_eq (fun n => held[n]?.any HeldKey.sustained) 10).symm

/-! ### STATUS (R184) -/

theorem runBytes_eq (r : Option Run) : runBytes r = Given.runRecord r := by
  cases r with
  | none => rfl
  | some r =>
    rw [runBytes, Given.runRecord, queueMask_eq]
    cases r.current <;> rfl

theorem heldBytes_eq {held : List HeldKey} (h : held.length ≤ 10) :
    heldBytes held = held.map (fun e => byte e.key) ++ List.replicate (10 - held.length) 0xFF#8 := by
  refine List.ext_getElem (by simp [heldBytes]; omega) fun i hi hj => ?_
  rw [List.getElem_append]
  simp only [heldBytes, List.getElem_map, List.getElem_range, List.length_map]
  split
  · next hlt => simp [List.getElem?_eq_getElem hlt, keyOr255]
  · next hge =>
    simp [List.getElem?_eq_none (Nat.le_of_not_lt hge), keyOr255]
    rfl

theorem partBlock_eq {s : State} {p : PartId} (h : (s.perfOf p).held.length ≤ 10) :
    s.partBlock p = Given.partBytes (s.perfOf p) (s.slotOf p) := by
  unfold State.partBlock Given.partBytes
  simp only [heldBytes_eq h, sustainedMask_eq, queueMask_eq]
  cases s.slotOf p <;> simp only [Counters.bytes, keyOr255, slotBytes, List.append_assoc, byte]

theorem length_le16 (n : Nat) : (le16 n).length = 2 := rfl

theorem length_runBytes (r : Option Run) : (runBytes r).length = 10 := by
  cases r with
  | none => rfl
  | some r => cases hc : r.current <;> simp [runBytes, hc, length_le16]

theorem length_slotBytes (m : Option Morph) : (slotBytes m).length = 9 := by
  cases m <;> simp [slotBytes, length_le16]

theorem length_partBlock (s : State) (p : PartId) : (s.partBlock p).length = 39 := by
  simp [State.partBlock, Counters.bytes, heldBytes, length_le16, length_slotBytes]

theorem length_statusData (s : State) (l : Link) : (s.statusData l).length = 183 := by
  have hparts : (allParts.flatMap s.partBlock).length = 156 := by
    rw [List.length_flatMap]
    simp [length_partBlock, allParts]
  simp [State.statusData, State.statusHead, length_runBytes, length_le16, hparts]

theorem status_record (s : State) (l : Link) (h : Given.statusRead s l) :
    ∃ t, exec (.status l []) s = .next t ∧ Took s t l 2 (okReply 0x53 false false (s.statusData l)) := by
  have hwork : Request.status.service l [] (s.framed l []) = (s.framed l [], { status := .ok, data := s.statusData l }) := by
    have hdata : (s.framed l []).statusData l = s.statusData l := by cases l <;> rfl
    simp only [Request.service, statusService, hdata]
  exact reads_of_service h.1 (by decide) hwork

theorem statusData_eq {s : State} (l : Link) (h : ∀ p, (s.perfOf p).held.length ≤ 10) : s.statusData l =
    le16 s.timestamp.toNat
      ++ [byte (s.link l).queue.stored.length, byte (s.link l).queue.lost, (s.link l).queue.mask,
        byte (s.link l).queue.watermark]
      ++ le16 s.linkA.overruns ++ le16 s.linkB.overruns ++ le16 s.lineUnit.frameErrors
      ++ le16 s.lineUnit.byteErrors ++ le16 s.lineUnit.fifoOverruns ++ [byte s.deferred.length]
      ++ Given.runRecord s.run
      ++ allParts.flatMap fun p => Given.partBytes (s.perfOf p) (s.slotOf p) := by
  rw [State.statusData, runBytes_eq, show s.partBlock = _ from funext fun p => partBlock_eq (h p)]
  rfl

/-- Settles O35, request by request. -/
theorem readingRequestsReturnState : Obligations.ReadingRequestsReturnState := by
  unfold Obligations.ReadingRequestsReturnState
  refine ⟨paramGet_part, paramGet_global, voiceRead_entries, ?_, fun s l o hready => ?_, fun s l h => ?_⟩
  · intro s l first count head
    refine ⟨panelRead_entries s l first count, fun h => ?_⟩
    obtain ⟨t, hexec, htook⟩ := panelRead_switches s l first count h
    refine ⟨t, hexec, ?_⟩
    rw [State.switchEntries_eq] at htook
    convert htook using 5 with i
    cases s.switches[i] <;> rfl
  · obtain ⟨t, hexec, htook⟩ := calRead_record s l o hready
    refine ⟨t, hexec, ?_⟩
    rw [State.calData] at htook
    cases hmap : (s.cal o).map <;> simp only [hmap] at htook ⊢ <;> exact htook
  · obtain ⟨t, hexec, htook⟩ := status_record s l h
    exact ⟨t, _, hexec, htook, length_statusData s l, statusData_eq l h.2⟩

end Sys2Proof.Machine
end

section
/-! PROOFS. Bindings, scan rounds and the timers that write one field (R86, R87, R92, R100, R103, R114). -/

namespace Sys2Proof.Machine

/-! ### MAP_KNOB and MAP_SWITCH (R103, R114) -/

theorem knobMode?_byte (mode : KnobMode) : knobMode? (byte mode.code) = some mode := by cases mode <;> decide

/-- MAP_KNOB whose service binds a control. -/
theorem exec_of_binding {s : State} {l : Link} (hready : s.ready l) {k : ControlId} {b : Option KnobBinding}
    {payload : List Byte} (hwork : mapKnobService l payload (s.framed l payload) = (s.framed l payload).bindKnob k b) :
    ∃ t, exec (.mapKnob l payload) s = .next t
      ∧ t = { s with knobs := t.knobs, linkA := t.linkA, linkB := t.linkB }
      ∧ t.knob k = b ∧ (∀ c, c ≠ k → t.knob c = s.knob c)
      ∧ Took s t l (2 + payload.length)
          (okReply 0x20 false false ([byte k] ++ knobBytes (s.knob k) ++ [byte (pickupCode b)])) := by
  obtain ⟨t, hexec, ht, htook⟩ := exec_of_quiet hready (r := .mapKnob) (by decide) hwork fun m => State.setKnob_link _ _ _ _
  rw [State.knob_framed] at htook
  refine ⟨t, hexec, ?_, ?_, fun c hc => ?_, htook⟩ <;> rw [ht]
  · cases l <;> rfl
  · rw [State.setLink_knob, State.knob_setKnob_self]
  · rw [State.setLink_knob, State.knob_setKnob_ne hc, State.knob_framed]

theorem mapKnobService_none (l : Link) (k : ControlId) (x y : Byte) (s : State) :
    mapKnobService l [byte k, 0x0F#8, x, y] s = s.bindKnob k none := by
  have hk : field? 128 (byte k) = some k := field?_byte (by decide) k
  simp [mapKnobService, hk]

theorem mapKnobService_part (l : Link) (k : ControlId) (p : PartId) (i : ParamId) (mode : KnobMode) (s : State) :
    mapKnobService l [byte k, byte p, byte i, byte mode.code] s =
      s.bindKnob k (some (KnobBinding.enter (s.control k) (s.param p i) { part := p, index := i, mode, pickup := .live })) := by
  have hk : field? 128 (byte k) = some k := field?_byte (by decide) k
  have hi : field? 40 (byte i) = some i := field?_byte (by decide) i
  have hp : byte p ≠ 15 := (show ∀ p : PartId, byte p ≠ 15 by decide) p
  simp only [mapKnobService, hk, if_neg hp, part?_byte, hi, knobMode?_byte]

theorem partMask?_toNat {m : BitVec 4} (h : m ≠ 0) : partMask? (byte m.toNat) = some m :=
  (show ∀ m : BitVec 4, m ≠ 0 → partMask? (byte m.toNat) = some m by decide) m h

theorem switchAction?_bytes {a : SwitchAction} (h : Given.namesPart a) :
    ∃ x y z, actionBytes a = [x, y, z] ∧ switchAction? x y z = some a := by
  cases a with
  | none => exact ⟨_, _, _, rfl, rfl⟩
  | report => exact ⟨_, _, _, rfl, rfl⟩
  | stepParam p i =>
    refine ⟨_, _, _, rfl, ?_⟩
    have hi : field? 40 (byte i) = some i := field?_byte (by decide) i
    simp [switchAction?, toNat_byte, part?_byte, hi]
  | hold m k =>
    refine ⟨_, _, _, rfl, ?_⟩
    have hkind : flag? (byte k.code) = some (k == .latched) := by cases k <;> decide
    cases k <;> simp [switchAction?, toNat_byte, partMask?_toNat h, hkind]
  | allOff m =>
    refine ⟨_, _, _, rfl, ?_⟩
    simp [switchAction?, toNat_byte, partMask?_toNat h]

theorem exec_mapSwitch {s : State} {l : Link} (i : SwitchId) {a : SwitchAction} (hready : s.ready l)
    (h : Given.namesPart a) : ∃ t, exec (.mapSwitch l (byte i :: actionBytes a)) s = .next t
      ∧ t = { s with switchActions := t.switchActions, linkA := t.linkA, linkB := t.linkB }
      ∧ t.switchActions[i] = a ∧ (∀ j : SwitchId, j ≠ i → t.switchActions[j] = s.switchActions[j])
      ∧ Took s t l 6 (okReply 0x21 false false (byte i :: actionBytes s.switchActions[i])) := by
  obtain ⟨x, y, z, hbytes, haction⟩ := switchAction?_bytes h
  have hi : field? 64 (byte i) = some i := field?_byte (by decide) i
  have hframed : (s.framed l [byte i, x, y, z]).switchActions = s.switchActions := by cases l <;> rfl
  have hwork : Request.mapSwitch.service l [byte i, x, y, z] (s.framed l [byte i, x, y, z]) =
      ({ s.framed l [byte i, x, y, z] with switchActions := s.switchActions.set i a },
        { status := .ok, data := byte i :: actionBytes s.switchActions[i] }) := by
    simp only [Request.service, mapSwitchService, hi, haction, hframed]
    rfl
  rw [hbytes]
  obtain ⟨t, hexec, ht, htook⟩ := exec_of_quiet hready (by decide) hwork fun m => by cases m <;> rfl
  have hactions : t.switchActions = s.switchActions.set i a := by
    rw [ht]
    cases l <;> rfl
  refine ⟨t, hexec, ?_, ?_, fun j hj => ?_, htook⟩
  · rw [hactions, ht]
    cases l <;> rfl
  · rw [hactions]
    simp
  · have hval : i.val ≠ j.val := fun e => hj (Fin.ext e.symm)
    rw [hactions]
    simp [hval]

/-- Settles O36. -/
theorem bindingRequestsReplaceOneBinding : Obligations.BindingRequestsReplaceOneBinding := by
  unfold Obligations.BindingRequestsReplaceOneBinding
  refine ⟨?_, fun s l i a => exec_mapSwitch i⟩
  intro s l k hready old
  have hold : knobBytes (s.knob k) = old := by
    simp only [old]
    cases s.knob k <;> rfl
  refine ⟨fun x y => ?_, ?_⟩
  · obtain ⟨t, hexec, hframe, hself, hrest, htook⟩ := exec_of_binding hready (mapKnobService_none l k x y _)
    rw [hold] at htook
    exact ⟨t, hexec, hframe, hself, hrest, htook⟩
  · intro p i mode pickup
    obtain ⟨t, hexec, hframe, hself, hrest, htook⟩ := exec_of_binding hready (mapKnobService_part l k p i mode _)
    rw [KnobBinding.enter_eq, (sameButImage_framed s l _).reportedAt, State.param_framed] at hself htook
    rw [hold] at htook
    exact ⟨t, hexec, hframe, hself, hrest, htook⟩

/-! ### Scan rounds (R86, R87, R100) -/

/-- Settles O37. -/
theorem scanRoundsStartOrAreSkipped : Obligations.ScanRoundsStartOrAreSkipped := by
  unfold Obligations.ScanRoundsStartOrAreSkipped
  refine ⟨fun s h => ?_, fun s l hready => ?_⟩
  · obtain ⟨ms, hperiod⟩ := Option.isSome_iff_exists.mp h
    show execScanPeriodExpiry s = _
    unfold execScanPeriodExpiry
    cases hround : s.scanner.round <;> simp only [hperiod, hround] <;> rfl
  obtain ⟨t, hexec, ht, htook⟩ := exec_of_quiet hready (r := .resetPanel) (payload := []) (by decide) rfl
    fun m => by cases m <;> rfl
  have hcontrols : t.controls = Vector.replicate 128 Control.atReset := by
    rw [ht]
    cases l <;> rfl
  have hswitches : t.switches = Vector.replicate 64 none := by
    rw [ht]
    cases l <;> rfl
  refine ⟨t, hexec, ?_, fun k => ?_, fun i => ?_, htook⟩
  · rw [hcontrols, hswitches, ht]
    cases l <;> rfl
  · simp [State.control, hcontrols, Control.atReset]
  · simp [hswitches]

/-! ### Timers that write one field (R9, R92, R123, R197) -/

theorem exec_stillTimeoutExpiry {s : State} {k : ControlId} {timer : Nat} (h : Given.movingControl s k timer) :
    exec (.stillTimeoutExpiry k) s = .next (s.setControl k { s.control k with motion := .still }) := by
  show execStillTimeoutExpiry k s = _
  simp only [execStillTimeoutExpiry, h]

theorem exec_retriggerPulseEnd {s : State} {v : VoiceId} {n : Note} {sustained : Bool} {pulse : Nat}
    (h : Given.pulsing s v n sustained pulse) :
    exec (.retriggerPulseEnd v) s = .next (s.setPhase v (.gated n sustained none)) := by
  show execRetriggerPulseEnd v s = _
  simp only [execRetriggerPulseEnd, h]

/-- Settles O42. -/
theorem fieldTimersWriteOneField : Obligations.FieldTimersWriteOneField := by
  unfold Obligations.FieldTimersWriteOneField
  refine ⟨fun s k timer h => ⟨_, exec_stillTimeoutExpiry h, rfl, ?_, fun c hc => ?_⟩, fun s m h => ?_,
    fun s v n sustained pulse h => ⟨_, exec_retriggerPulseEnd h, rfl, ?_, ?_, ?_, fun w hw => ?_⟩, fun s h => ?_⟩
  · exact State.control_setControl_self _ _ _
  · exact State.control_setControl_ne hc _ _
  · obtain ⟨hmeasurement, hphase⟩ := h
    show execSettleExpiry s = _
    simp only [execSettleExpiry, hmeasurement, hphase]
    rfl
  · rw [State.setPhase, State.voice_setVoice_self]
  · simp [Voice.gateLine, h]
  · rw [State.setPhase, State.voice_setVoice_self]
    rfl
  · rw [State.setPhase, State.voice_setVoice_ne hw]
  · show execTimestampTick s = _
    simp [execTimestampTick, State.inReset, h]

end Sys2Proof.Machine
end

section
/-! PROOFS. Conversions of a control: the filter, the deadband, the noise guard, and moves of an unbound control
(R89 to R94, R98). -/

namespace Sys2Proof.Machine

/-! ### Frames of the panel -/

/-- The live values, the controls, the knob bindings, the scanner and the links alone differ. -/
def SameButPanel (s t : State) : Prop :=
  t = { s with
    params := t.params, controls := t.controls, knobs := t.knobs, scanner := t.scanner
    linkA := t.linkA, linkB := t.linkB }

theorem SameButPanel.trans {s t u : State} (h : SameButPanel s t) (k : SameButPanel t u) : SameButPanel s u := by
  unfold SameButPanel at *
  exact k.trans (by rw [h])

theorem SameButLinks.panel {s t : State} (h : SameButLinks s t) : SameButPanel s t := by
  unfold SameButLinks at h
  unfold SameButPanel
  exact h.trans (by rw [h])

theorem sameButPanel_setControl (k : ControlId) (c : Control) (s : State) : SameButPanel s (s.setControl k c) := rfl

theorem sameButPanel_advanceRound (address : Fin 8) (input : Fin 16) (s : State) :
    SameButPanel s (s.advanceRound address input) := rfl

theorem State.setControl_setControl (k : ControlId) (x y : Control) (s : State) :
    (s.setControl k x).setControl k y = s.setControl k y := by
  simp [State.setControl, Vector.set_set]

/-! ### The scan round goes on (R86) -/

theorem ScanRound.next_eq (address : Fin 8) (input : Fin 16) : ScanRound.next address input =
    if input.val = 15 then (if address.val = 7 then none else some { address := address + 1, phase := .settling })
    else some { address, phase := .converting (input + 1) } := by
  revert address input
  decide

theorem roundGoesOn_advanceRound {s u : State} {address : Fin 8} {input : Fin 16} (hscanner : u.scanner = s.scanner)
    (hcontrol : ∀ c, c ≠ controlAt address input → u.control c = s.control c) :
    Given.roundGoesOn s (u.advanceRound address input) address input := by
  refine ⟨hcontrol, ?_, ?_, ?_, ScanRound.next_eq address input⟩ <;> rw [← hscanner] <;> rfl

theorem exec_controlConversion {s : State} {address : Fin 8} {input : Fin 16} (r : BitVec 12)
    (h : s.scanner.round = some { address, phase := .converting input }) :
    exec (.controlConversion r) s =
      .next ((s.conversion (controlAt address input) r.toNat).advanceRound address input) := by
  show execControlConversion r s = _
  simp only [execControlConversion, h]

/-! ### The filter and the deadband (R90, R91) -/

theorem filterStep_of_filters {s : State} {x : Seeded} {r : BitVec 12} {filtered : Nat} (h : Given.filters s x r filtered) :
    filterStep (s.global gKnobFilter) x.filtered r.toNat = filtered := by
  unfold filterStep
  push_cast
  rw [Int.mul_comm (r.toNat : Int) 16, ← h]
  exact Int.toNat_natCast filtered

theorem Control.deadband_eq (c : Control) : c.deadband = Given.deadband c := by
  unfold Control.deadband Given.deadband
  cases c.noisy <;> cases c.motion <;> rfl

theorem lt_distance_iff {d a b : Nat} : d < distance a b ↔ b + d < a ∨ a + d < b := by
  unfold distance
  omega

/-! ### The noise guard (R93, R94) -/

/-- CONTROL_NOISY is posted, when there is something to tell. -/
def State.tellNoisy (k : ControlId) (set : Option Bool) (s : State) : State :=
  match set with
  | some b => s.postNoisy k b
  | none => s

theorem sameButLinks_tellNoisy (k : ControlId) (set : Option Bool) (s : State) : SameButLinks s (s.tellNoisy k set) := by
  cases set with
  | none => rfl
  | some b => exact sameButLinks_post _ _ _ _ s

theorem State.link_tellNoisy (k : ControlId) (set : Option Bool) (s : State) (m : Link) :
    (s.tellNoisy k set).link m = Given.noisyTold s k (s.control k).reportedOr0 set (s.link m) := by
  cases set with
  | none => rfl
  | some b => exact State.link_post _ _ _ _ m s

/-- A control's record after the noise guard, which notes the direction of the move. -/
def Control.guarded (s : State) (c : Control) (p0 p1 : Nat) : Control :=
  { c with
    direction := moveDirection p0 p1, reversals := (Given.guarded s c p0 p1).1, noisy := (Given.guarded s c p0 p1).2.1 }

theorem isReversal_iff {c : Control} {p0 p1 : Nat} : isReversal c.direction (moveDirection p0 p1) = true ↔
    (c.direction = .up ∧ p1 ≤ p0) ∨ (c.direction = .down ∧ p0 < p1) := by
  unfold isReversal moveDirection
  by_cases h : p0 < p1
  · cases c.direction <;> simp [h]
  · cases c.direction <;> simp [h, Nat.le_of_not_lt h]

theorem large_iff (p0 p1 : Nat) : (256 < distance p1 p0) ↔ (p0 + 256 < p1 ∨ p1 + 256 < p0) := lt_distance_iff

theorem State.quietRound_of_noisy {s : State} {k : ControlId} {n : Nat} (h : (s.control k).noisy = some n) :
    s.quietRound k =
      (s.setControl k { s.control k with noisy := if 1000 ≤ n + 1 then none else some (n + 1) }).tellNoisy k
        (if 1000 ≤ n + 1 then some false else none) := by
  unfold State.quietRound
  simp only [h]
  split <;> rfl

theorem State.quietRound_of_quiet {s : State} {k : ControlId} (h : (s.control k).noisy = none) : s.quietRound k = s := by
  unfold State.quietRound
  simp only [h]

/-- The noise guard of a control whose NOISY is clear. -/
theorem State.noiseGuard_of_quiet {s : State} {k : ControlId} (h : (s.control k).noisy = none) (p0 p1 : Nat) :
    s.noiseGuard k p0 p1 = (s.setControl k ((s.control k).guarded s p0 p1)).tellNoisy k
      (Given.guarded s (s.control k) p0 p1).2.2 := by
  unfold State.noiseGuard Control.guarded Given.guarded
  simp only [h, decide_eq_true_eq, large_iff, isReversal_iff, addReversal]
  split
  · rfl
  · split
    · split <;> rfl
    · simp only [← h]
      rfl

/-- The noise guard of a NOISY control. -/
theorem State.noiseGuard_of_noisy {s : State} {k : ControlId} {n : Nat} (h : (s.control k).noisy = some n) (p0 p1 : Nat) :
    s.noiseGuard k p0 p1 = (s.setControl k ((s.control k).guarded s p0 p1)).tellNoisy k
      (Given.guarded s (s.control k) p0 p1).2.2 := by
  unfold State.noiseGuard Control.guarded Given.guarded
  simp only [h, decide_eq_true_eq, large_iff, isReversal_iff]
  split
  · rfl
  · split
    · rfl
    · rw [State.quietRound_of_noisy (n := n) (by rw [State.control_setControl_self]), State.setControl_setControl,
        State.control_setControl_self]
      split <;> rfl

theorem State.noiseGuard_eq (s : State) (k : ControlId) (p0 p1 : Nat) :
    s.noiseGuard k p0 p1 = (s.setControl k ((s.control k).guarded s p0 p1)).tellNoisy k
      (Given.guarded s (s.control k) p0 p1).2.2 := by
  cases h : (s.control k).noisy with
  | none => exact State.noiseGuard_of_quiet h p0 p1
  | some n => exact State.noiseGuard_of_noisy h p0 p1

/-! ### Conversions (R89 to R91) -/

theorem State.conversion_of_unseeded {s : State} {k : ControlId} (h : (s.control k).seed = none) (r : Nat) :
    s.conversion k r =
      State.seededEvent k (s.setControl k { s.control k with seed := some { filtered := r * 16, reported := r } }) := by
  unfold State.conversion
  simp only [h]

section
variable {s : State} {k : ControlId} {x : Seeded} {r : BitVec 12} {filtered : Nat}
  (hseed : (s.control k).seed = some x) (hfilter : Given.filters s x r filtered)
include hseed hfilter

/-- A conversion within the deadband moves the filter. -/
theorem State.conversion_of_near (hnear : ¬Given.deadband (s.control k) < distance (filtered / 16) x.reported) :
    s.conversion k r.toNat =
      State.quietRound k (s.setControl k { s.control k with seed := some { filtered, reported := x.reported } }) := by
  unfold State.conversion
  simp only [hseed, filterStep_of_filters hfilter, Control.deadband_eq, Seeded.position, if_neg hnear]

/-- A conversion beyond the deadband is a move event. -/
theorem State.conversion_of_far (hfar : Given.deadband (s.control k) < distance (filtered / 16) x.reported) :
    s.conversion k r.toNat =
      ((((s.setControl k (Given.movedControl s (s.control k) x filtered)).tellNoisy k
        (Given.guarded s (s.control k) x.reported (filtered / 16)).2.2).controlMove k x.reported (filtered / 16)).post
          .controlMoved k (filtered / 16) x.reported) := by
  unfold State.conversion
  simp only [hseed, filterStep_of_filters hfilter, Control.deadband_eq, Seeded.position, if_pos hfar]
  rw [State.moveEvent]
  simp only [State.noiseGuard_eq, State.setControl_setControl, State.control_setControl_self]
  rfl

end

/-! ### What a conversion leaves (R86, R89 to R94, R98) -/

/-- The scan round goes on after a conversion that touched its own control, and at most bindings and links besides. -/
theorem scanGoesOn_of {s u : State} {address : Fin 8} {input : Fin 16} (hframe : SameButPanel s u)
    (hscanner : u.scanner = s.scanner) (hcontrol : ∀ c, c ≠ controlAt address input → u.control c = s.control c) :
    Given.scanGoesOn s (u.advanceRound address input) address input :=
  ⟨hframe.trans (sameButPanel_advanceRound address input u), roundGoesOn_advanceRound hscanner hcontrol⟩

theorem State.link_advanceRound (address : Fin 8) (input : Fin 16) (s : State) (l : Link) :
    (s.advanceRound address input).link l = s.link l := by cases l <;> rfl

theorem sameButKnobs_seededEvent (k : ControlId) (s : State) : SameButKnobs s (s.seededEvent k) := by
  unfold State.seededEvent
  cases s.knob k <;> exact rfl

theorem State.knob_seededEvent_self (s : State) (k : ControlId) : (s.seededEvent k).knob k = (s.knob k).map fun b =>
    { b with pickup :=
        Given.pickupFor b.mode (Given.knobPosition b.index (Given.reportedAt s k)) (s.param b.part b.index) } := by
  unfold State.seededEvent
  cases h : s.knob k with
  | none => simp [h]
  | some b =>
    simp only [State.knob_setKnob_self, KnobBinding.enter_eq]
    rfl

theorem State.knob_seededEvent_ne {k c : ControlId} (hc : c ≠ k) (s : State) : (s.seededEvent k).knob c = s.knob c := by
  unfold State.seededEvent
  cases s.knob k with
  | none => rfl
  | some b => exact State.knob_setKnob_ne hc _ s

theorem SameButKnobs.panel {s t : State} (h : SameButKnobs s t) : SameButPanel s t := by
  unfold SameButKnobs at h
  unfold SameButPanel
  exact h.trans (by rw [h])

theorem SameButKnobs.scanner {s t : State} (h : SameButKnobs s t) : t.scanner = s.scanner := by
  unfold SameButKnobs at h
  rw [h]

theorem SameButKnobs.params {s t : State} (h : SameButKnobs s t) : t.params = s.params := by
  unfold SameButKnobs at h
  rw [h]

theorem SameButKnobs.control {s t : State} (h : SameButKnobs s t) (c : ControlId) : t.control c = s.control c := by
  unfold SameButKnobs at h
  rw [h]
  rfl

theorem exec_conversion_seeding {s : State} {address : Fin 8} {input : Fin 16} (r : BitVec 12)
    (h : Given.seeding s address input) : ∃ t, exec (.controlConversion r) s = .next t
      ∧ Given.scanGoesOn s t address input ∧ t.params = s.params
      ∧ t.control (controlAt address input) =
          { s.control (controlAt address input) with seed := some { filtered := 16 * r.toNat, reported := r.toNat } }
      ∧ t.knob (controlAt address input) = (s.knob (controlAt address input)).map (fun b => { b with
          pickup := Given.pickupFor b.mode (Given.knobPosition b.index r.toNat) (s.param b.part b.index) })
      ∧ (∀ c, c ≠ controlAt address input → t.knob c = s.knob c)
      ∧ ∀ l, t.link l = s.link l := by
  obtain ⟨hround, hseed⟩ := h
  have hexec := exec_controlConversion r hround
  rw [State.conversion_of_unseeded hseed, Nat.mul_comm] at hexec
  obtain ⟨c, hc⟩ : ∃ c : Control, c =
    { s.control (controlAt address input) with seed := some { filtered := 16 * r.toNat, reported := r.toNat } } := ⟨_, rfl⟩
  rw [← hc] at hexec ⊢
  have hknobs := sameButKnobs_seededEvent (controlAt address input) (s.setControl (controlAt address input) c)
  refine ⟨_, hexec, scanGoesOn_of ((sameButPanel_setControl _ c s).trans hknobs.panel) hknobs.scanner fun d hd => ?_,
    hknobs.params, ?_, ?_, fun d hd => ?_, fun l => ?_⟩
  · rw [hknobs.control, State.control_setControl_ne hd]
  · exact (hknobs.control _).trans (State.control_setControl_self _ c s)
  · refine (State.knob_seededEvent_self _ _).trans ?_
    have hreported : Given.reportedAt (s.setControl (controlAt address input) c) (controlAt address input) = r.toNat := by
      rw [Given.reportedAt, State.control_setControl_self, hc]
      rfl
    simp only [hreported, State.setControl_param, State.setControl_knob]
  · exact (State.knob_seededEvent_ne hd _).trans (State.setControl_knob _ c d s)
  · rw [State.link_advanceRound, hknobs.link, State.setControl_link]

/-- The state that a conversion leaves but for the scan round, where it touches its control and the links alone. -/
structure Converted (s u : State) (k : ControlId) : Prop where
  frame : SameButPanel s u
  scanner : u.scanner = s.scanner
  params : u.params = s.params
  knobs : u.knobs = s.knobs
  control : ∀ c, c ≠ k → u.control c = s.control c

theorem converted_setControl (s : State) (k : ControlId) (c : Control) : Converted s (s.setControl k c) k :=
  ⟨sameButPanel_setControl k c s, rfl, rfl, rfl, fun _ hne => State.control_setControl_ne hne c s⟩

theorem Converted.of_links {s u w : State} {k : ControlId} (h : Converted s u k) (hlinks : SameButLinks u w) :
    Converted s w k := by
  obtain ⟨hframe, hscanner, hparams, hknobs, hcontrol⟩ := h
  have hpanel := hframe.trans hlinks.panel
  unfold SameButLinks at hlinks
  rw [hlinks] at hpanel ⊢
  exact ⟨hpanel, hscanner, hparams, hknobs, hcontrol⟩

theorem Converted.advanced {s u : State} {address : Fin 8} {input : Fin 16}
    (h : Converted s u (controlAt address input)) :
    Given.scanGoesOn s (u.advanceRound address input) address input
      ∧ (u.advanceRound address input).params = s.params ∧ (u.advanceRound address input).knobs = s.knobs :=
  ⟨scanGoesOn_of h.frame h.scanner h.control, h.params, h.knobs⟩

theorem SameButLinks.control {s t : State} (h : SameButLinks s t) (k : ControlId) : t.control k = s.control k := by
  unfold SameButLinks at h
  rw [h]
  rfl

theorem Converted.knob {s u : State} {k : ControlId} (h : Converted s u k) (c : ControlId) : u.knob c = s.knob c := by
  rw [State.knob, State.knob, h.knobs]

theorem State.controlMove_of_unbound {s : State} {k : ControlId} (h : s.knob k = none) (p0 p1 : Nat) :
    s.controlMove k p0 p1 = s := by
  unfold State.controlMove
  simp only [h]

theorem mask_noisyTold (s : State) (k : ControlId) (reported : Nat) (set : Option Bool) (u : LinkUnit) :
    (Given.noisyTold s k reported set u).queue.mask = u.queue.mask := by
  cases set with
  | none => rfl
  | some yes =>
    simp only [Given.noisyTold, LinkUnit.told_eq]
    split
    · unfold NoticeQueue.post
      split <;> rfl
    · rfl

/-- What the links hear of a move: CONTROL_NOISY, when there is something to tell, and CONTROL_MOVED. -/
theorem link_moved (s : State) (k : ControlId) (c : Control) (p0 p1 : Nat) (set : Option Bool) (l : Link)
    (hc : c.reportedOr0 = p1) :
    (((s.setControl k c).tellNoisy k set).post .controlMoved k p1 p0).link l =
      (Given.noisyTold s k p1 set (s.link l)).told ((s.link l).queue.mask.getLsbD 2)
        { kind := .controlMoved, subject := k, value1 := p1, value2 := p0, stamp := s.timestamp } := by
  have hlink : ((s.setControl k c).tellNoisy k set).link l = Given.noisyTold s k p1 set (s.link l) := by
    rw [State.link_tellNoisy, State.control_setControl_self, hc, State.setControl_link]
    rfl
  have hstamp : ((s.setControl k c).tellNoisy k set).timestamp = s.timestamp := by
    have h := (sameButLinks_tellNoisy k set (s.setControl k c)).image.timestamp
    exact h
  rw [State.link_post, State.subscribed, hlink, hstamp, mask_noisyTold]
  rfl

section
variable {s : State} {address : Fin 8} {input : Fin 16} {r : BitVec 12} {x : Seeded} {filtered : Nat}
  (hfilter : Given.filters s x r filtered)
include hfilter

theorem exec_guardedMove (h : Given.guardedMove s address input x filtered) :
    ∃ t, exec (.controlConversion r) s = .next t ∧ Given.scanGoesOn s t address input ∧ t.params = s.params
      ∧ t.knobs = s.knobs
      ∧ t.control (controlAt address input) =
          Given.movedControl s (s.control (controlAt address input)) x filtered
      ∧ ∀ l, t.link l =
          (Given.noisyTold s (controlAt address input) (filtered / 16)
            (Given.guarded s (s.control (controlAt address input)) x.reported (filtered / 16)).2.2 (s.link l)).told
            ((s.link l).queue.mask.getLsbD 2)
            (Given.movedNotice s (controlAt address input) x (filtered / 16)) := by
  obtain ⟨⟨⟨hround, hseed⟩, hfar⟩, hknob⟩ := h
  have hexec := exec_controlConversion r hround
  rw [State.conversion_of_far hseed hfilter (lt_distance_iff.mpr hfar)] at hexec
  have htell := sameButLinks_tellNoisy (controlAt address input)
    (Given.guarded s (s.control (controlAt address input)) x.reported (filtered / 16)).2.2
    (s.setControl (controlAt address input)
      (Given.movedControl s (s.control (controlAt address input)) x filtered))
  have hset := converted_setControl s (controlAt address input)
    (Given.movedControl s (s.control (controlAt address input)) x filtered)
  rw [State.controlMove_of_unbound (((hset.of_links htell).knob _).trans hknob)] at hexec
  have hconverted := (hset.of_links htell).of_links
    (sameButLinks_post .controlMoved (controlAt address input) (filtered / 16) x.reported _)
  obtain ⟨hgoes, hparams, hknobs⟩ := hconverted.advanced
  refine ⟨_, hexec, hgoes, hparams, hknobs, ?_, fun l => ?_⟩
  · exact ((sameButLinks_post _ _ _ _ _).control _).trans ((htell.control _).trans (State.control_setControl_self _ _ s))
  · rw [State.link_advanceRound]
    exact link_moved s _ _ _ _ _ l rfl

theorem exec_conversion_within (h : Given.withinDeadband s address input x filtered) :
    ∃ t, exec (.controlConversion r) s = .next t ∧ Given.scanGoesOn s t address input ∧ t.params = s.params
      ∧ t.control (controlAt address input) =
          { s.control (controlAt address input) with seed := some { filtered, reported := x.reported } }
      ∧ (∀ l, t.link l = s.link l) ∧ t.knobs = s.knobs := by
  obtain ⟨⟨hround, hseed⟩, hnoisy, hup, hdown⟩ := h
  have hexec := exec_controlConversion r hround
  have hnear : ¬Given.deadband (s.control (controlAt address input)) < distance (filtered / 16) x.reported := by
    rw [lt_distance_iff]
    omega
  rw [State.conversion_of_near hseed hfilter hnear,
    State.quietRound_of_quiet (by rw [State.control_setControl_self]; exact hnoisy)] at hexec
  have hconverted := converted_setControl s (controlAt address input)
    { s.control (controlAt address input) with seed := some { filtered, reported := x.reported } }
  obtain ⟨hgoes, hparams, hknobs⟩ := hconverted.advanced
  refine ⟨_, hexec, hgoes, hparams, State.control_setControl_self _ _ s, fun l => ?_, hknobs⟩
  rw [State.link_advanceRound, State.setControl_link]

theorem exec_quietNoisy {n : Nat} (h : Given.quietNoisy s address input x filtered n) :
    ∃ t, exec (.controlConversion r) s = .next t ∧ Given.scanGoesOn s t address input ∧ t.params = s.params
      ∧ t.knobs = s.knobs
      ∧ t.control (controlAt address input) = { s.control (controlAt address input) with
          seed := some { filtered, reported := x.reported }, noisy := if 1000 ≤ n + 1 then none else some (n + 1) }
      ∧ ∀ l, t.link l =
          Given.noisyTold s (controlAt address input) x.reported (if 1000 ≤ n + 1 then some false else none)
            (s.link l) := by
  obtain ⟨⟨hround, hseed⟩, hnoisy, hup, hdown⟩ := h
  have hexec := exec_controlConversion r hround
  have hnear : ¬Given.deadband (s.control (controlAt address input)) < distance (filtered / 16) x.reported := by
    rw [lt_distance_iff, Given.deadband, if_pos (by rw [hnoisy]; rfl)]
    omega
  rw [State.conversion_of_near hseed hfilter hnear,
    State.quietRound_of_noisy (n := n) (by rw [State.control_setControl_self]; exact hnoisy),
    State.setControl_setControl, State.control_setControl_self] at hexec
  have htell := sameButLinks_tellNoisy (controlAt address input) (if 1000 ≤ n + 1 then some false else none)
    (s.setControl (controlAt address input) { s.control (controlAt address input) with
      seed := some { filtered, reported := x.reported }, noisy := if 1000 ≤ n + 1 then none else some (n + 1) })
  obtain ⟨hgoes, hparams, hknobs⟩ := ((converted_setControl s (controlAt address input) _).of_links htell).advanced
  refine ⟨_, hexec, hgoes, hparams, hknobs, ?_, fun l => ?_⟩
  · exact (htell.control _).trans (State.control_setControl_self _ _ s)
  · rw [State.link_advanceRound, State.link_tellNoisy, State.control_setControl_self, State.setControl_link]
    rfl

end

/-- The noise guard has nothing to do at a first move that is not large. -/
theorem guarded_of_first {s : State} {c : Control} {p0 p1 : Nat} (hnoisy : c.noisy = none) (hdir : c.direction = .none)
    (hup : p1 ≤ p0 + 256) (hdown : p0 ≤ p1 + 256) : Given.guarded s c p0 p1 = (c.reversals, none, none) := by
  have hlarge : ¬(p0 + 256 < p1 ∨ p1 + 256 < p0) := by omega
  have hreversal : ¬((c.direction = .up ∧ p1 ≤ p0) ∨ (c.direction = .down ∧ p0 < p1)) := by simp [hdir]
  simp only [Given.guarded, hnoisy, if_neg hlarge, if_neg hreversal]

/-- Settles O39: seeding, the filter within the deadband, and the plain case of a guarded move. -/
theorem conversionUpdatesControl : Obligations.ConversionUpdatesControl := by
  unfold Obligations.ConversionUpdatesControl
  intro s address input r k
  refine ⟨exec_conversion_seeding r, fun x filtered hfilter => ⟨exec_conversion_within hfilter, fun h => ?_⟩⟩
  obtain ⟨⟨hmoves, hnoisy, hdir, hup, hdown⟩, hknob⟩ := h
  have hguard := guarded_of_first (s := s) hnoisy hdir hup hdown
  obtain ⟨t, hexec, hgoes, hparams, hknobs, hcontrol, hlink⟩ := exec_guardedMove hfilter ⟨hmoves, hknob⟩
  rw [Given.movedControl, hguard] at hcontrol
  rw [hguard] at hlink
  refine ⟨t, hexec, hgoes, hparams, hcontrol.trans ?_, hlink, hknobs⟩
  rw [← hnoisy]

/-- Settles O41. -/
theorem noiseGuardCountsReversals : Obligations.NoiseGuardCountsReversals := by
  unfold Obligations.NoiseGuardCountsReversals
  intro s address input r x filtered hfilter k c p1
  exact ⟨exec_guardedMove hfilter, fun n => exec_quietNoisy hfilter⟩

end Sys2Proof.Machine
end

section
/-! PROOFS. CAL_WRITE, TUNE_ABORT of a run that waits, and the measurement up to anchor 7 (R123 to R133, R147, R155). -/

namespace Sys2Proof.Machine

/-! ### CAL_WRITE (R155) -/

/-- CAL_WRITE that passes its checks. -/
theorem exec_of_writing {s : State} {l : Link} {o : OscId} {m : CalMap} {payload : List Byte} (hready : s.ready l)
    (hwork : calWriteService l payload (s.framed l payload) = ((s.framed l payload).writeMap o m, .ok)) :
    ∃ t, exec (.calWrite l payload) s = .next t
      ∧ t = { s with calibration := t.calibration, linkA := t.linkA, linkB := t.linkB }
      ∧ t.cal o = { s.cal o with map := m } ∧ (∀ q, q ≠ o → t.cal q = s.cal q)
      ∧ Took s t l (2 + payload.length) (okReply 0x33 false false []) := by
  obtain ⟨t, hexec, ht, htook⟩ := exec_of_quiet hready (r := .calWrite) (by decide) hwork fun m => State.setCal_link _ _ _ _
  have hcal : ∀ q, (s.framed l payload).cal q = s.cal q := fun q => by cases l <;> rfl
  refine ⟨t, hexec, ?_, ?_, fun q hq => ?_, htook⟩ <;> rw [ht]
  · cases l <;> rfl
  · rw [State.setLink_cal, State.writeMap, State.cal_setCal_self, hcal]
  · rw [State.setLink_cal, State.writeMap, State.cal_setCal_ne hq, hcal]

theorem checkedMap_of_free {s : State} {o : OscId} (h : (s.voice (voiceOfOsc o)).phase.isTuning = false) (m : CalMap) :
    s.checkedMap (byte o) (some m) = (s.writeMap o m, .ok) := by
  have ho : field? 32 (byte o) = some o := field?_byte (by decide) o
  simp [State.checkedMap, ho, State.oscTuning, h]

theorem calWriteService_nominal {s : State} {l : Link} {o : OscId}
    (h : (s.voice (voiceOfOsc o)).phase.isTuning = false) :
    calWriteService l [byte o, 0x00#8] s = (s.writeMap o .nominal, .ok) := by
  rw [← checkedMap_of_free h]
  rfl

theorem goodSteps_of_neighbours {vs : List Nat} (h : ∀ x ∈ vs.zip vs.tail, x.1 + 2048 ≤ x.2 ∧ x.2 ≤ x.1 + 8192) :
    goodSteps vs = true := by
  induction vs using goodSteps.induct with
  | case1 p q ps ih =>
    simp only [List.tail_cons, List.zip_cons_cons, List.mem_cons, forall_eq_or_imp] at h
    rw [goodSteps, ih h.2, goodStep]
    simpa using h.1
  | case2 vs hshort => rw [goodSteps]; exact hshort

theorem calibratedInRange_of_good {first last : Nat} {ps : List Nat} (h : Given.goodMap first last ps) :
    calibratedInRange first last ps = true := by
  obtain ⟨hlast, hspan, hlength, -, hsteps⟩ := h
  rw [calibratedInRange, goodSteps_of_neighbours hsteps, Bool.and_true, decide_eq_true_eq]
  omega

theorem calWriteService_calibrated {s : State} {l : Link} {o : OscId} {first last : Nat} {ps : List Nat}
    (h : (s.voice (voiceOfOsc o)).phase.isTuning = false) (hmap : Given.goodMap first last ps) :
    calWriteService l ([byte o, 0x01#8, byte first, byte last] ++ ps.flatMap field16) s =
      (s.writeMap o (.calibrated first ps), .ok) := by
  have hrange := calibratedInRange_of_good hmap
  obtain ⟨hlast, hspan, hlength, hvalues, -⟩ := hmap
  have hone : ¬(0x01#8 : Byte) = 0 := by decide
  have hone' : (0x01#8 : Byte) = 1 := rfl
  simp only [calWriteService, List.cons_append, List.nil_append, if_neg hone, if_pos hone', values16?_flatMap_field16 hvalues,
    toNat_byte (show first < 256 by omega), toNat_byte (show last < 256 by omega), if_pos hlength, hrange, if_true]
  exact checkedMap_of_free h _

/-- Settles O45. -/
theorem calWriteReplacesMap : Obligations.CalWriteReplacesMap := by
  unfold Obligations.CalWriteReplacesMap
  intro s l o stores
  have hvoice : ∀ payload v, (s.framed l payload).voice v = s.voice v := fun payload v => by cases l <;> rfl
  refine ⟨fun h => ?_, fun first last ps h => ?_⟩
  · exact exec_of_writing h.1 (calWriteService_nominal (by rw [hvoice]; exact h.2))
  · obtain ⟨⟨hready, hfree⟩, hmap⟩ := h
    exact exec_of_writing hready (calWriteService_calibrated (by rw [hvoice]; exact hfree) hmap)

/-! ### TUNE_ABORT of a run that waits (R147) -/

theorem clearClaims_touches (s : State) : SameButTable s s.clearClaims
    ∧ ∀ v, s.clearClaims.voice v = { s.voice v with claim := false } := by
  have hfold := foldl_touches (get := State.voice) (f := fun _ x => { x with claim := false })
    (step := fun s v => if (s.voice v).claim then s.setClaim v false else s)
    (SameButTable s) (fun t v ht => ?_) (fun t v ht => ?_) (fun t v w ht hw => ?_) nodup_allVoices (.refl s)
  · exact ⟨hfold.1, fun v => (hfold.2 v).trans (if_pos (mem_allVoices v))⟩
  · split
    · exact ht.setVoice v _
    · exact ht
  · split
    · rw [State.setClaim, State.voice_setVoice_self]
    · next hclaim => rw [← Bool.eq_false_iff.mpr hclaim]
  · split
    · rw [State.setClaim, State.voice_setVoice_ne hw]
    · rfl

theorem State.link_postAlso_told (named : Link → Bool) (kind : NoticeKind) (a b c : Nat) (s : State) (m : Link) :
    (s.postAlso named kind a b c).link m = (s.link m).told (named m || (s.link m).queue.mask.getLsbD kind.group.bit)
      { kind, subject := a, value1 := b, value2 := c, stamp := s.timestamp } :=
  State.link_postWhere _ _ _ _ _ m s

/-- A run that waits while no voice is TUNING ends at its abort without a hand-back. -/
theorem State.abortRun_of_waiting {s : State} {r : Run} (hcurrent : r.current = none)
    (htuning : ∀ v, (s.voice v).phase.isTuning = false) :
    s.abortRun r = { s.clearClaims.postRunDone r true with run := none } := by
  have hwaiting : s.abortWaiting r = (s, []) := by
    have hnone : (allVoices.filter fun v => (s.voice v).phase.isTuning) = [] :=
      List.filter_eq_nil_iff.mpr fun v _ => by simp [htuning v]
    simp only [State.abortWaiting, hnone, List.foldl_nil, List.filter_nil]
  have hone : s.abortCurrentVoice r = (s, []) := by simp only [State.abortCurrentVoice, hcurrent]
  have hnone : (allVoices.filter fun v => v ∈ ([] : List VoiceId) ++ []) = [] :=
    List.filter_eq_nil_iff.mpr fun v _ => by simp
  simp only [State.abortRun, hone, hwaiting, hnone, State.offerAll, List.foldl_nil]

theorem tuneAbort_waiting {s : State} {l : Link} {r : Run} (h : Given.waitingRun s l r) :
    ∃ t, exec (.tuneAbort l []) s = .next t
      ∧ t = { s with voices := t.voices, run := none, linkA := t.linkA, linkB := t.linkB }
      ∧ (∀ v, t.voice v = { s.voice v with claim := false })
      ∧ t.link l = ((s.link l).took 2 (okReply 0x31 false false [byte r.passCount, byte r.failCount])).told
          (r.requester == some l || (s.link l).queue.mask.getLsbD 3) (Given.runDone r true s.timestamp)
      ∧ t.link l.other = (s.link l.other).told
          (r.requester == some l.other || (s.link l.other).queue.mask.getLsbD 3) (Given.runDone r true s.timestamp) := by
  obtain ⟨hready, hrun, hcurrent, htuning⟩ := h
  have hframed : ∀ v, (s.framed l []).voice v = s.voice v := fun v => by cases l <;> rfl
  have hwork : Request.tuneAbort.service l [] (s.framed l []) =
      ({ (s.framed l []).clearClaims.postRunDone r true with run := none },
        { status := .ok, data := [byte r.passCount, byte r.failCount] }) := by
    have hrun' : (s.framed l []).run = some r := (by cases l <;> rfl : (s.framed l []).run = s.run).trans hrun
    simp only [Request.service, tuneAbortService, hrun']
    rw [State.abortRun_of_waiting hcurrent fun v => by rw [hframed]; exact htuning v]
  obtain ⟨htable, hvoice⟩ := clearClaims_touches (s.framed l [])
  have hlink : ∀ m, (s.framed l []).clearClaims.link m = (s.framed l []).link m := htable.link
  have hpost := sameButLinks_postAlso (fun m => r.requester == some m) .tuneRunDone (linkOrNone r.requester)
    (pair r.passCount r.failCount) (bit true) (s.framed l []).clearClaims
  obtain ⟨t, hexec, ⟨y, ht⟩, hown, hother⟩ := exec_of_telling hready (by decide) hwork
    (yes := fun m => r.requester == some m || (s.link m).queue.mask.getLsbD 3) (n := Given.runDone r true s.timestamp)
    fun m => by
      have h := State.link_postAlso_told (fun m => r.requester == some m) .tuneRunDone (linkOrNone r.requester)
        (pair r.passCount r.failCount) (bit true) (s.framed l []).clearClaims m
      rw [hlink, htable.timestamp] at h
      refine Eq.trans ?_ (h.trans ?_)
      · cases m <;> rfl
      · cases l <;> cases m <;> rfl
  generalize (s.framed l []).clearClaims = u at *
  have hframe : t = { s with voices := t.voices, run := none, linkA := t.linkA, linkB := t.linkB } := by
    unfold SameButLinks at hpost
    unfold SameButTable at htable
    rw [ht, State.postRunDone, hpost, htable]
    cases l <;> rfl
  refine ⟨t, hexec, hframe, fun v => ?_, hown, hother⟩
  rw [ht, State.setLink_voice]
  refine Eq.trans ?_ ((hvoice v).trans ?_)
  · exact State.postWhere_voice _ _ _ _ _ v u
  · rw [hframed]

theorem tuneAbort_nothing {s : State} {l : Link} (h : Given.noRun s l) :
    ∃ t, exec (.tuneAbort l []) s = .next t ∧ SameButLinks s t
      ∧ Took s t l 2 (okReply 0x31 false true [Config.passWithoutRun, Config.failWithoutRun]) := by
  obtain ⟨hready, hrun⟩ := h
  have hwork : Request.tuneAbort.service l [] (s.framed l []) = (s.framed l [],
      { status := .ok, nothing := true, data := [Config.passWithoutRun, Config.failWithoutRun] }) := by
    have hrun' : (s.framed l []).run = none := (by cases l <;> rfl : (s.framed l []).run = s.run).trans hrun
    simp only [Request.service, tuneAbortService, hrun']
  obtain ⟨t, hexec, ht, htook⟩ := exec_of_quiet hready (by decide) hwork fun _ => rfl
  refine ⟨t, hexec, ?_, htook⟩
  rw [ht]
  cases l <;> rfl

/-- Settles O44. -/
theorem tuneAbortEndsRun : Obligations.TuneAbortEndsRun := by
  unfold Obligations.TuneAbortEndsRun
  exact ⟨fun s l => tuneAbort_nothing, fun s l r h => tuneAbort_waiting h⟩

/-! ### The end of an anchor below 7 (R123, R133) -/

/-- The end of an anchor below 7 writes its entry and starts the next one. -/
theorem nextAnchor_finishAnchor {s : State} {m : Measurement} {r : Run} {c : Current} {cand : CalCandidate}
    (h : Given.anchorRuns s m r c cand) (res : AnchorResult) (x : Nat) (cal : Vector CalRecord 32) {t : State}
    (ht : t = State.finishAnchor m res { s with periodCounter := x, calibration := cal }) :
    Given.nextAnchor s t m r c cand res ∧ t.periodCounter = x ∧ t.calibration = cal := by
  obtain ⟨hmeasurement, hrun, hcurrent, hcand, hanchor, hlt⟩ := h
  have hnext : (⟨c.anchor.val + 1, by omega⟩ : AnchorId) = c.anchor + 1 := by
    refine Fin.ext ?_
    rw [Fin.val_add_one_of_lt]
    exact Fin.lt_last_iff_ne_last.mpr fun e => by rw [e] at hlt; exact absurd hlt (by decide)
  have hfinish : t = State.startAnchor c.voice c.second (c.anchor + 1) { s with
      periodCounter := x, calibration := cal, measurement := none
      candidate := some { cand with entries := cand.entries.set m.anchor (some res) }
      run := some { r with current := some { c with anchor := c.anchor + 1 } } } := by
    rw [ht]
    simp only [State.finishAnchor, State.anchorCompleted, hrun, hcurrent, hcand, Option.map_some, dif_pos hlt, hnext]
  have hzero : c.anchor + 1 ≠ 0 := by
    rw [← hnext]
    exact fun e => absurd (congrArg Fin.val e) (by simp)
  have hvalue : (c.anchor + 1).val = c.anchor.val + 1 := by rw [← hnext]
  rw [State.startAnchor, settleTime, if_neg hzero, anchorCode, hvalue] at hfinish
  subst hfinish
  refine ⟨⟨rfl, rfl, rfl, rfl, ?_, fun v hv => ?_⟩, rfl, rfl⟩
  · rw [State.setPhase, State.voice_setVoice_self]
    rfl
  · rw [State.setPhase, State.voice_setVoice_ne hv]
    rfl

/-! ### An anchor ends DEAD (R127, R128) -/

theorem nextAnchor_edgeExpiry {s : State} {m : Measurement} {r : Run} {c : Current} {cand : CalCandidate}
    (h : Given.edgeRuns s m r c cand) : Given.nextAnchor s (s.edgeExpiry m) m r c cand .dead
      ∧ (s.edgeExpiry m).calibration = s.calibration := by
  obtain ⟨hruns, hphase⟩ := h
  unfold State.edgeExpiry
  cases hm : m.phase with
  | settle => exact absurd hm hphase
  | probeWait =>
    obtain ⟨hnext, -, hcal⟩ := nextAnchor_finishAnchor hruns .dead s.periodCounter s.calibration rfl
    exact ⟨hnext, hcal⟩
  | probe =>
    obtain ⟨hnext, -, hcal⟩ :=
      nextAnchor_finishAnchor hruns .dead (min counterMax (s.periodCounter + edgeTicks)) s.calibration rfl
    exact ⟨hnext, hcal⟩
  | count c1 n periods =>
    obtain ⟨hnext, -, hcal⟩ :=
      nextAnchor_finishAnchor hruns .dead (min counterMax (s.periodCounter + edgeTicks)) s.calibration rfl
    exact ⟨hnext, hcal⟩

theorem exec_edgeTimerExpiry {s : State} {m : Measurement} (h : s.measurement = some m) :
    exec .edgeTimerExpiry s = .next (s.edgeExpiry m) := by
  show execEdgeTimerExpiry s = _
  simp only [execEdgeTimerExpiry, h]

theorem exec_periodCounterSaturation {s : State} {m : Measurement} (h : s.measurement = some m) {c1 n periods : Nat}
    (hphase : m.phase = .count c1 n periods) : exec .periodCounterSaturation s = .next (s.saturate m) := by
  show execPeriodCounterSaturation s = _
  simp only [execPeriodCounterSaturation, h, hphase]

/-- Settles O47. -/
theorem deadAnchorStartsNext : Obligations.DeadAnchorStartsNext := by
  unfold Obligations.DeadAnchorStartsNext
  intro s m r c cand starts
  refine ⟨fun h => ⟨_, exec_edgeTimerExpiry h.1.1, nextAnchor_edgeExpiry h⟩, fun c1 n periods h => ?_⟩
  obtain ⟨hruns, hphase⟩ := h
  obtain ⟨hnext, hcounter, hcal⟩ := nextAnchor_finishAnchor hruns .dead counterMax s.calibration rfl
  exact ⟨_, exec_periodCounterSaturation hruns.1 hphase, ⟨hnext, hcal⟩, hcounter⟩

/-! ### Edges of FIN (R120, R124 to R126, R129, R131) -/

theorem exec_finEdge_probeWait {s : State} {m : Measurement} (h : Given.measuring s m .probeWait) (ticks : Nat) :
    exec (.finEdge ticks) s =
      if edgeTicks < ticks then .next (s.edgeExpiry m)
      else if 1 < m.attempt ∧ ticks < 2 then .next s
      else .next { s with periodCounter := 0, measurement := some { m with phase := .probe, timer := 250 } } := by
  obtain ⟨hmeasurement, hphase⟩ := h
  show execFinEdge ticks s = _
  simp only [execFinEdge, hmeasurement, hphase]
  rfl

theorem exec_finEdge_probe {s : State} {m : Measurement} (h : Given.measuring s m .probe) (ticks : Nat) :
    exec (.finEdge ticks) s =
      if edgeTicks < ticks then .next (s.edgeExpiry m)
      else if ticks < 2 then .next s
      else .next { s with
        periodCounter := 0
        measurement := some { m with
          phase := .count (min counterMax (s.periodCounter + ticks)) (chooseN (min counterMax (s.periodCounter + ticks))) 0
          timer := 250 } } := by
  obtain ⟨hmeasurement, hphase⟩ := h
  show execFinEdge ticks s = _
  simp only [execFinEdge, hmeasurement, hphase]
  rfl

theorem exec_finEdge_count {s : State} {m : Measurement} {c1 n periods ticks : Nat}
    (h : Given.measuring s m (.count c1 n periods)) (htime : Given.inTime ticks) :
    exec (.finEdge ticks) s = .next (s.countEdge m ticks c1 n periods) := by
  obtain ⟨hmeasurement, hphase⟩ := h
  have hlate : ¬edgeTicks < ticks := by
    unfold edgeTicks
    omega
  have hsoon : ¬ticks < 2 := by omega
  show execFinEdge ticks s = _
  simp only [execFinEdge, hmeasurement, hphase, if_neg hlate, if_neg hsoon]

/-- The N of a probe period is the first power of two that reaches 65536, or 256 (R125). -/
theorem chooseN_spec (c : Nat) : ∃ k, k ≤ 8 ∧ (65536 ≤ 2 ^ k * c ∨ k = 8) ∧ (∀ j, j < k → 2 ^ j * c < 65536)
    ∧ chooseN c = 2 ^ k := by
  have hpowers : [1, 2, 4, 8, 16, 32, 64, 128] = (List.range 8).map (2 ^ ·) := by decide
  rw [chooseN, hpowers, List.find?_map]
  cases hfind : (List.range 8).find? ((fun n => decide (65536 ≤ n * c)) ∘ (2 ^ ·)) with
  | none =>
    rw [List.find?_range_eq_none] at hfind
    exact ⟨8, le_rfl, .inr rfl, fun j hj => by simpa using hfind j hj, rfl⟩
  | some k =>
    rw [List.find?_range_eq_some] at hfind
    obtain ⟨hreach, hmem, hbelow⟩ := hfind
    exact ⟨k, (List.mem_range.mp hmem).le, .inl (by simpa using hreach), fun j hj => by simpa using hbelow j hj, rfl⟩

theorem State.countEdge_of_open {s : State} {ticks n periods : Nat} (hbelow : s.periodCounter + ticks < 16777215)
    (hopen : periods + 1 < n) (m : Measurement) (c1 : Nat) : s.countEdge m ticks c1 n periods =
      { s with
        periodCounter := s.periodCounter + ticks
        measurement := some { m with phase := .count c1 n (periods + 1), timer := 250 } } := by
  have hsaturates : ¬counterMax ≤ s.periodCounter + ticks := by
    unfold counterMax
    omega
  simp only [State.countEdge, if_neg hsaturates, if_pos hopen]
  rfl

theorem State.countEdge_of_closing {s : State} {ticks n periods : Nat} (hbelow : s.periodCounter + ticks < 16777215)
    (hcloses : n ≤ periods + 1) (m : Measurement) (c1 : Nat) :
    s.countEdge m ticks c1 n periods = s.closeCount m (s.periodCounter + ticks) n c1 := by
  have hsaturates : ¬counterMax ≤ s.periodCounter + ticks := by
    unfold counterMax
    omega
  simp only [State.countEdge, if_neg hsaturates, if_neg (Nat.not_lt.mpr hcloses)]

theorem closeCount_of_stable {s : State} {count n c1 : Nat} (h : ((count : Int) - (n * c1 : Nat)).natAbs * 16 ≤ n * c1)
    (m : Measurement) :
    s.closeCount m count n c1 = State.finishAnchor m (stableResult count n) { s with periodCounter := count } := by
  have hstable : isStable count n c1 = true := decide_eq_true h
  simp only [State.closeCount, hstable, if_true]

theorem closeCount_of_unstable {s : State} {count n c1 : Nat}
    (h : ¬((count : Int) - (n * c1 : Nat)).natAbs * 16 ≤ n * c1) (m : Measurement) :
    s.closeCount m count n c1 =
      if m.attempt < 3 then
        { State.countUnstable m.osc { s with periodCounter := count } with
          measurement := some { m with attempt := m.attempt + 1, phase := .probeWait, timer := 250 } }
      else State.finishAnchor m .unstable (State.countUnstable m.osc { s with periodCounter := count }) := by
  have hstable : isStable count n c1 = false := decide_eq_false h
  simp only [State.closeCount, hstable, Bool.false_eq_true, if_false]
  rfl

theorem stableResult_of_range {c n : Nat} (hlow : 0 ≤ anchorPitch c n) (hhigh : anchorPitch c n ≤ 65535) :
    stableResult c n = .passed (anchorPitch c n).toNat := by
  rw [stableResult, if_pos ⟨hlow, hhigh⟩]

theorem stableResult_of_low {c n : Nat} (hlow : anchorPitch c n < 0) : stableResult c n = .outOfRange := by
  rw [stableResult, if_neg fun h => absurd h.1 (Int.not_le.mpr hlow)]

/-- The anchor below 7 that ends at the closing edge of a stable count. -/
theorem exec_stable_close {s : State} {m : Measurement} {r : Run} {c : Current} {cand : CalCandidate}
    {ticks c1 n periods : Nat} (h : Given.closesCount s m r c cand ticks c1 n periods)
    (hstable : ((s.periodCounter + ticks : Nat) - (n * c1 : Nat) : Int).natAbs * 16 ≤ n * c1) {res : AnchorResult}
    (hres : stableResult (s.periodCounter + ticks) n = res) :
    ∃ t, exec (.finEdge ticks) s = .next t ∧ Given.nextAnchor s t m r c cand res
      ∧ t.periodCounter = s.periodCounter + ticks
      ∧ t.cal m.osc = { s.cal m.osc with unstableCount := (s.cal m.osc).unstableCount }
      ∧ ∀ o, o ≠ m.osc → t.cal o = s.cal o := by
  obtain ⟨hruns, hphase, htime, hbelow, hcloses⟩ := h
  have hexec := exec_finEdge_count ⟨hruns.1, hphase⟩ htime
  rw [State.countEdge_of_closing hbelow hcloses, closeCount_of_stable hstable, hres] at hexec
  obtain ⟨hnext, hcounter, hcal⟩ := nextAnchor_finishAnchor hruns res (s.periodCounter + ticks) s.calibration rfl
  refine ⟨_, hexec, hnext, hcounter, ?_, fun o _ => ?_⟩
  · exact congrArg (fun cal : Vector CalRecord 32 => cal[m.osc]) hcal
  · exact congrArg (fun cal : Vector CalRecord 32 => cal[o]) hcal

/-- The anchor below 7 that ends at the closing edge of its third unstable count. -/
theorem exec_unstable_close {s : State} {m : Measurement} {r : Run} {c : Current} {cand : CalCandidate}
    {ticks c1 n periods : Nat} (h : Given.closesCount s m r c cand ticks c1 n periods)
    (hunstable : ¬((s.periodCounter + ticks : Nat) - (n * c1 : Nat) : Int).natAbs * 16 ≤ n * c1) (hattempt : m.attempt = 3) :
    ∃ t, exec (.finEdge ticks) s = .next t ∧ Given.nextAnchor s t m r c cand .unstable
      ∧ t.periodCounter = s.periodCounter + ticks
      ∧ t.cal m.osc = { s.cal m.osc with unstableCount := min 65535 ((s.cal m.osc).unstableCount + 1) }
      ∧ ∀ o, o ≠ m.osc → t.cal o = s.cal o := by
  obtain ⟨hruns, hphase, htime, hbelow, hcloses⟩ := h
  have hexec := exec_finEdge_count ⟨hruns.1, hphase⟩ htime
  rw [State.countEdge_of_closing hbelow hcloses, closeCount_of_unstable hunstable,
    if_neg (by omega : ¬m.attempt < 3)] at hexec
  obtain ⟨hnext, hcounter, hcal⟩ := nextAnchor_finishAnchor hruns .unstable (s.periodCounter + ticks)
    (State.countUnstable m.osc s).calibration rfl
  refine ⟨_, hexec, hnext, hcounter, ?_, fun o ho => ?_⟩
  · refine (congrArg (fun cal : Vector CalRecord 32 => cal[m.osc]) hcal).trans ?_
    exact State.cal_setCal_self _ _ s
  · refine (congrArg (fun cal : Vector CalRecord 32 => cal[o]) hcal).trans ?_
    exact State.cal_setCal_ne ho _ s

/-- Settles O46: the edge in each phase, and the three ends of an anchor below 7. -/
theorem finEdgeDrivesMeasurement : Obligations.FinEdgeDrivesMeasurement := by
  unfold Obligations.FinEdgeDrivesMeasurement
  intro s m ticks
  refine ⟨fun h htime hseen => ?_, fun h hattempt hsoon => ?_, fun h => ?_, fun c1 n periods h => ?_,
    fun c1 n periods h => ?_, fun r c cand c1 n periods h => ?_⟩
  · rw [exec_finEdge_probeWait h, if_neg (show ¬edgeTicks < ticks from Nat.not_lt.mpr htime), if_neg (by omega)]
  · have hlate : ¬edgeTicks < ticks := by
      unfold edgeTicks
      omega
    rw [exec_finEdge_probeWait h, if_neg hlate, if_pos ⟨hattempt, hsoon⟩]
  · obtain ⟨hprobe, hcounter, hsoon, hlate⟩ := h
    obtain ⟨k, hk, hreach, hbelow, hchosen⟩ := chooseN_spec ticks
    have hticks : min counterMax (s.periodCounter + ticks) = ticks := by
      unfold counterMax
      omega
    refine ⟨k, hk, hreach, hbelow, ?_⟩
    rw [exec_finEdge_probe hprobe, if_neg (show ¬edgeTicks < ticks from Nat.not_lt.mpr hlate),
      if_neg (Nat.not_lt.mpr hsoon), hticks, hchosen]
  · obtain ⟨hcount, htime, hbelow, hopen⟩ := h
    rw [exec_finEdge_count hcount htime, State.countEdge_of_open hbelow hopen]
  · obtain ⟨hcount, htime, hbelow, hcloses, hattempt, hunstable⟩ := h
    have hexec := exec_finEdge_count hcount htime
    rw [State.countEdge_of_closing hbelow hcloses, closeCount_of_unstable (Nat.not_le.mpr hunstable),
      if_pos hattempt] at hexec
    refine ⟨_, hexec, rfl, ?_, fun o ho => ?_⟩
    · exact State.cal_setCal_self m.osc _ s
    · exact State.cal_setCal_ne ho _ s
  · intro count stable pitch ends
    refine ⟨fun hstable hlow hhigh => ?_, fun hstable hlow => ?_, fun hunstable hattempt => ?_⟩
    · exact exec_stable_close h hstable (stableResult_of_range hlow hhigh)
    · exact exec_stable_close h hstable (stableResult_of_low hlow)
    · exact exec_unstable_close h hunstable hattempt

end Sys2Proof.Machine
end

section
/-! PROOFS. The kept run of a candidate and the decision it gives (R143, R144). -/

namespace Sys2Proof.Machine

/-! ### Good spans of a list of entries (R143) -/

/-- Span (a, a + 1) of a list of entries is good. -/
def GoodSpan (es : List (Option AnchorResult)) (a : Nat) : Prop :=
  ∃ p q, es[a]? = some (some (.passed p)) ∧ es[a + 1]? = some (some (.passed q)) ∧ goodStep p q = true

theorem goodSpan_cons_succ (e : Option AnchorResult) (es : List (Option AnchorResult)) (a : Nat) :
    GoodSpan (e :: es) (a + 1) ↔ GoodSpan es a := by
  simp only [GoodSpan, List.getElem?_cons_succ]

theorem goodSpan_iff (es : Vector (Option AnchorResult) 8) (a : Nat) : Given.goodSpan es a ↔ GoodSpan es.toList a := by
  unfold Given.goodSpan GoodSpan
  simp only [Vector.getElem?_toList, goodStep, Bool.and_eq_true, decide_eq_true_eq]
  cases es[a]? with
  | none => simp
  | some x =>
    cases es[a + 1]? with
    | none => cases x with
      | none => simp
      | some x => cases x <;> simp
    | some y =>
      cases x with
      | none => simp
      | some x =>
        cases y with
        | none => cases x <;> simp
        | some y => cases x <;> cases y <;> simp

/-- The P values stand in the entries from place `a` on, and neighbours are good spans. -/
structure IsChain (es : List (Option AnchorResult)) (a : Nat) (ps : List Nat) : Prop where
  values : ∀ j p, ps[j]? = some p → es[a + j]? = some (some (.passed p))
  spans : ∀ j, j + 1 < ps.length → GoodSpan es (a + j)

theorem isChain_nil (es : List (Option AnchorResult)) (a : Nat) : IsChain es a [] := by
  constructor <;> simp

theorem IsChain.cons {es : List (Option AnchorResult)} {a : Nat} {ps : List Nat} (h : IsChain es a ps)
    (e : Option AnchorResult) : IsChain (e :: es) (a + 1) ps := by
  constructor
  · intro j p hj
    rw [show a + 1 + j = a + j + 1 from by omega, List.getElem?_cons_succ]
    exact h.values j p hj
  · intro j hj
    rw [show a + 1 + j = a + j + 1 from by omega, goodSpan_cons_succ]
    exact h.spans j hj

theorem isChain_singleton (p : Nat) (es : List (Option AnchorResult)) : IsChain (some (.passed p) :: es) 0 [p] := by
  constructor
  · rintro (_ | j) q hq <;> simp_all
  · simp

theorem passedPitch_iff {e : Option AnchorResult} {q : Nat} : passedPitch e = some q ↔ e = some (.passed q) :=
  ⟨passedPitch_eq_some, fun h => by rw [h]; rfl⟩

/-- The chain from a passed anchor is a chain of good spans, and the next span is not good. -/
theorem chainFrom_spec (p : Nat) (es : List (Option AnchorResult)) :
    IsChain (some (.passed p) :: es) 0 (chainFrom p es) ∧ 1 ≤ (chainFrom p es).length
      ∧ ¬GoodSpan (some (.passed p) :: es) ((chainFrom p es).length - 1) := by
  induction es generalizing p with
  | nil =>
    refine ⟨isChain_singleton p [], le_rfl, ?_⟩
    simp [GoodSpan, chainFrom]
  | cons e es ih =>
    by_cases h : ∃ q, passedPitch e = some q ∧ goodStep p q = true
    · obtain ⟨q, hq, hstep⟩ := h
      have hchain : chainFrom p (e :: es) = p :: chainFrom q es := by
        simp only [chainFrom, hq, hstep, if_true]
      obtain rfl := passedPitch_iff.mp hq
      obtain ⟨hvalues, hlength, hnext⟩ := ih q
      rw [hchain]
      refine ⟨⟨?_, ?_⟩, by simp, ?_⟩
      · rintro (_ | j) r hr
        · simpa using hr
        · have := hvalues.values j r (by simpa using hr)
          simpa using this
      · rintro (_ | j) hj
        · exact ⟨p, q, rfl, rfl, hstep⟩
        · rw [Nat.zero_add, goodSpan_cons_succ]
          simpa using hvalues.spans j (by simpa using hj)
      · obtain ⟨n, hn⟩ : ∃ n, (chainFrom q es).length = n + 1 := ⟨_, (Nat.succ_pred_eq_of_pos hlength).symm⟩
        rw [hn] at hnext
        rw [List.length_cons, hn, Nat.add_sub_cancel, goodSpan_cons_succ]
        exact hnext
    · have hchain : chainFrom p (e :: es) = [p] := by
        simp only [chainFrom]
        cases hq : passedPitch e with
        | none => rfl
        | some q => exact if_neg fun hstep => h ⟨q, hq, hstep⟩
      rw [hchain]
      refine ⟨isChain_singleton p _, le_rfl, ?_⟩
      rintro ⟨p', q, hp, hq, hstep⟩
      simp only [List.length_singleton, Nat.sub_self, List.getElem?_cons_zero, Option.some.injEq,
        AnchorResult.passed.injEq, Nat.zero_add, List.getElem?_cons_succ] at hp hq
      exact h ⟨q, passedPitch_iff.mpr hq, hp ▸ hstep⟩

/-- The longest chain of good spans, the lowest first anchor at a tie; anchors are counted from `a`. -/
structure IsKept (a : Nat) (es : List (Option AnchorResult)) (f : Nat) (ps : List Nat) : Prop where
  chain : ∃ i, f = a + i ∧ IsChain es i ps
  longest : ∀ g k, 1 ≤ k → (∀ j, j < k → GoodSpan es (g + j)) → k < ps.length ∧ (k + 1 = ps.length → f ≤ a + g)

theorem keptRun_cons (a : Nat) (e : Option AnchorResult) (es : List (Option AnchorResult)) :
    keptRun a (e :: es) =
      if (keptRun (a + 1) es).2.length ≤ (((passedPitch e).map fun p => chainFrom p es).getD []).length then
        (a, ((passedPitch e).map fun p => chainFrom p es).getD [])
      else keptRun (a + 1) es := by
  rw [keptRun]
  cases passedPitch e <;> rfl

/-- The chain that starts at the first entry, and what it bounds. -/
theorem chainHere_spec (e : Option AnchorResult) (es : List (Option AnchorResult)) :
    IsChain (e :: es) 0 (((passedPitch e).map fun p => chainFrom p es).getD [])
      ∧ ∀ k, 1 ≤ k → (∀ j, j < k → GoodSpan (e :: es) j) →
        k < (((passedPitch e).map fun p => chainFrom p es).getD []).length := by
  cases hp : passedPitch e with
  | none =>
    refine ⟨isChain_nil _ _, fun k hk hspans => ?_⟩
    obtain ⟨p, q, he, -, -⟩ := hspans 0 (by omega)
    simp only [List.getElem?_cons_zero, Option.some.injEq] at he
    rw [he] at hp
    cases hp
  | some p =>
    obtain rfl := passedPitch_iff.mp hp
    obtain ⟨hchain, hlength, hnext⟩ := chainFrom_spec p es
    refine ⟨hchain, fun k hk hspans => ?_⟩
    by_contra hlong
    simp only [Option.map_some, Option.getD_some] at hlong
    exact hnext (hspans _ (by omega))

theorem isKept_keptRun (a : Nat) (es : List (Option AnchorResult)) :
    IsKept a es (keptRun a es).1 (keptRun a es).2 := by
  induction es generalizing a with
  | nil =>
    refine ⟨⟨0, rfl, isChain_nil _ _⟩, fun g k hk hspans => ?_⟩
    obtain ⟨p, q, hp, -, -⟩ := hspans 0 (by omega)
    simp at hp
  | cons e es ih =>
    obtain ⟨⟨i, hfirst, hlater⟩, hlongest⟩ := ih (a + 1)
    obtain ⟨hhere, hbound⟩ := chainHere_spec e es
    rw [keptRun_cons]
    generalize ((passedPitch e).map fun p => chainFrom p es).getD [] = here at *
    have hspans {g k : Nat} (h : ∀ j, j < k → GoodSpan (e :: es) (g + 1 + j)) : ∀ j, j < k → GoodSpan es (g + j) :=
      fun j hj => (goodSpan_cons_succ e es (g + j)).mp (by rw [show g + j + 1 = g + 1 + j from by omega]; exact h j hj)
    split
    · next hle =>
      refine ⟨⟨0, rfl, hhere⟩, fun g k hk h => ?_⟩
      cases g with
      | zero => exact ⟨hbound k hk fun j hj => by simpa using h j hj, fun _ => le_rfl⟩
      | succ g =>
        obtain ⟨hshort, -⟩ := hlongest g k hk (hspans h)
        exact ⟨show k < here.length by omega, fun _ => Nat.le_add_right a _⟩
    · next hlt =>
      refine ⟨⟨i + 1, by omega, hlater.cons e⟩, fun g k hk h => ?_⟩
      cases g with
      | zero =>
        have hshort := hbound k hk fun j hj => by simpa using h j hj
        exact ⟨by omega, fun heq => by omega⟩
      | succ g =>
        obtain ⟨hshort, hlow⟩ := hlongest g k hk (hspans h)
        exact ⟨hshort, fun heq => by have := hlow heq; omega⟩

/-! ### The decision (R144) -/

theorem chain_iff (es : Vector (Option AnchorResult) 8) (f n : Nat) :
    Given.chain es f n ↔ ∀ j, j < n → GoodSpan es.toList (f + j) := by
  simp only [Given.chain, goodSpan_iff]

theorem decision_of_kept {es : Vector (Option AnchorResult) 8} {f : Nat} {ps : List Nat} (h : IsKept 0 es.toList f ps)
    (hlength : 4 ≤ ps.length) (old : CalMap) : Given.decision es old .pass (.calibrated f ps) := by
  obtain ⟨⟨i, hi, hchain⟩, hlongest⟩ := h
  obtain rfl : f = i := by omega
  have hend : f + (ps.length - 1) < 8 := by
    have hlast : ps[ps.length - 1]? = some ps[ps.length - 1] := List.getElem?_eq_getElem (by omega)
    have := List.getElem?_eq_some_iff.mp (hchain.values _ _ hlast)
    simpa using this.1
  refine .inl ⟨f, by omega, ps.length - 1, by omega, by omega, ⟨by omega, by omega, ?_, fun g k hk hspans => ?_⟩, rfl, ?_⟩
  · exact (chain_iff es f _).mpr fun j hj => hchain.spans j (by omega)
  · by_cases hzero : k = 0
    · exact ⟨by omega, fun _ h => by omega⟩
    · obtain ⟨hshort, hlow⟩ := hlongest g k (by omega) ((chain_iff es g k).mp hspans)
      exact ⟨by omega, fun heq _ => by have := hlow (by omega); omega⟩
  · refine congrArg (CalMap.calibrated f) (List.ext_getElem (by simp; omega) fun j hj hj' => ?_)
    have hvalue := hchain.values j ps[j] (List.getElem?_eq_getElem hj)
    rw [Vector.getElem?_toList] at hvalue
    simp [hvalue]

theorem decision_of_short {es : Vector (Option AnchorResult) 8} {f : Nat} {ps : List Nat} (h : IsKept 0 es.toList f ps)
    (hlength : ¬4 ≤ ps.length) (old : CalMap) : Given.decision es old (failResult es.toList) old := by
  refine .inr ⟨fun g hg hspans => ?_, rfl, rfl⟩
  obtain ⟨hshort, -⟩ := h.longest g 3 (by omega) ((chain_iff es g 3).mp hspans)
  omega

theorem decision_decideCandidate (es : Vector (Option AnchorResult) 8) (old : CalMap) :
    Given.decision es old (decideCandidate es.toList).1 ((decideCandidate es.toList).2.getD old) := by
  have hkept := isKept_keptRun 0 es.toList
  unfold decideCandidate
  by_cases hlength : 4 ≤ (keptRun 0 es.toList).2.length
  · simp only [if_pos hlength]
    exact decision_of_kept hkept hlength old
  · simp only [if_neg hlength]
    exact decision_of_short hkept hlength old

end Sys2Proof.Machine
end

section
/-! PROOFS. The last anchor of an oscillator: how it ends, its decision, and the opening of OSC-B (R142 to R144). -/

namespace Sys2Proof.Machine

/-! ### How the last anchor ends (R127, R129, R131) -/

/-- The unstable count of an oscillator after an anchor of it ended with a result. -/
def endedCount (res : AnchorResult) (n : Nat) : Nat := if res = .unstable then min 65535 (n + 1) else n

/-- The calibration records after an anchor of oscillator `o` ended with a result. -/
def CalEnded (s : State) (o : OscId) (res : AnchorResult) (cal : Vector CalRecord 32) : Prop :=
  cal[o] = { s.cal o with unstableCount := endedCount res (s.cal o).unstableCount } ∧ ∀ q : OscId, q ≠ o → cal[q] = s.cal q

theorem calEnded_same {s : State} {o : OscId} {res : AnchorResult} (h : res ≠ .unstable) :
    CalEnded s o res s.calibration := by
  refine ⟨?_, fun q _ => rfl⟩
  rw [endedCount, if_neg h]
  rfl

theorem calEnded_countUnstable (s : State) (o : OscId) : CalEnded s o .unstable (s.countUnstable o).calibration :=
  ⟨State.cal_setCal_self o _ s, fun _ hq => State.cal_setCal_ne hq _ s⟩

theorem stableResult_ne_unstable (c n : Nat) : stableResult c n ≠ .unstable := by
  unfold stableResult
  split <;> simp

/-- The command that ends an anchor writes the period counter and the unstable count, and finishes the anchor. -/
theorem exec_of_lastAnchor {s : State} {m : Measurement} {res : AnchorResult} {cmd : Instr}
    (hmeasurement : s.measurement = some m) (h : Given.lastAnchor s m res cmd) :
    ∃ x cal, exec cmd s = .next (State.finishAnchor m res { s with periodCounter := x, calibration := cal })
      ∧ CalEnded s m.osc res cal := by
  cases cmd with
  | edgeTimerExpiry =>
    obtain ⟨hphase, rfl⟩ := h
    rw [exec_edgeTimerExpiry hmeasurement]
    unfold State.edgeExpiry
    have hdead : CalEnded s m.osc .dead s.calibration := calEnded_same (by decide)
    cases hm : m.phase with
    | settle => exact absurd hm hphase
    | probeWait => exact ⟨s.periodCounter, s.calibration, rfl, hdead⟩
    | probe => exact ⟨_, s.calibration, rfl, hdead⟩
    | count c1 n periods => exact ⟨_, s.calibration, rfl, hdead⟩
  | finEdge ticks =>
    unfold Given.lastAnchor at h
    cases hm : m.phase with
    | count c1 n periods =>
      simp only [hm] at h
      obtain ⟨htime, hbelow, hcloses, hresult⟩ := h
      rw [exec_finEdge_count ⟨hmeasurement, hm⟩ htime, State.countEdge_of_closing hbelow hcloses]
      by_cases hstable : ((s.periodCounter + ticks : Nat) - (n * c1 : Nat) : Int).natAbs * 16 ≤ n * c1
      · rw [if_pos hstable] at hresult
        have hres : stableResult (s.periodCounter + ticks) n = res := hresult.symm
        rw [closeCount_of_stable hstable, hres]
        exact ⟨_, s.calibration, rfl, calEnded_same (hres ▸ stableResult_ne_unstable _ _)⟩
      · rw [if_neg hstable] at hresult
        obtain ⟨hattempt, rfl⟩ := hresult
        rw [closeCount_of_unstable hstable, if_neg (by omega : ¬m.attempt < 3)]
        exact ⟨_, _, rfl, calEnded_countUnstable s m.osc⟩
    | settle => simp [hm] at h
    | probeWait => simp [hm] at h
    | probe => simp [hm] at h
  | _ => exact absurd h (by simp [Given.lastAnchor])

/-! ### The decision reaches the run (R142, R144) -/

/-- The state after an oscillator was decided, the period counter and the calibration records having been written by
the end of its last anchor. -/
def State.oscDecided (s : State) (o : OscId) (x : Nat) (cal : Vector CalRecord 32) (r : Run) (d : CalResult × Option CalMap) :
    State :=
  { s with
    periodCounter := x, measurement := none, candidate := none, run := some (Given.counted r d.1)
    calibration := cal.set o { cal[o] with
      map := d.2.getD cal[o].map, lastResult := d.1, tuneCount := incSat16 cal[o].tuneCount } }

theorem oscDecided_of_decide {s : State} {r : Run} (hrun : s.run = some r) (cand : CalCandidate) (x : Nat)
    (cal : Vector CalRecord 32) :
    State.decideOscillator cand { s with
        periodCounter := x, calibration := cal, measurement := none, candidate := some cand } =
      (s.oscDecided cand.osc x cal r (decideCandidate cand.entries.toList), (decideCandidate cand.entries.toList).1) := by
  simp only [State.decideOscillator, State.oscDecided, State.withRun, State.setCal, State.cal, hrun, Option.map_some]
  rfl

/-- The completion of anchor 7: after OSC-A, OSC-B is opened, and after OSC-B the voice is done. -/
theorem finishAnchor_of_last {s : State} {m : Measurement} {r : Run} {c : Current} {cand : CalCandidate}
    (hrun : s.run = some r) (hcurrent : r.current = some c) (hcand : s.candidate = some cand) (hanchor : m.anchor = 7)
    (hlast : c.anchor.val = 7) (res : AnchorResult) (x : Nat) (cal : Vector CalRecord 32) {d : CalResult × Option CalMap}
    (hd : d = decideCandidate (cand.entries.set 7 (some res)).toList) :
    State.finishAnchor m res { s with periodCounter := x, calibration := cal } =
      if c.second then (s.oscDecided cand.osc x cal r d).voiceDone c.voice (c.aResult.getD .none) d.1
      else State.openOscillator c.voice true { s.oscDecided cand.osc x cal r d with
        run := some { Given.counted r d.1 with
          current := some { c with second := true, anchor := 0, aResult := some d.1 } } } := by
  have hseven : ¬c.anchor.val < 7 := by omega
  have hset : cand.entries.set m.anchor (some res) = cand.entries.set 7 (some res) := by
    simp only [hanchor]
    rfl
  have hdecide := oscDecided_of_decide hrun { cand with entries := cand.entries.set m.anchor (some res) } x cal
  simp only [hset, ← hd, hrun] at hdecide
  simp only [State.finishAnchor, State.anchorCompleted, hrun, hcurrent, hcand, Option.map_some, dif_neg hseven, hset,
    hdecide]
  rfl

/-! ### What the tune engine does to a voice keeps the calibration records -/

theorem calibration_openOscillator (v : VoiceId) (b : Bool) (s : State) :
    (s.openOscillator v b).calibration = s.calibration := rfl

theorem calibration_takeNext (s : State) : s.takeNext.calibration = s.calibration := by
  unfold State.takeNext
  split
  · split
    · split
      · exact calibration_openOscillator _ _ _
      · rfl
    · rfl
  · rfl

theorem calibration_claimVoice (v : VoiceId) (s : State) : (s.claimVoice v).calibration = s.calibration := by
  unfold State.claimVoice
  split <;> rfl

theorem calibration_post (k : NoticeKind) (a b c : Nat) (s : State) : (s.post k a b c).calibration = s.calibration := by
  unfold State.post
  exact State.postWhere_calibration _ _ _ _ _ s

theorem calibration_endRun (r : Run) (s : State) : (s.endRun r).calibration = s.calibration := by
  unfold State.endRun State.postRunDone State.postAlso
  exact State.postWhere_calibration _ _ _ _ _ s

theorem calibration_runContinue (s : State) : s.runContinue.calibration = s.calibration := by
  unfold State.runContinue
  split
  · split
    · exact calibration_endRun _ s
    · split
      · exact (calibration_takeNext _).trans (calibration_claimVoice _ s)
      · exact calibration_takeNext s
    · rfl
  · rfl

theorem calibration_offer (v : VoiceId) (s : State) : (s.offer v).calibration = s.calibration := by
  unfold State.offer
  split
  · split <;> rfl
  · rfl

theorem calibration_handBack (v : VoiceId) (fault : Bool) (s : State) : (s.handBack v fault).calibration = s.calibration := by
  unfold State.handBack
  cases fault <;> rfl

theorem calibration_voiceDone (v : VoiceId) (a b : CalResult) (s : State) :
    (s.voiceDone v a b).calibration = s.calibration := by
  unfold State.voiceDone
  refine (calibration_runContinue _).trans ?_
  generalize (a == .noSignal || b == .noSignal) = fault
  cases fault
  · refine (calibration_offer v _).trans ((calibration_post _ _ _ _ _).trans ?_)
    exact calibration_handBack v false s
  · refine (calibration_post _ _ _ _ _).trans ((calibration_post _ _ _ _ _).trans ?_)
    exact calibration_handBack v true s

/-! ### O48 -/

/-- The calibration records after a decision (R144). -/
theorem decided_records {s : State} {o : OscId} {res : AnchorResult} {cal : Vector CalRecord 32} (hcal : CalEnded s o res cal)
    (x : Nat) (r : Run) (es : Vector (Option AnchorResult) 8) {t : State}
    (ht : t.calibration = (s.oscDecided o x cal r (decideCandidate es.toList)).calibration) :
    (t.cal o).lastResult = (decideCandidate es.toList).1
      ∧ Given.decision es (s.cal o).map (t.cal o).lastResult (t.cal o).map
      ∧ (t.cal o).unstableCount = endedCount res (s.cal o).unstableCount
      ∧ (t.cal o).tuneCount = min 65535 ((s.cal o).tuneCount + 1)
      ∧ ∀ q, q ≠ o → t.cal q = s.cal q := by
  obtain ⟨hself, hother⟩ := hcal
  have hown : t.cal o = { cal[o] with
      map := (decideCandidate es.toList).2.getD cal[o].map, lastResult := (decideCandidate es.toList).1
      tuneCount := incSat16 cal[o].tuneCount } := by
    rw [State.cal, ht, State.oscDecided]
    simp
  rw [hself] at hown
  refine ⟨by rw [hown], ?_, by rw [hown], by rw [hown]; rfl, fun q hq => ?_⟩
  · rw [hown]
    exact decision_decideCandidate es _
  · have hval : o.val ≠ q.val := fun e => hq (Fin.ext e.symm)
    rw [← hother q hq, State.cal, ht, State.oscDecided]
    simp [hval]

/-- Settles O48. -/
theorem lastAnchorDecidesOscillator : Obligations.LastAnchorDecidesOscillator := by
  unfold Obligations.LastAnchorDecidesOscillator
  rintro s m r c cand res cmd ⟨hmeasurement, hrun, hcurrent, hcand, hanchor, hlast, hosc, hmosc, hcmd⟩ o
  obtain ⟨x, cal, hexec, hcal⟩ := exec_of_lastAnchor hmeasurement hcmd
  rw [finishAnchor_of_last hrun hcurrent hcand hanchor hlast res x cal rfl] at hexec
  rw [hmosc, hosc] at hcal
  rw [hosc] at hexec
  generalize hd : decideCandidate (cand.entries.set 7 (some res)).toList = d at hexec
  cases hsecond : c.second with
  | true =>
    rw [if_pos hsecond] at hexec
    have hkeeps := calibration_voiceDone c.voice (c.aResult.getD .none) d.1
      (s.oscDecided (oscOf c.voice c.second) x cal r d)
    generalize State.voiceDone c.voice (c.aResult.getD .none) d.1 _ = t at *
    rw [← hd] at hkeeps
    obtain ⟨-, hdecision, hunstable, htune, hrest⟩ := decided_records hcal x r (cand.entries.set 7 (some res)) hkeeps
    exact ⟨_, hexec, hdecision, hunstable, htune, hrest, fun h => absurd h (by decide)⟩
  | false =>
    rw [if_neg (by rw [hsecond]; decide)] at hexec
    obtain ⟨t, ht⟩ : ∃ t, t = State.openOscillator c.voice true { s.oscDecided (oscOf c.voice c.second) x cal r d with
        run := some { Given.counted r d.1 with
          current := some { c with second := true, anchor := 0, aResult := some d.1 } } } := ⟨_, rfl⟩
    have hkeeps : t.calibration = (s.oscDecided (oscOf c.voice c.second) x cal r d).calibration := by rw [ht]; rfl
    rw [← ht] at hexec
    rw [← hd] at hkeeps
    obtain ⟨hresult, hdecision, hunstable, htune, hrest⟩ :=
      decided_records hcal x r (cand.entries.set 7 (some res)) hkeeps
    rw [hd] at hresult
    refine ⟨t, hexec, hdecision, hunstable, htune, hrest, fun _ => ⟨?_, ?_, ?_, ?_, ?_, fun v hv => ?_⟩⟩
    · rw [ht]
      rfl
    · rw [hresult, ht]
      rfl
    · rw [ht]
      rfl
    · rw [ht]
      rfl
    · rw [ht, State.openOscillator, State.startAnchor, State.setPhase, State.voice_setVoice_self]
      rfl
    · rw [ht, State.openOscillator, State.startAnchor, State.setPhase, State.voice_setVoice_ne hv]
      rfl

end Sys2Proof.Machine
end

section
/-! PROOFS. The end of a voice's measurement: its hand-back, the notices, and how the run goes on (R145, R146). -/

namespace Sys2Proof.Machine

/-! ### Frames of the tune engine -/

/-- The voices, the glides, the tune engine's records and the links alone differ. -/
def SameButTune (s t : State) : Prop :=
  t = { s with
    voices := t.voices, measurement := t.measurement, periodCounter := t.periodCounter, fsel := t.fsel
    run := t.run, candidate := t.candidate, calibration := t.calibration, glides := t.glides
    linkA := t.linkA, linkB := t.linkB }

theorem SameButTune.trans {s t u : State} (h : SameButTune s t) (k : SameButTune t u) : SameButTune s u := by
  unfold SameButTune at *
  exact k.trans (by rw [h])

theorem SameButLinks.tune {s t : State} (h : SameButLinks s t) : SameButTune s t := by
  unfold SameButLinks at h
  unfold SameButTune
  exact h.trans (by rw [h])

theorem SameButTune.timestamp {s t : State} (h : SameButTune s t) : t.timestamp = s.timestamp := by
  unfold SameButTune at h
  rw [h]

theorem SameButTune.deferred {s t : State} (h : SameButTune s t) : t.deferred = s.deferred := by
  unfold SameButTune at h
  rw [h]

/-! ### A voice is handed back (R29) -/

theorem State.voice_handBack_self (v : VoiceId) (fault : Bool) (s : State) :
    (s.handBack v fault).voice v = Given.handedBack s v fault := by
  cases fault
  · show State.voice ((s.setClaim v false).goIdle v) v = _
    rw [State.goIdle, State.stopGlide, State.setGlide_voice, State.voice_setVoice_self, State.setClaim,
      State.voice_setVoice_self]
    rfl
  · show State.voice ((s.setClaim v false).setPhase v (.offline .fault)) v = _
    rw [State.setPhase, State.voice_setVoice_self, State.setClaim, State.voice_setVoice_self]
    rfl

theorem State.voice_handBack_ne {v w : VoiceId} (hw : w ≠ v) (fault : Bool) (s : State) :
    (s.handBack v fault).voice w = s.voice w := by
  cases fault
  · show State.voice ((s.setClaim v false).goIdle v) w = _
    rw [State.goIdle, State.stopGlide, State.setGlide_voice, State.voice_setVoice_ne hw, State.setClaim,
      State.voice_setVoice_ne hw]
  · show State.voice ((s.setClaim v false).setPhase v (.offline .fault)) w = _
    rw [State.setPhase, State.voice_setVoice_ne hw, State.setClaim, State.voice_setVoice_ne hw]

theorem State.glide_handBack_ne {v w : VoiceId} (hw : w ≠ v) (fault : Bool) (s : State) :
    (s.handBack v fault).glide w = s.glide w := by
  cases fault
  · show State.glide ((s.setClaim v false).goIdle v) w = _
    rw [State.goIdle, State.stopGlide, State.glide_setGlide_ne hw]
    rfl
  · rfl

/-- The voices and the glides alone differ. -/
def SameButHand (s t : State) : Prop := t = { s with voices := t.voices, glides := t.glides }

theorem sameButHand_handBack (v : VoiceId) (fault : Bool) (s : State) : SameButHand s (s.handBack v fault) := by
  cases fault <;> rfl

theorem SameButHand.tune {s t : State} (h : SameButHand s t) : SameButTune s t := by
  unfold SameButHand at h
  unfold SameButTune
  exact h.trans (by rw [h])

theorem SameButHand.link {s t : State} (h : SameButHand s t) (m : Link) : t.link m = s.link m := by
  unfold SameButHand at h
  rw [h]
  cases m <;> rfl

theorem SameButHand.cal {s t : State} (h : SameButHand s t) (o : OscId) : t.cal o = s.cal o := by
  unfold SameButHand at h
  rw [h]
  rfl

theorem SameButHand.run {s t : State} (h : SameButHand s t) : t.run = s.run := by
  unfold SameButHand at h
  rw [h]

theorem SameButHand.timestamp {s t : State} (h : SameButHand s t) : t.timestamp = s.timestamp := by
  unfold SameButHand at h
  rw [h]

/-! ### The notices of a voice's end (R156) -/

theorem tuneValue_eq (s : State) (o : OscId) (result : CalResult) : s.tuneValue o result =
    256 * result.code + (s.cal o).map.kept := rfl

theorem Given.voiceDone_eq (t : State) (v : VoiceId) (a b : CalResult) (stamp : Stamp) : Given.voiceDone t v a b stamp =
    { kind := .tuneVoiceDone, subject := v, value1 := t.tuneValue (oscOf v false) a
      value2 := t.tuneValue (oscOf v true) b, stamp } := by
  cases ha : (t.cal (oscOf v false)).map <;> cases hb : (t.cal (oscOf v true)).map <;>
    simp [Given.voiceDone, tuneValue_eq, CalMap.kept, ha, hb]

/-- Links that hear VOICE_OFFLINE, when there is one, and TUNE_VOICE_DONE. -/
def State.postEnd (v : VoiceId) (fault na nb : Bool) (a b : CalResult) (s : State) : State :=
  State.postVoiceDone v a b (if fault then s.postVoiceOffline v na nb else s)

theorem State.link_post_told (kind : NoticeKind) (a b c : Nat) (s : State) (m : Link) :
    (s.post kind a b c).link m = (s.link m).told ((s.link m).queue.mask.getLsbD kind.group.bit)
      { kind, subject := a, value1 := b, value2 := c, stamp := s.timestamp } :=
  State.link_postWhere _ _ _ _ _ m s

theorem sameButLinks_postEnd (v : VoiceId) (fault na nb : Bool) (a b : CalResult) (s : State) :
    SameButLinks s (s.postEnd v fault na nb a b) := by
  cases fault
  · exact sameButLinks_post _ _ _ _ s
  · exact (sameButLinks_post _ _ _ _ s).trans (sameButLinks_post _ _ _ _ _)

theorem SameButLinks.cal {s t : State} (h : SameButLinks s t) (o : OscId) : t.cal o = s.cal o := by
  unfold SameButLinks at h
  rw [h]
  rfl

theorem SameButLinks.timestamp {s t : State} (h : SameButLinks s t) : t.timestamp = s.timestamp := by
  unfold SameButLinks at h
  rw [h]

theorem mask_told (yes : Bool) (n : Notice) (u : LinkUnit) : (u.told yes n).queue.mask = u.queue.mask := by
  have hpost : (u.queue.post n).mask = u.queue.mask := by
    unfold NoticeQueue.post
    split <;> rfl
  rw [LinkUnit.told_eq]
  cases yes
  · rfl
  · exact hpost

theorem State.link_postEnd (v : VoiceId) (fault na nb : Bool) (a b : CalResult) (s : State) (m : Link) :
    (s.postEnd v fault na nb a b).link m =
      LinkUnit.told (true && (s.link m).queue.mask.getLsbD 3) (Given.voiceDone s v a b s.timestamp)
        ((s.link m).told (fault && (s.link m).queue.mask.getLsbD 3) (Given.voiceFault v na nb s.timestamp)) := by
  have hfirst := sameButLinks_post .voiceOffline v OfflineReason.fault.code (bit na + 2 * bit nb) s
  rw [Given.voiceDone_eq]
  cases fault
  · exact State.link_post_told _ _ _ _ s m
  · refine (State.link_post_told _ _ _ _ _ m).trans ?_
    simp only [if_true, State.postVoiceOffline, tuneValue_eq, hfirst.cal, hfirst.timestamp, State.link_post_told]
    rw [mask_told]
    rfl

/-! ### The run goes on (R141, R145, R146) -/

section
variable {s : State} {r : Run} (hrun : s.run = some r) (hcurrent : r.current = none)
include hrun hcurrent

theorem runContinue_of_empty (hqueue : r.queue = []) : s.runContinue = { s.postRunDone r false with run := none } := by
  simp only [State.runContinue, hrun, hcurrent, hqueue, State.endRun]

theorem takeNext_of_tuning {h : VoiceId} {rest : List VoiceId} (hqueue : r.queue = h :: rest)
    (htuning : (s.voice h).phase.isTuning = true) : s.takeNext =
      State.openOscillator h false { s with run := some { r with
        queue := rest, current := some { voice := h, second := false, anchor := 0, aResult := none } } } := by
  simp only [State.takeNext, hrun, hcurrent, hqueue, htuning, if_true]

theorem takeNext_of_not_tuning {h : VoiceId} {rest : List VoiceId} (hqueue : r.queue = h :: rest)
    (htuning : (s.voice h).phase.isTuning = false) : s.takeNext = s := by
  simp only [State.takeNext, hrun, hcurrent, hqueue, htuning, Bool.false_eq_true, if_false]

theorem runContinue_of_foreground {h : VoiceId} {rest : List VoiceId} (hqueue : r.queue = h :: rest)
    (hmode : r.mode = .foreground) : s.runContinue = s.takeNext := by
  simp only [State.runContinue, hrun, hcurrent, hqueue, hmode]

theorem runContinue_of_background {h : VoiceId} {rest : List VoiceId} (hqueue : r.queue = h :: rest)
    (hmode : r.mode = .background) : s.runContinue = (s.claimVoice h).takeNext := by
  simp only [State.runContinue, hrun, hcurrent, hqueue, hmode]

end

theorem claimVoice_of_idle {s : State} {v : VoiceId} (h : (s.voice v).phase = .idle) :
    s.claimVoice v = (s.setClaim v true).enterTuning v false := by
  simp only [State.claimVoice, h]

theorem claimVoice_of_sounding {s : State} {v : VoiceId}
    (h : (s.voice v).phase.isGated = true ∨ (s.voice v).phase.isReleased = true) : s.claimVoice v = s.setClaim v true := by
  unfold State.claimVoice
  cases hphase : (s.voice v).phase <;> simp_all [VoicePhase.isGated, VoicePhase.isReleased]

/-! ### The voice's end (R145) -/

/-- The run once its current voice is done. -/
def Run.without (r : Run) (v : VoiceId) : Run := { r with current := none, marks := r.marks.filter fun x => x.1 != v }

/-- What stands before the run goes on: the voice is handed back and the notices are posted. -/
def State.afterVoice (s : State) (v : VoiceId) (fault na nb : Bool) (a b : CalResult) (r : Run) : State :=
  { (s.handBack v fault).postEnd v fault na nb a b with run := some (r.without v) }

theorem offer_of_empty {s : State} (h : s.deferred = []) (v : VoiceId) : s.offer v = s := by
  unfold State.offer
  rw [h]
  exact ite_self _

theorem voiceDone_of_run {s : State} {r : Run} (hrun : s.run = some r) (hdeferred : s.deferred = []) (v : VoiceId)
    (a b : CalResult) : s.voiceDone v a b =
      (s.afterVoice v (a == .noSignal || b == .noSignal) (a == .noSignal) (b == .noSignal) a b r).runContinue := by
  generalize hfault : (a == .noSignal || b == .noSignal) = fault
  have hhand := sameButHand_handBack v fault s
  have hposts := sameButLinks_postEnd v fault (a == .noSignal) (b == .noSignal) a b (s.handBack v fault)
  have hframe := hhand.tune.trans hposts.tune
  unfold State.voiceDone
  simp only [hfault]
  refine congrArg State.runContinue ?_
  have hoffer : (if fault = true then (s.handBack v fault).postEnd v fault (a == .noSignal) (b == .noSignal) a b
      else ((s.handBack v fault).postEnd v fault (a == .noSignal) (b == .noSignal) a b).offer v) =
      (s.handBack v fault).postEnd v fault (a == .noSignal) (b == .noSignal) a b := by
    rw [offer_of_empty (hframe.deferred.trans hdeferred)]
    exact ite_self _
  refine Eq.trans (congrArg (fun u : State => (u.withRun fun r => { r with current := none }).unmark v) hoffer) ?_
  have hrun' : ((s.handBack v fault).postEnd v fault (a == .noSignal) (b == .noSignal) a b).run = some r := by
    unfold SameButLinks at hposts
    rw [hposts]
    exact hhand.run.trans hrun
  simp only [State.afterVoice, State.unmark, State.withRun, hrun', Option.map_some]
  rfl

section
variable (s : State) (v : VoiceId) (fault na nb : Bool) (a b : CalResult) (r : Run)

theorem sameButTune_afterVoice : SameButTune s (s.afterVoice v fault na nb a b r) := by
  have hframe := (sameButHand_handBack v fault s).tune.trans
    (sameButLinks_postEnd v fault na nb a b (s.handBack v fault)).tune
  exact hframe.trans rfl

theorem voice_afterVoice (w : VoiceId) : (s.afterVoice v fault na nb a b r).voice w =
    if w = v then Given.handedBack s v fault else s.voice w := by
  have hposts := sameButLinks_postEnd v fault na nb a b (s.handBack v fault)
  have hvoice : (s.afterVoice v fault na nb a b r).voice w = (s.handBack v fault).voice w := by
    unfold SameButLinks at hposts
    rw [State.afterVoice, hposts]
    rfl
  rw [hvoice]
  split
  · next hw => rw [hw, State.voice_handBack_self]
  · next hw => rw [State.voice_handBack_ne hw]

theorem glide_afterVoice {w : VoiceId} (hw : w ≠ v) : (s.afterVoice v fault na nb a b r).glide w = s.glide w := by
  have hposts := sameButLinks_postEnd v fault na nb a b (s.handBack v fault)
  have hglide : (s.afterVoice v fault na nb a b r).glide w = (s.handBack v fault).glide w := by
    unfold SameButLinks at hposts
    rw [State.afterVoice, hposts]
    rfl
  rw [hglide, State.glide_handBack_ne hw]

theorem link_afterVoice (m : Link) : (s.afterVoice v fault na nb a b r).link m =
    LinkUnit.told (true && (s.link m).queue.mask.getLsbD 3) (Given.voiceDone s v a b s.timestamp)
      ((s.link m).told (fault && (s.link m).queue.mask.getLsbD 3) (Given.voiceFault v na nb s.timestamp)) := by
  have hhand := sameButHand_handBack v fault s
  have hlink : (s.afterVoice v fault na nb a b r).link m = ((s.handBack v fault).postEnd v fault na nb a b).link m := by
    rw [State.afterVoice]
    cases m <;> rfl
  rw [hlink, State.link_postEnd, hhand.link, hhand.timestamp, Given.voiceDone_eq, Given.voiceDone_eq]
  simp only [tuneValue_eq, hhand.cal]

theorem records_afterVoice : (s.afterVoice v fault na nb a b r).measurement = s.measurement
    ∧ (s.afterVoice v fault na nb a b r).candidate = s.candidate ∧ (s.afterVoice v fault na nb a b r).fsel = s.fsel
    ∧ (s.afterVoice v fault na nb a b r).calibration = s.calibration := by
  have hhand := sameButHand_handBack v fault s
  have hposts := sameButLinks_postEnd v fault na nb a b (s.handBack v fault)
  unfold SameButLinks at hposts
  unfold SameButHand at hhand
  rw [State.afterVoice, hposts, hhand]
  exact ⟨rfl, rfl, rfl, rfl⟩

end

end Sys2Proof.Machine
end

section
/-! PROOFS. OSC-B is decided: the voice goes back and the run goes on (R145). -/

namespace Sys2Proof.Machine

/-! ### Frames of the run's continuation -/

theorem sameButTune_takeNext (s : State) : SameButTune s s.takeNext := by
  unfold State.takeNext
  split
  · split
    · split <;> rfl
    · rfl
  · rfl

theorem sameButTune_claimVoice (v : VoiceId) (s : State) : SameButTune s (s.claimVoice v) := by
  unfold State.claimVoice
  split <;> rfl

theorem sameButTune_runContinue (s : State) : SameButTune s s.runContinue := by
  unfold State.runContinue
  split
  · split
    · exact (sameButLinks_postAlso _ _ _ _ _ s).tune.trans rfl
    · split
      · exact (sameButTune_claimVoice _ s).trans (sameButTune_takeNext _)
      · exact sameButTune_takeNext s
    · rfl
  · rfl

theorem counted_fields (r : Run) (result : CalResult) : (Given.counted r result).queue = r.queue
    ∧ (Given.counted r result).mode = r.mode ∧ (Given.counted r result).marks = r.marks
    ∧ (Given.counted r result).requester = r.requester := by
  unfold Given.counted
  split <;> exact ⟨rfl, rfl, rfl, rfl⟩

theorem voice_setClaim_self (v : VoiceId) (c : Bool) (s : State) :
    (s.setClaim v c).voice v = { s.voice v with claim := c } := by
  rw [State.setClaim, State.voice_setVoice_self]

theorem voice_setClaim_ne {v w : VoiceId} (hw : w ≠ v) (c : Bool) (s : State) : (s.setClaim v c).voice w = s.voice w := by
  rw [State.setClaim, State.voice_setVoice_ne hw]

theorem voice_enterTuning_self (v : VoiceId) (b : Bool) (s : State) :
    (s.enterTuning v b).voice v = { s.voice v with phase := .tuning 2048 } := by
  rw [State.enterTuning]
  exact (State.voice_setVoice_self v _ s)

theorem voice_enterTuning_ne {v w : VoiceId} (hw : w ≠ v) (b : Bool) (s : State) :
    (s.enterTuning v b).voice w = s.voice w := by
  rw [State.enterTuning]
  exact State.voice_setVoice_ne hw _ s

theorem position_enterTuning (v w : VoiceId) (b : Bool) (s : State) :
    ((s.enterTuning v b).glide w).position = (s.glide w).position := by
  show (State.glide ((s.setPhase v (.tuning (anchorCode 0))).stopGlide v) w).position = _
  by_cases hw : w = v
  · subst hw
    rw [State.stopGlide, State.glide_setGlide_self]
    rfl
  · rw [State.stopGlide, State.glide_setGlide_ne hw]
    rfl

theorem voice_openOscillator_self (v : VoiceId) (b : Bool) (s : State) :
    (s.openOscillator v b).voice v = { s.voice v with phase := .tuning 2048 } := by
  rw [State.openOscillator, State.startAnchor, State.setPhase, State.voice_setVoice_self]
  rfl

theorem voice_openOscillator_ne {v w : VoiceId} (hw : w ≠ v) (b : Bool) (s : State) :
    (s.openOscillator v b).voice w = s.voice w := by
  rw [State.openOscillator, State.startAnchor, State.setPhase, State.voice_setVoice_ne hw]
  rfl

theorem State.link_openOscillator (v : VoiceId) (b : Bool) (s : State) (m : Link) :
    (s.openOscillator v b).link m = s.link m := by cases m <;> rfl

theorem State.link_enterTuning (v : VoiceId) (b : Bool) (s : State) (m : Link) :
    (s.enterTuning v b).link m = s.link m := by cases m <;> rfl

/-! ### The three ways on (R145) -/

section
variable {e : State} {r : Run} (hrun : e.run = some r) (hcurrent : r.current = none)
include hrun hcurrent

/-- The run that takes the head of its queue. -/
theorem runContinue_measures {h : VoiceId} {rest : List VoiceId} (hqueue : r.queue = h :: rest)
    (hhead : (r.mode = .background ∧ (e.voice h).phase = .idle)
      ∨ (r.mode = .foreground ∧ (e.voice h).phase.isTuning = true)) :
    e.runContinue.run = some { r with
        queue := rest, current := some { voice := h, second := false, anchor := 0, aResult := none }
        marks := if r.mode = .background then r.marks ++ [(h, false)] else r.marks }
      ∧ Given.measuresFirst e.runContinue h
      ∧ e.runContinue.voice h = { e.voice h with
          phase := .tuning 2048, claim := if r.mode = .background then true else (e.voice h).claim }
      ∧ (∀ w, w ≠ h → e.runContinue.voice w = e.voice w) ∧ (∀ m, e.runContinue.link m = e.link m)
      ∧ ∀ w, (e.runContinue.glide w).position = (e.glide w).position := by
  rcases hhead with ⟨hmode, hidle⟩ | ⟨hmode, htuning⟩
  · obtain ⟨u, hu⟩ : ∃ u, u = (e.setClaim h true).enterTuning h false := ⟨_, rfl⟩
    have hurun : u.run = some { r with marks := r.marks ++ [(h, false)] } := by
      rw [hu]
      exact congrArg (Option.map _) hrun
    have hself : u.voice h = { e.voice h with phase := .tuning 2048, claim := true } := by
      rw [hu, voice_enterTuning_self, voice_setClaim_self]
    have hother : ∀ w, w ≠ h → u.voice w = e.voice w := fun w hw => by
      rw [hu, voice_enterTuning_ne hw, voice_setClaim_ne hw]
    rw [runContinue_of_background hrun hcurrent hqueue hmode, claimVoice_of_idle hidle, ← hu,
      takeNext_of_tuning hurun hcurrent hqueue (by rw [hself]; rfl), if_pos hmode, if_pos hmode]
    refine ⟨rfl, ⟨rfl, rfl, rfl⟩, ?_, fun w hw => ?_, fun m => ?_, fun w => ?_⟩
    · rw [voice_openOscillator_self]
      exact congrArg (fun x : Voice => { x with phase := .tuning 2048 }) hself
    · rw [voice_openOscillator_ne hw]
      exact hother w hw
    · rw [State.link_openOscillator]
      refine Eq.trans (b := u.link m) (by cases m <;> rfl) ?_
      rw [hu, State.link_enterTuning]
      cases m <;> rfl
    · refine Eq.trans (b := (u.glide w).position) rfl ?_
      rw [hu, position_enterTuning]
      rfl
  · have hforeground : r.mode ≠ .background := by rw [hmode]; decide
    rw [runContinue_of_foreground hrun hcurrent hqueue hmode, takeNext_of_tuning hrun hcurrent hqueue htuning,
      if_neg hforeground, if_neg hforeground]
    refine ⟨rfl, ⟨rfl, rfl, rfl⟩, ?_, fun w hw => ?_, fun m => ?_, fun w => rfl⟩
    · rw [voice_openOscillator_self]
      rfl
    · rw [voice_openOscillator_ne hw]
      rfl
    · rw [State.link_openOscillator]
      cases m <;> rfl

/-- The run that waits for the head of its queue. -/
theorem runContinue_waits {h : VoiceId} (hhead : r.queue.head? = some h)
    (hphase : (r.mode = .background ∧ ((e.voice h).phase.isGated = true ∨ (e.voice h).phase.isReleased = true))
      ∨ (r.mode = .foreground ∧ (e.voice h).phase.isDamping = true)) :
    e.runContinue = (if r.mode = .background then e.setClaim h true else e) := by
  obtain ⟨rest, hqueue⟩ := List.head?_eq_some_iff.mp hhead
  rcases hphase with ⟨hmode, hsounds⟩ | ⟨hmode, hdamps⟩
  · have htuning : ((e.setClaim h true).voice h).phase.isTuning = false := by
      rw [voice_setClaim_self]
      cases hp : (e.voice h).phase <;> simp_all [VoicePhase.isGated, VoicePhase.isReleased, VoicePhase.isTuning]
    rw [runContinue_of_background hrun hcurrent hqueue hmode, claimVoice_of_sounding hsounds,
      takeNext_of_not_tuning (s := e.setClaim h true) hrun hcurrent hqueue htuning, if_pos hmode]
  · have htuning : (e.voice h).phase.isTuning = false := by
      cases hp : (e.voice h).phase <;> simp_all [VoicePhase.isDamping, VoicePhase.isTuning]
    rw [runContinue_of_foreground hrun hcurrent hqueue hmode, takeNext_of_not_tuning hrun hcurrent hqueue htuning,
      if_neg (by rw [hmode]; decide)]

/-- The run that ends. -/
theorem runContinue_ends (hqueue : r.queue = []) : e.runContinue.run = none
    ∧ e.runContinue.measurement = e.measurement ∧ e.runContinue.candidate = e.candidate
    ∧ e.runContinue.fsel = e.fsel ∧ (∀ w, e.runContinue.voice w = e.voice w) ∧ (∀ w, e.runContinue.glide w = e.glide w)
    ∧ ∀ m, e.runContinue.link m =
        (e.link m).told (r.requester == some m || (e.link m).queue.mask.getLsbD 3) (Given.runDone r false e.timestamp) := by
  have hlink (m : Link) := State.link_postAlso_told (fun m => r.requester == some m) .tuneRunDone
    (linkOrNone r.requester) (pair r.passCount r.failCount) (bit false) e m
  have hpost := sameButLinks_postAlso (fun m => r.requester == some m) .tuneRunDone (linkOrNone r.requester)
    (pair r.passCount r.failCount) (bit false) e
  rw [runContinue_of_empty hrun hcurrent hqueue, State.postRunDone]
  generalize e.postAlso (fun m => r.requester == some m) .tuneRunDone (linkOrNone r.requester)
    (pair r.passCount r.failCount) (bit false) = u at *
  unfold SameButLinks at hpost
  refine ⟨rfl, ?_, ?_, ?_, fun w => ?_, fun w => ?_, fun m => ?_⟩
  · rw [hpost]
  · rw [hpost]
  · rw [hpost]
  · rw [hpost]
    rfl
  · rw [hpost]
    rfl
  · refine Eq.trans (b := u.link m) (by cases m <;> rfl) (hlink m)

end

/-- What a run that waits for its head leaves, the claim of the head apart. -/
theorem setClaim_if_records (p : Prop) [Decidable p] (h : VoiceId) (e : State) {t : State}
    (ht : t = if p then e.setClaim h true else e) : t.run = e.run ∧ t.measurement = e.measurement
      ∧ t.candidate = e.candidate ∧ t.fsel = e.fsel
      ∧ t.voice h = { e.voice h with claim := if p then true else (e.voice h).claim }
      ∧ (∀ w, w ≠ h → t.voice w = e.voice w) ∧ (∀ w, t.glide w = e.glide w) ∧ ∀ m, t.link m = e.link m := by
  subst ht
  split
  · exact ⟨rfl, rfl, rfl, rfl, voice_setClaim_self h true e, fun w hw => voice_setClaim_ne hw true e, fun w => rfl,
      fun m => by cases m <;> rfl⟩
  · exact ⟨rfl, rfl, rfl, rfl, rfl, fun w _ => rfl, fun w => rfl, fun m => rfl⟩

/-! ### O49 -/

theorem sameButTune_oscDecided (s : State) (o : OscId) (x : Nat) (cal : Vector CalRecord 32) (r : Run)
    (d : CalResult × Option CalMap) : SameButTune s (s.oscDecided o x cal r d) := rfl

theorem link_oscDecided (s : State) (o : OscId) (x : Nat) (cal : Vector CalRecord 32) (r : Run)
    (d : CalResult × Option CalMap) (m : Link) : (s.oscDecided o x cal r d).link m = s.link m := by cases m <;> rfl

/-- Settles O49: the decision of OSC-B is followed by the hand-back, the notices and the three ways on. -/
theorem voiceEndPassesRunOn : Obligations.VoiceEndPassesRunOn := by
  unfold Obligations.VoiceEndPassesRunOn
  rintro s m r c cand res cmd next ⟨hmeasurement, hrun, hcurrent, hcand, hanchor, hlast, hosc, hmosc, hcmd⟩ hsecond
    hdeferred hnext
  obtain ⟨x, cal, hexec, hcal⟩ := exec_of_lastAnchor hmeasurement hcmd
  rw [finishAnchor_of_last hrun hcurrent hcand hanchor hlast res x cal rfl, if_pos hsecond, hosc] at hexec
  rw [hmosc, hosc] at hcal
  generalize hd : decideCandidate (cand.entries.set 7 (some res)).toList = d at hexec
  obtain ⟨u, hu⟩ : ∃ u, u = s.oscDecided (oscOf c.voice c.second) x cal r d := ⟨_, rfl⟩
  have huframe : SameButTune s u := by rw [hu]; exact sameButTune_oscDecided _ _ _ _ _ _
  rw [← hu, voiceDone_of_run (r := Given.counted r d.1) (by rw [hu]; rfl) (by rw [hu]; exact hdeferred)] at hexec
  obtain ⟨hqueue, hmode, hmarks, hrequester⟩ := counted_fields r d.1
  obtain ⟨e, he⟩ : ∃ e, e = u.afterVoice c.voice (c.aResult.getD .none == .noSignal || d.1 == .noSignal)
    (c.aResult.getD .none == .noSignal) (d.1 == .noSignal) (c.aResult.getD .none) d.1 (Given.counted r d.1) := ⟨_, rfl⟩
  rw [← he] at hexec
  have herun : e.run = some ((Given.counted r d.1).without c.voice) := by rw [he]; rfl
  obtain ⟨hemeasurement, hecand, hefsel, hecal⟩ : e.measurement = u.measurement ∧ e.candidate = u.candidate
    ∧ e.fsel = u.fsel ∧ e.calibration = u.calibration := by rw [he]; exact records_afterVoice _ _ _ _ _ _ _ _
  have heframe : SameButTune s e := by
    rw [he]
    exact huframe.trans (sameButTune_afterVoice _ _ _ _ _ _ _ _)
  have hcalt : e.runContinue.calibration = u.calibration := (calibration_runContinue e).trans hecal
  refine ⟨e.runContinue, hexec, ?_⟩
  intro v a b
  have hb : b = d.1 := by
    have hkeeps := hcalt
    rw [hu, ← hd] at hkeeps
    obtain ⟨hresult, -⟩ := decided_records hcal x r (cand.entries.set 7 (some res)) hkeeps
    rw [hsecond, hd] at hresult
    exact hresult
  clear_value b
  subst hb
  intro fault done marks tune told
  have hevoice : ∀ w, e.voice w = if w = v then Given.handedBack s v fault else s.voice w := fun w => by
    rw [he, voice_afterVoice, hu]
    rfl
  have heglide : ∀ w, w ≠ v → e.glide w = s.glide w := fun w hw => by
    rw [he, glide_afterVoice _ _ _ _ _ _ _ _ hw, hu]
    rfl
  have helink : ∀ l, e.link l = told (s.link l) := fun l => by
    have hnotice : Given.voiceDone u v a d.1 u.timestamp = Given.voiceDone e.runContinue v a d.1 s.timestamp := by
      rw [Given.voiceDone_eq, Given.voiceDone_eq, huframe.timestamp]
      simp only [tuneValue_eq, State.cal, hcalt]
    rw [he, link_afterVoice, hnotice, huframe.timestamp, show u.link l = s.link l by rw [hu, link_oscDecided]]
    simp only [told, tune, mask_told]
    rfl
  have hestamp := heframe.timestamp
  have hself : e.voice v = Given.handedBack s v fault := (hevoice v).trans (if_pos rfl)
  have hother : ∀ w, w ≠ v → e.voice w = s.voice w := fun w hw => (hevoice w).trans (if_neg hw)
  refine ⟨heframe.trans (sameButTune_runContinue e), ?_⟩
  cases next with
  | ends =>
    obtain ⟨hnone, hm, hc, hf, hvoice, hglide, hlink⟩ := runContinue_ends herun rfl (hqueue.trans hnext)
    refine ⟨(hvoice v).trans hself, fun w hw => by rw [hglide, heglide w hw], hnone, ?_, ?_, ?_, fun w hw => ?_, fun l => ?_⟩
    · rw [hm, hemeasurement, hu]
      rfl
    · rw [hc, hecand, hu]
      rfl
    · rw [hf, hefsel, hu]
      rfl
    · rw [hvoice, hother w hw]
    · rw [hlink, hestamp, helink]
      simp only [told, tune, mask_told]
      rfl
  | measures h rest =>
    obtain ⟨hhead, hne, hphase⟩ := hnext
    obtain ⟨htrun, ⟨hm, hf, hc⟩, hvoice, hothers, hlink, hposition⟩ :=
      runContinue_measures herun rfl (hqueue.trans hhead) (by rw [hother h hne]; exact hmode ▸ hphase)
    refine ⟨(hothers v hne.symm).trans hself, fun w hw => by rw [hposition, heglide w hw], htrun.trans ?_, hm, hf, hc, ?_,
      fun w hv hh => (hothers w hh).trans (hother w hv), fun l => (hlink l).trans (helink l)⟩
    · simp only [Run.without, hmode, hmarks, done, marks]
      rfl
    · refine hvoice.trans ?_
      simp only [Run.without, hmode, hother h hne]
  | waits h =>
    obtain ⟨hhead, hne, hphase⟩ := hnext
    obtain ⟨htrun, hm, hc, hf, hvoice, hothers, hglide, hlink⟩ := setClaim_if_records _ h e
      (runContinue_waits herun rfl (h := h) (by rw [← hhead]; exact congrArg List.head? hqueue)
        (by rw [hother h hne]; exact hmode ▸ hphase))
    refine ⟨(hothers v hne.symm).trans hself, fun w hw => by rw [hglide, heglide w hw], ?_, ?_, ?_, ?_, ?_,
      fun w hv hh => (hothers w hh).trans (hother w hv), fun l => (hlink l).trans (helink l)⟩
    · rw [htrun, herun]
      simp only [Run.without, hmarks, done, marks]
      rfl
    · rw [hm, hemeasurement, hu]
      rfl
    · rw [hc, hecand, hu]
      rfl
    · rw [hf, hefsel, hu]
      rfl
    · refine hvoice.trans ?_
      simp only [Run.without, hmode, hother h hne]

end Sys2Proof.Machine
end

section
/-! PROOFS. The timers of a voice and of a deferred entry: what frees a voice, and what a freed voice does (R17, R18,
R20, R22, R23). -/

namespace Sys2Proof.Machine

/-! ### A voice enters IDLE or TUNING (R6, R29) -/

section
variable (v : VoiceId) {w : VoiceId} (hw : w ≠ v) (s : State)

theorem glide_stopGlide_self : (s.stopGlide v).glide v = { s.glide v with target := none } := State.glide_setGlide_self v _ s

include hw in
theorem glide_stopGlide_ne : (s.stopGlide v).glide w = s.glide w := State.glide_setGlide_ne hw _ s

theorem glide_goIdle_self : (s.goIdle v).glide v = { s.glide v with target := none } := glide_stopGlide_self v _

include hw in
theorem glide_goIdle_ne : (s.goIdle v).glide w = s.glide w := glide_stopGlide_ne v hw _

include hw in
theorem voice_goIdle_ne : (s.goIdle v).voice w = s.voice w := State.voice_setVoice_ne hw _ s

theorem glide_enterTuning_self (b : Bool) : (s.enterTuning v b).glide v = { s.glide v with target := none } :=
  glide_stopGlide_self v (s.setPhase v (.tuning (anchorCode 0)))

include hw in
theorem glide_enterTuning_ne (b : Bool) : (s.enterTuning v b).glide w = s.glide w :=
  glide_stopGlide_ne v hw (s.setPhase v (.tuning (anchorCode 0)))

end

/-! ### What a freed voice does (R18, R20, R23, R141) -/

theorem State.load_congr {s t : State} {p : PartId}
    (h : ∀ v, (t.voice v).countsFor p = (s.voice v).countsFor p) : t.load p = s.load p :=
  congrArg List.length (List.filter_congr fun v _ => h v)

/-- A voice that counts for no part serves the deferred entries from IDLE as it stands. -/
theorem eligible_goIdle {s : State} {v : VoiceId} (hfree : ∀ p, (s.voice v).countsFor p = false) (d : Deferred) :
    (s.goIdle v).eligible v d = true ↔ Given.canServe s v d := by
  have hload : (s.goIdle v).load d.part = s.load d.part := State.load_congr fun w => by
    by_cases hw : w = v
    · subst hw
      rw [State.voice_goIdle_self, hfree]
      rfl
    · rw [voice_goIdle_ne v hw]
  rw [State.eligible, hload]
  simp only [Bool.and_eq_true, decide_eq_true_eq]
  rfl

theorem offer_of_none {s : State} {v : VoiceId} (h : takeFirst (s.eligible v) s.deferred = none) : s.offer v = s := by
  rw [State.offer, h]
  exact ite_self _

theorem offer_of_some {s : State} {v : VoiceId} (hidle : (s.voice v).phase = .idle) {d : Deferred} {rest : List Deferred}
    (h : takeFirst (s.eligible v) s.deferred = some (d, rest)) : s.offer v =
      ({ s with deferred := rest }.soundIdle v d.part { key := d.key, velocity := d.velocity }).countSounded d.part := by
  rw [State.offer, h, if_pos hidle]

theorem becomeFree_of_unclaimed {s : State} {v : VoiceId} (h : (s.voice v).claim = false) :
    s.becomeFree v = (s.goIdle v).offer v := by
  rw [State.becomeFree, h, if_neg (by simp)]

theorem becomeFree_of_claim {s : State} {v : VoiceId} (h : (s.voice v).claim = true) :
    s.becomeFree v = (s.enterTuning v false).takeNext := by
  rw [State.becomeFree, h, if_pos rfl, State.becomeTuning]

/-- The run that measures, or whose head does not tune, takes no voice. -/
theorem takeNext_of_waiting {s : State} {r : Run} (hrun : s.run = some r)
    (h : r.current.isSome = true ∨ ∀ x ∈ r.queue.head?, (s.voice x).phase.isTuning = false) : s.takeNext = s := by
  cases hcurrent : r.current with
  | some c => simp only [State.takeNext, hrun, hcurrent]
  | none =>
    cases hqueue : r.queue with
    | nil => simp only [State.takeNext, hrun, hcurrent, hqueue]
    | cons x rest =>
      refine takeNext_of_not_tuning hrun hcurrent hqueue (h.resolve_left (by simp [hcurrent]) x ?_)
      simp [hqueue]

/-- A voice that plays nothing and holds no successor is freed. -/
theorem freed_becomeFree {s : State} {v : VoiceId} (hfree : ∀ p, (s.voice v).countsFor p = false) :
    Given.freed s (s.becomeFree v) v := by
  have hidle : ((s.goIdle v).voice v).phase = .idle := by rw [State.voice_goIdle_self]
  refine ⟨fun h => ?_, fun place d h => ?_, fun r h => ?_, fun r rest h => ?_⟩
  · obtain ⟨hclaim, hnone⟩ := h
    have htake : takeFirst ((s.goIdle v).eligible v) (s.goIdle v).deferred = none :=
      takeFirst_eq_none fun d hd => Bool.eq_false_iff.mpr fun he => hnone d hd ((eligible_goIdle hfree d).mp he)
    rw [becomeFree_of_unclaimed hclaim, offer_of_none htake]
    exact ⟨rfl, State.voice_goIdle_self v s, fun w hw => voice_goIdle_ne v hw s, glide_goIdle_self v s,
      fun w hw => glide_goIdle_ne v hw s⟩
  · obtain ⟨hclaim, hplace, hserve, hbefore⟩ := h
    have htake : takeFirst ((s.goIdle v).eligible v) (s.goIdle v).deferred = some (d, s.deferred.eraseIdx place) :=
      takeFirst_eq_some hplace ((eligible_goIdle hfree d).mpr hserve)
        fun x hx => Bool.eq_false_iff.mpr fun he => hbefore x hx ((eligible_goIdle hfree x).mp he)
    rw [becomeFree_of_unclaimed hclaim, offer_of_some hidle htake]
    refine ⟨rfl, ⟨?_, fun w hw => ?_, ?_, fun w hw => ?_⟩, ?_, fun q hq => ?_⟩
    · rw [State.countSounded, State.voice_countWith, State.voice_soundIdle, if_pos rfl]
      exact congrArg (fun x : Voice => { x with
        phase := .gated { key := d.key, velocity := d.velocity } false none, part := d.part, serial := s.serial + 1
        clamped := false }) (State.voice_goIdle_self v s)
    · rw [State.countSounded, State.voice_countWith, State.voice_soundIdle, if_neg hw]
      exact voice_goIdle_ne v hw s
    · rw [State.countSounded, State.glide_countWith, State.glide_soundIdle, if_pos rfl]
    · rw [State.countSounded, State.glide_countWith, State.glide_soundIdle, if_neg hw]
      exact glide_goIdle_ne v hw s
    · rw [State.countSounded, State.perfOf_countWith, if_pos rfl]
      rfl
    · rw [State.countSounded, State.perfOf_countWith, if_neg hq]
      rfl
  · obtain ⟨hclaim, hrun, hwaits⟩ := h
    have hstays : (s.enterTuning v false).takeNext = s.enterTuning v false := by
      refine takeNext_of_waiting (congrArg (Option.map _) hrun) (hwaits.imp id fun hhead x hx => ?_)
      obtain ⟨hne, hphase⟩ := hhead x hx
      rw [voice_enterTuning_ne hne]
      exact hphase
    rw [becomeFree_of_claim hclaim, hstays]
    refine ⟨?_, voice_enterTuning_self v false s, fun w hw => voice_enterTuning_ne hw false s,
      glide_enterTuning_self v s false, fun w hw => glide_enterTuning_ne v hw s false⟩
    have hrun' : (s.enterTuning v false).run = some { r with marks := r.marks ++ [(v, false)] } :=
      congrArg (Option.map _) hrun
    rw [← hrun']
    rfl
  · obtain ⟨hclaim, hrun, hcurrent, hqueue⟩ := h
    have htuning : ((s.enterTuning v false).voice v).phase.isTuning = true := by rw [voice_enterTuning_self]; rfl
    rw [becomeFree_of_claim hclaim, takeNext_of_tuning (s := s.enterTuning v false)
      (r := { r with marks := r.marks ++ [(v, false)] }) (congrArg (Option.map _) hrun) hcurrent hqueue htuning]
    refine ⟨rfl, ⟨?_, fun w hw => ?_, glide_enterTuning_self v s false, fun w hw => glide_enterTuning_ne v hw s false⟩,
      rfl, rfl, rfl⟩
    · rw [voice_openOscillator_self]
      exact congrArg (fun x : Voice => { x with phase := .tuning 2048 }) (voice_enterTuning_self v false s)
    · rw [voice_openOscillator_ne hw]
      exact voice_enterTuning_ne hw false s

/-! ### O53, O54 -/

/-- The glide of a voice that changes its key while it sounds (R162). -/
def Glide.turned (rate : Nat) (k : Key) (g : Glide) : Glide :=
  if rate = 0 ∨ g.position = 256 * k.val then { position := 256 * k.val, target := none }
  else { position := g.position, target := some (256 * k.val) }

theorem State.turnGlide_eq (v : VoiceId) (k : Key) (s : State) : s.turnGlide v k =
    s.setGlide v ((s.glide v).turned (s.param (s.voice v).part pGlideRate) k) := by
  unfold State.turnGlide Glide.turned
  split <;> rfl

/-- Settles O53, by the successor and the disable mark of the voice that damps. -/
theorem dampExpiryEndsDamping : Obligations.DampExpiryEndsDamping := by
  unfold Obligations.DampExpiryEndsDamping
  intro s v
  refine ⟨fun n su dp timer h => ?_, fun n timer h => ?_, fun n timer h => ?_, fun h => ?_⟩
  · obtain ⟨u, hu⟩ : ∃ u, u = (s.unbind v su.part).gateOn v su.part { key := su.key, velocity := su.velocity } :=
      ⟨_, rfl⟩
    have hself : u.voice v = { s.voice v with
        phase := .gated { key := su.key, velocity := su.velocity } false none, part := su.part
        serial := s.serial + 1, clamped := false } := by rw [hu, State.voice_gateOn_self]; rfl
    have hframe : u = { s with voices := u.voices, serial := s.serial + 1, perf := u.perf } := by rw [hu]; rfl
    obtain ⟨g, hg⟩ : ∃ g, g = (s.glide v).turned (s.param su.part pGlideRate) su.key := ⟨_, rfl⟩
    have hturn : u.turnGlide v su.key = u.setGlide v g := by
      rw [State.turnGlide_eq, hself, hg, hframe]
      rfl
    have hperf : ∀ q, u.perfOf q = if q = su.part then
        { s.perfOf q with bound := (s.perfOf q).bound.filter (· != v) } else s.perfOf q := fun q => by
      rw [hu]
      exact State.perfOf_unbind s v su.part q
    have hend : s.dampEnd v = if su.kind = .note then (u.turnGlide v su.key).countSounded su.part
        else u.turnGlide v su.key := by rw [State.dampEnd, h, hu]
    refine ⟨s.dampEnd v, rfl, ?_⟩
    rw [hend, hturn]
    refine ⟨?_, ?_, fun w hw => ?_, ?_, fun w hw => ?_, ?_, fun q hq => ?_⟩
    · rw [hframe]
      split <;> rfl
    · refine Eq.trans (b := u.voice v) ?_ hself
      split <;> rfl
    · refine Eq.trans (b := u.voice w) ?_ ?_
      · split <;> rfl
      · rw [hu, State.voice_gateOn_ne hw]
        rfl
    · refine Eq.trans (b := (u.setGlide v g).glide v) ?_ ((State.glide_setGlide_self v g u).trans hg)
      split <;> rfl
    · refine Eq.trans (b := (u.setGlide v g).glide w) ?_ ?_
      · split <;> rfl
      · rw [State.glide_setGlide_ne hw, hframe]
        rfl
    · split
      · rw [State.countSounded, State.perfOf_countWith, if_pos rfl, State.setGlide_perfOf, hperf, if_pos rfl]
        rfl
      · rw [State.setGlide_perfOf, hperf, if_pos rfl]
    · split
      · rw [State.countSounded, State.perfOf_countWith, if_neg hq, State.setGlide_perfOf, hperf, if_neg hq]
      · rw [State.setGlide_perfOf, hperf, if_neg hq]
  · have hend : s.dampEnd v = (s.setPhase v (.offline .disabled)).stopGlide v := by rw [State.dampEnd, h]
    refine ⟨s.dampEnd v, rfl, ?_⟩
    rw [hend]
    exact ⟨rfl, State.voice_setVoice_self v _ s, fun w hw => State.voice_setVoice_ne hw _ s, glide_stopGlide_self v _,
      fun w hw => glide_stopGlide_ne v hw _⟩
  · have hend : s.dampEnd v = s.becomeFree v := by rw [State.dampEnd, h]
    refine ⟨s.dampEnd v, rfl, ?_⟩
    rw [hend]
    refine freed_becomeFree fun p => ?_
    rw [Voice.countsFor, Voice.gatedFor, h]
    rfl
  · refine congrArg Host.Outcome.next ?_
    unfold State.dampEnd
    cases hphase : (s.voice v).phase <;> first | rfl | (rw [hphase] at h; cases h)

/-- Settles O54: a released voice counts for no part, so its expiry frees it. -/
theorem windowAndDeferralExpiries : Obligations.WindowAndDeferralExpiries := by
  unfold Obligations.WindowAndDeferralExpiries
  refine ⟨fun s v n start window h => ?_, fun s v h => ?_, fun s place d hplace => ?_⟩
  · have hend : s.windowExpiry v = s.becomeFree v := by
      rw [State.windowExpiry, h]
      exact if_pos rfl
    refine ⟨s.windowExpiry v, rfl, ?_⟩
    rw [hend]
    refine freed_becomeFree fun p => ?_
    rw [Voice.countsFor, Voice.gatedFor, h]
    rfl
  · refine congrArg Host.Outcome.next ?_
    rw [State.windowExpiry, h]
    exact if_neg (by simp)
  · obtain ⟨u, hu⟩ : ∃ u, u = ({ s with deferred := s.deferred.eraseIdx place.val } : State).countDropped d.part := ⟨_, rfl⟩
    have hpost := sameButLinks_post .noteDropped d.part d.key 2 u
    have hperf : ∀ q, u.perfOf q = if q = d.part then { s.perfOf q with counters := { (s.perfOf q).counters with
        dropped := min 65535 ((s.perfOf q).counters.dropped + 1) } } else s.perfOf q := fun q => by
      rw [hu, State.countDropped, State.perfOf_countWith]
      rfl
    have hexec : execDeferTimeout place s = .next (u.post .noteDropped d.part d.key 2) := by
      rw [execDeferTimeout, hplace, hu]
      rfl
    have hposted : ∀ q, (u.post .noteDropped d.part d.key 2).perfOf q = u.perfOf q := fun q => by
      unfold SameButLinks at hpost
      rw [hpost]
      rfl
    refine ⟨u.post .noteDropped d.part d.key 2, hexec, ?_, ?_, fun q hq => ?_, fun l => ?_⟩
    · unfold SameButLinks at hpost
      rw [hpost, hu]
      rfl
    · rw [hposted, hperf, if_pos rfl]
    · rw [hposted, hperf, if_neg hq]
    · rw [State.link_post_told, hu]
      cases l <;> rfl

end Sys2Proof.Machine
end

section
/-! PROOFS. VOICE_ENABLE and RESET_VOICES (R27, R31, R149, R158). -/

namespace Sys2Proof.Machine

/-! ### Requests whose service posts several notices -/

/-- A request whose service changes the notice queues of the links alone leaves its reply and those queues. -/
theorem exec_of_notices {s : State} {l : Link} (hready : s.ready l) {r : Request} (hr : r ≠ .resetDevice)
    {payload : List Byte} {u : State} {a : Answer} (hwork : r.service l payload (s.framed l payload) = (u, a))
    {told : Link → LinkUnit → LinkUnit}
    (htold : ∀ m x y, y.queue = x.queue → told m y = { y with queue := (told m x).queue })
    (hlinks : ∀ m, u.link m = told m ((s.framed l payload).link m)) :
    ∃ t, exec (commandOf l payload r) s = .next t
      ∧ (∃ x, t = u.setLink l x)
      ∧ t.link l = told l ((s.link l).took (2 + payload.length) (a.toReply r.code))
      ∧ t.link l.other = told l.other (s.link l.other) := by
  refine ⟨_, exec_request_of_running hready hr payload, ?_, ?_, ?_⟩ <;> rw [hwork]
  · exact ⟨_, rfl⟩
  · have hqueue : ((s.link l).took (2 + payload.length) (a.toReply r.code)).queue = (s.link l).queue := rfl
    rw [State.link_setLink_self, hlinks, htold l (s.link l) _ hqueue, State.framed, State.link_shiftOut_self,
      htold l (s.link l) { s.link l with shifted := fillers (2 + payload.length) } rfl]
    rfl
  · rw [State.link_other_setLink, hlinks, State.framed, State.link_shiftOut_ne (Link.other_ne l)]

/-! ### Frames of the voices -/

theorem SameButHand.trans {s t u : State} (h : SameButHand s t) (k : SameButHand t u) : SameButHand s u := by
  unfold SameButHand at *
  exact k.trans (by rw [h])

/-- The state that a request leaves whose service wrote the voices and the glides alone. -/
theorem SameButHand.setLink_framed {s u : State} {l m : Link} {payload : List Byte}
    (h : SameButHand (s.framed m payload) u) (x : LinkUnit) : u.setLink l x = { s with
      voices := (u.setLink l x).voices, glides := (u.setLink l x).glides, linkA := (u.setLink l x).linkA
      linkB := (u.setLink l x).linkB } := by
  unfold SameButHand at h
  rw [h]
  cases l <;> cases m <;> rfl

theorem nodup_voicesOf (mask : Nat) : (voicesOf mask).Nodup := nodup_allVoices.filter _

theorem mem_voicesOf {mask : Nat} {v : VoiceId} : v ∈ voicesOf mask ↔ mask.testBit v.val = true := by
  simp [voicesOf, mem_allVoices]

theorem all_voicesOf (mask : Nat) (test : VoiceId → Bool) :
    (voicesOf mask).all test = allVoices.all fun v => !mask.testBit v.val || test v := by
  rw [voicesOf, List.all_filter]

theorem State.timestamp_framed (s : State) (l : Link) (payload : List Byte) :
    (s.framed l payload).timestamp = s.timestamp := by cases l <;> rfl

theorem State.glide_framed (s : State) (l : Link) (payload : List Byte) (v : VoiceId) :
    (s.framed l payload).glide v = s.glide v := by cases l <;> rfl

/-! ### VOICE_ENABLE (R27) -/

/-- A voice that is enabled, and its glide. -/
def enabledVoice (now : Stamp) (x : Voice × Glide) : Voice × Glide :=
  match x.1.phase with
  | .offline _ => ({ x.1 with phase := .idle, releaseStamp := now }, { x.2 with target := none })
  | .damping n su true timer => ({ x.1 with phase := .damping n su false timer }, x.2)
  | _ => x

/-- The record of a voice and its glide. -/
def State.hand (s : State) (v : VoiceId) : Voice × Glide := (s.voice v, s.glide v)

theorem hand_enableVoice_self (s : State) (v : VoiceId) :
    (s.enableVoice v).hand v = enabledVoice s.timestamp (s.hand v) := by
  unfold State.enableVoice State.hand enabledVoice
  cases hphase : (s.voice v).phase with
  | offline r => simp only [State.voice_goIdle_self, glide_goIdle_self]
  | damping n su dp timer =>
    cases dp
    · rfl
    · exact Prod.ext (State.voice_setVoice_self v _ s) rfl
  | idle | gated _ _ _ | released _ _ _ | tuning _ => rfl

theorem sameButHand_enableVoice (s : State) (v : VoiceId) : SameButHand s (s.enableVoice v) := by
  unfold State.enableVoice
  split <;> rfl

theorem hand_enableVoice_ne (s : State) (v w : VoiceId) (hw : w ≠ v) : (s.enableVoice v).hand w = s.hand w := by
  unfold State.enableVoice
  split
  · exact Prod.ext (voice_goIdle_ne v hw s) (glide_goIdle_ne v hw s)
  · exact Prod.ext (State.voice_setVoice_ne hw _ s) rfl
  · rfl

theorem offerAll_of_empty {s : State} (h : s.deferred = []) (vs : List VoiceId) : s.offerAll vs = s := by
  induction vs with
  | nil => rfl
  | cons v vs ih =>
    rw [State.offerAll, List.foldl_cons, offer_of_empty h]
    exact ih

theorem enableVoices_touches {s : State} (hdeferred : s.deferred = []) (mask : Nat) :
    SameButHand s (s.enableVoices mask)
      ∧ ∀ v, (s.enableVoices mask).hand v =
          if mask.testBit v.val = true then enabledVoice s.timestamp (s.hand v) else s.hand v := by
  obtain ⟨hframe, hget⟩ := foldl_touches (get := State.hand) (step := State.enableVoice)
    (f := fun _ => enabledVoice s.timestamp) (SameButHand s)
    (fun u v h => h.trans (sameButHand_enableVoice u v)) (fun u v h => by rw [hand_enableVoice_self, h.timestamp])
    (fun u v w _ => hand_enableVoice_ne u v w) (nodup_voicesOf mask) (show SameButHand s s from rfl)
  have hempty : ((voicesOf mask).foldl State.enableVoice s).deferred = [] := hframe.tune.deferred.trans hdeferred
  rw [State.enableVoices, offerAll_of_empty hempty]
  exact ⟨hframe, fun v => (hget v).trans (if_congr mem_voicesOf rfl rfl)⟩

theorem enabledVoice_keeps (now : Stamp) (x : Voice × Glide) : (enabledVoice now x).2.position = x.2.position
    ∧ (x.1.phase.isOffline = false → (enabledVoice now x).2 = x.2)
    ∧ (x.1.phase.enables = (decide ((enabledVoice now x).1 ≠ x.1) || x.1.phase.isOffline)) := by
  unfold enabledVoice
  obtain ⟨⟨phase, part, serial, stamp, claim, clamped⟩, glide⟩ := x
  cases phase with
  | offline r => exact ⟨rfl, nofun, by simp [VoicePhase.enables, VoicePhase.isOffline]⟩
  | damping n su dp timer => cases dp <;> exact ⟨rfl, fun _ => rfl, by simp [VoicePhase.enables, VoicePhase.isOffline]⟩
  | idle | gated _ _ _ | released _ _ _ | tuning _ =>
    exact ⟨rfl, fun _ => rfl, by simp [VoicePhase.enables, VoicePhase.isOffline]⟩

theorem voiceEnableService_field16 (l : Link) {mask : Nat} (hpos : 0 < mask) (hmask : mask < 65536) (s : State) :
    voiceEnableService l (field16 mask) s = (s.enableVoices mask,
      { status := .ok, nothing := (voicesOf mask).all fun v => !(s.voice v).phase.enables }) := by
  change voiceEnableService l [byte (mask % 256), byte (mask / 256 % 256)] s = _
  simp only [voiceEnableService, u16_field16 hmask, if_neg (Nat.pos_iff_ne_zero.mp hpos)]

/-- Settles O51: the fold over the named voices writes each record once. -/
theorem voiceEnableReturnsVoices : Obligations.VoiceEnableReturnsVoices := by
  unfold Obligations.VoiceEnableReturnsVoices
  intro s l mask ⟨hready, hpos, hmask, hdeferred⟩
  obtain ⟨hframe, hget⟩ := enableVoices_touches (s := s.framed l (field16 mask)) (by cases l <;> exact hdeferred) mask
  obtain ⟨u, hu⟩ : ∃ u, u = (s.framed l (field16 mask)).enableVoices mask := ⟨_, rfl⟩
  rw [← hu] at hframe hget
  have hwork : voiceEnableService l (field16 mask) (s.framed l (field16 mask)) = (u,
      { status := .ok, nothing := (voicesOf mask).all fun v => !(s.voice v).phase.enables }) := by
    rw [voiceEnableService_field16 l hpos hmask, hu]
    simp only [State.framed_voice_eq]
  have hhand : ∀ v, u.hand v = if mask.testBit v.val = true then enabledVoice s.timestamp (s.hand v) else s.hand v :=
    fun v => by
      rw [hget, State.timestamp_framed]
      simp only [State.hand, State.framed_voice_eq, State.glide_framed]
  obtain ⟨t, hexec, ht, htook⟩ := exec_of_quiet hready (r := .voiceEnable) (payload := field16 mask) (by decide) hwork
    hframe.link
  have hthand : ∀ v, t.hand v = if mask.testBit v.val = true then enabledVoice s.timestamp (s.hand v) else s.hand v :=
    fun v => by
      rw [← hhand, ht]
      simp only [State.hand, State.setLink_voice, State.setLink_glide]
  have hvoice : ∀ v, t.voice v =
      if mask.testBit v.val = true then (enabledVoice s.timestamp (s.hand v)).1 else s.voice v := fun v => by
    refine (congrArg Prod.fst (hthand v)).trans ?_
    split <;> rfl
  have hglide : ∀ v, t.glide v =
      if mask.testBit v.val = true then (enabledVoice s.timestamp (s.hand v)).2 else s.glide v := fun v => by
    refine (congrArg Prod.snd (hthand v)).trans ?_
    split <;> rfl
  have hkeeps (v : VoiceId) := enabledVoice_keeps s.timestamp (s.hand v)
  refine ⟨t, hexec, ?_, fun v hv => ?_, fun v hv => ?_, fun v => ?_, fun v hv => ?_, ?_⟩
  · rw [ht]
    exact hframe.setLink_framed _
  · rw [hvoice, if_pos hv]
    unfold enabledVoice State.hand
    cases hphase : (s.voice v).phase with
    | damping n su dp timer => cases dp <;> rfl
    | offline _ | idle | gated _ _ _ | released _ _ _ | tuning _ => rfl
  · rw [hvoice, if_neg (by rw [hv]; simp)]
  · obtain ⟨hposition, -, -⟩ := hkeeps v
    rw [hglide]
    split
    · exact hposition
    · rfl
  · obtain ⟨-, hsame, -⟩ := hkeeps v
    rw [hglide]
    split
    · exact hsame hv
    · rfl
  · have hnothing : ((voicesOf mask).all fun v => !(s.voice v).phase.enables) = allVoices.all fun v =>
        !(mask.testBit v.val && decide (t.voice v ≠ s.voice v)) && !(mask.testBit v.val && (s.voice v).phase.isOffline) := by
      rw [all_voicesOf]
      refine congrArg (allVoices.all ·) (funext fun v => ?_)
      obtain ⟨-, -, henables⟩ := hkeeps v
      have henables' : (s.voice v).phase.enables =
        (decide ((enabledVoice s.timestamp (s.hand v)).1 ≠ s.voice v) || (s.voice v).phase.isOffline) := henables
      rw [henables', hvoice]
      cases mask.testBit v.val
      · rfl
      · simp only [if_true, Bool.not_true, Bool.true_and, Bool.false_or, Bool.not_or]
    rw [← hnothing]
    exact htook

/-! ### RESET_VOICES (R31, R149, R158) -/

theorem voices_atRest (s : State) (v : VoiceId) : (s.voices.map (Voice.afterReset s.timestamp))[v.val] =
    if (s.voice v).phase.isOffline = true then s.voice v
    else { s.voice v with phase := .idle, releaseStamp := s.timestamp, claim := false, clamped := false } := by
  rw [Vector.getElem_map]
  change (s.voice v).afterReset s.timestamp = _
  unfold Voice.afterReset
  cases hphase : (s.voice v).phase <;> simp [VoicePhase.isOffline]

/-- Voices, lists, records and glides at rest, on what stands once the run is gone. -/
def State.atRest (s : State) : State :=
  { s with
    glides := s.glides.map Glide.afterReset, voices := s.voices.map (Voice.afterReset s.timestamp), deferred := []
    perf := Vector.replicate 4 Perf.atReset }

/-- The voices, the performance records and the glides of t are those of s at rest. -/
def Rested (s t : State) : Prop :=
  (∀ v, t.voice v =
      if (s.voice v).phase.isOffline = true then s.voice v
      else { s.voice v with phase := .idle, releaseStamp := s.timestamp, claim := false, clamped := false })
  ∧ (∀ p, t.perfOf p =
      { held := [], selected := none, monoSet := [], wanted := none, hold := false, bend := 8192
        counters := { notesIn := 0, sounded := 0, dropped := 0, refused := 0, cancelled := 0 }, bound := [] })
  ∧ ∀ v, t.glide v = { position := (s.glide v).target.getD (s.glide v).position, target := none }

theorem rested_atRest {s e : State} (hvoices : e.voices = s.voices) (hglides : e.glides = s.glides)
    (hstamp : e.timestamp = s.timestamp) (l : Link) (x : LinkUnit) : Rested s (e.atRest.setLink l x) := by
  have hvoice (v : VoiceId) : e.voice v = s.voice v := congrArg (fun vs : Vector Voice 16 => vs[v.val]) hvoices
  have hglide (v : VoiceId) : e.glide v = s.glide v := congrArg (fun vs : Vector Glide 16 => vs[v.val]) hglides
  refine ⟨fun v => ?_, fun p => ?_, fun v => ?_⟩
  · rw [State.setLink_voice, ← hvoice, ← hstamp]
    exact voices_atRest e v
  · rw [State.setLink_perfOf]
    exact Vector.getElem_replicate ..
  · rw [State.setLink_glide, ← hglide]
    exact Vector.getElem_map ..

/-! ### A measurement is abandoned (R134, R149) -/

theorem abandonMeasurement_frame (s : State) : s.abandonMeasurement = { s with
    measurement := none, periodCounter := s.abandonMeasurement.periodCounter
    freeIndex := s.abandonMeasurement.freeIndex } := by
  unfold State.abandonMeasurement
  split
  · next hm => rw [← hm]
  · split <;> rfl

theorem abortCurrent_frame (c : Current) (s : State) : s.abortCurrent c = { s with
    measurement := none, candidate := none, periodCounter := (s.abortCurrent c).periodCounter
    freeIndex := (s.abortCurrent c).freeIndex, calibration := (s.abortCurrent c).calibration } := by
  rw [State.abortCurrent, abandonMeasurement_frame]
  rfl

theorem cal_abortCurrent_self (c : Current) (s : State) : (s.abortCurrent c).cal (oscOf c.voice c.second) =
    { s.cal (oscOf c.voice c.second) with lastResult := .aborted } := by
  rw [State.abortCurrent, abandonMeasurement_frame, State.cal_setCal_self]
  rfl

theorem cal_abortCurrent_ne (c : Current) (s : State) {o : OscId} (ho : o ≠ oscOf c.voice c.second) :
    (s.abortCurrent c).cal o = s.cal o := by
  rw [State.abortCurrent, abandonMeasurement_frame, State.cal_setCal_ne ho]
  rfl

theorem tuneValue_abortCurrent (c : Current) (s : State) (o : OscId) (result : CalResult) :
    (s.abortCurrent c).tuneValue o result = s.tuneValue o result := by
  rw [tuneValue_eq, tuneValue_eq]
  by_cases ho : o = oscOf c.voice c.second
  · rw [ho, cal_abortCurrent_self]
  · rw [cal_abortCurrent_ne c s ho]

theorem link_abortCurrent (c : Current) (s : State) (m : Link) : (s.abortCurrent c).link m = s.link m := by
  rw [abortCurrent_frame]
  cases m <;> rfl

/-! ### O55 -/

theorem abortRunForReset_of_none {s : State} (h : s.run = none) : s.abortRunForReset = s := by
  simp only [State.abortRunForReset, h]

section
variable {s : State} {r : Run} (hrun : s.run = some r)
include hrun

theorem abortRunForReset_of_waiting (hcurrent : r.current = none) :
    s.abortRunForReset = { s.postRunDone r true with run := none } := by
  simp only [State.abortRunForReset, hrun, hcurrent]

theorem abortRunForReset_of_measuring {c : Current} (hcurrent : r.current = some c) : s.abortRunForReset =
    { ((s.abortCurrent c).postVoiceDone c.voice c.resultA .aborted).postRunDone r true with run := none } := by
  simp only [State.abortRunForReset, hrun, hcurrent]

end

theorem State.link_postRunDone (r : Run) (aborted : Bool) (s : State) (m : Link) : (s.postRunDone r aborted).link m =
    (s.link m).told (r.requester == some m || (s.link m).queue.mask.getLsbD 3)
      (Given.runDone r aborted s.timestamp) := State.link_postAlso_told _ _ _ _ _ s m

theorem sameButLinks_postRunDone (r : Run) (aborted : Bool) (s : State) : SameButLinks s (s.postRunDone r aborted) :=
  sameButLinks_postAlso _ _ _ _ _ s

/-- RESET_VOICES after the end of the run, which leaves the voices and the glides to it. -/
theorem exec_resetVoices {s e : State} {l : Link} (hready : s.ready l) (he : (s.framed l []).abortRunForReset = e)
    (htable : e.voices = s.voices ∧ e.glides = s.glides ∧ e.timestamp = s.timestamp) {told : Link → LinkUnit → LinkUnit}
    (htold : ∀ m x y, y.queue = x.queue → told m y = { y with queue := (told m x).queue })
    (hlinks : ∀ m, e.link m = told m ((s.framed l []).link m)) :
    ∃ t, exec (.resetVoices l []) s = .next t ∧ (∃ x, t = e.atRest.setLink l x) ∧ Rested s t
      ∧ t.link l = told l ((s.link l).took 2 (okReply 0x60 false false [])) ∧ t.link l.other = told l.other (s.link l.other) := by
  obtain ⟨hvoices, hglides, hstamp⟩ := htable
  have hwork : Request.resetVoices.service l [] (s.framed l []) = (e.atRest, .ok) := by
    rw [← he]
    rfl
  obtain ⟨t, hexec, ⟨x, ht⟩, hown, hother⟩ := exec_of_notices hready (r := .resetVoices) (payload := []) (by decide) hwork htold
    (fun m => (show e.atRest.link m = e.link m by cases m <;> rfl).trans (hlinks m))
  exact ⟨t, hexec, ⟨x, ht⟩, ht ▸ rested_atRest hvoices hglides hstamp l x, hown, hother⟩

/-- Settles O55: the run's end writes its own records, and then the tables come to rest. -/
theorem resetVoicesRestsVoices : Obligations.ResetVoicesRestsVoices := by
  unfold Obligations.ResetVoicesRestsVoices
  intro s l reply rests frame ended
  obtain ⟨f, hf⟩ : ∃ f, f = s.framed l [] := ⟨_, rfl⟩
  have hframe : SameButLinks s f := by rw [hf]; cases l <;> rfl
  unfold SameButLinks at hframe
  have hstamp : f.timestamp = s.timestamp := by rw [hframe]
  refine ⟨fun h => ?_, fun r h => ?_, fun r c h => ?_⟩
  · obtain ⟨hready, hrun⟩ := h
    have hfrun : f.run = none := by rw [hframe]; exact hrun
    obtain ⟨t, hexec, ⟨x, ht⟩, hrests, hown, hother⟩ := exec_resetVoices (e := f) hready
      (by rw [← hf, abortRunForReset_of_none hfrun]) (by rw [hframe]; exact ⟨rfl, rfl, rfl⟩)
      (told := fun _ x => x) (fun m x y h => by rw [← h]) (fun m => by rw [← hf])
    refine ⟨t, hexec, ?_, hrests, hown, hother⟩
    simp only [frame]
    have hsame : s = { s with run := none } := by rw [← hrun]
    rw [ht, hframe, hsame]
    cases l <;> rfl
  · obtain ⟨hready, hrun, hcurrent⟩ := h
    have hfrun : f.run = some r := by rw [hframe]; exact hrun
    have hpost := sameButLinks_postRunDone r true f
    unfold SameButLinks at hpost
    obtain ⟨t, hexec, ⟨x, ht⟩, hrests, hlinks⟩ := exec_resetVoices (e := { f.postRunDone r true with run := none }) hready
      (by rw [← hf, abortRunForReset_of_waiting hfrun hcurrent]) (by rw [hpost, hframe]; exact ⟨rfl, rfl, rfl⟩)
      (told := ended r) (fun m x y h => by simp only [ended, LinkUnit.told_eq, h]) (fun m => by
        rw [← hf]
        refine Eq.trans (b := (f.postRunDone r true).link m) (by cases m <;> rfl) ?_
        rw [State.link_postRunDone, hstamp])
    refine ⟨t, hexec, ?_, hrests, hlinks⟩
    simp only [frame]
    rw [ht, hpost, hframe]
    cases l <;> rfl
  · obtain ⟨hready, hrun, hcurrent⟩ := h
    intro o told
    have hfrun : f.run = some r := by rw [hframe]; exact hrun
    obtain ⟨a, ha⟩ : ∃ a, a = f.abortCurrent c := ⟨_, rfl⟩
    obtain ⟨d, hd⟩ : ∃ d, d = a.postVoiceDone c.voice c.resultA .aborted := ⟨_, rfl⟩
    have haframe := abortCurrent_frame c f
    have hdone : SameButLinks a d := by rw [hd]; exact sameButLinks_post _ _ _ _ _
    have hpost := sameButLinks_postRunDone r true d
    unfold SameButLinks at hpost hdone
    rw [← ha] at haframe
    have hcal : ∀ x, f.cal x = s.cal x := fun x => by rw [hframe]; rfl
    have hnotice : ∀ m, d.link m = ((s.framed l []).link m).told (((s.framed l []).link m).queue.mask.getLsbD 3)
        (Given.voiceDone s c.voice c.resultA .aborted s.timestamp) := fun m => by
      rw [hd, State.postVoiceDone, State.link_post_told, Given.voiceDone_eq]
      have hstampa : a.timestamp = s.timestamp := by rw [haframe, hstamp]
      rw [hstampa, ha, link_abortCurrent, tuneValue_abortCurrent, tuneValue_abortCurrent, hf]
      simp only [tuneValue_eq, ← hf, hcal]
      rfl
    obtain ⟨t, hexec, ⟨x, ht⟩, hrests, hlinks⟩ := exec_resetVoices (e := { d.postRunDone r true with run := none }) hready
      (by rw [← hf, abortRunForReset_of_measuring hfrun hcurrent, hd, ha]) (by rw [hpost, hdone, haframe, hframe]; exact ⟨rfl, rfl, rfl⟩)
      (told := told) (fun m x y h => by simp only [told, ended, LinkUnit.told_eq, h]) (fun m => by
        refine Eq.trans (b := (d.postRunDone r true).link m) (by cases m <;> rfl) ?_
        have hstampd : d.timestamp = s.timestamp := by rw [hdone, haframe, hstamp]
        rw [State.link_postRunDone, hnotice, hstampd]
        rfl)
    have htcal : ∀ x, t.cal x = a.cal x := fun o' => by
      rw [ht, State.setLink_cal, hpost, hdone]
      rfl
    refine ⟨t, hexec, ?_, hrests, ?_, fun x hx => ?_, hlinks⟩
    · rw [ht, hpost, hdone, haframe, hframe]
      cases l <;> rfl
    · rw [htcal, ha, cal_abortCurrent_self, hcal]
    · rw [htcal, ha, cal_abortCurrent_ne c f hx, hcal]

end Sys2Proof.Machine
end

section
/-! PROOFS. What voices taken from their notes leave of the performance records, and VOICE_DISABLE (R19, R26, R41). -/

namespace Sys2Proof.Machine

/-! ### Voices taken from their notes (R19, R41) -/

theorem leftSet_none (perf : Perf) : Given.leftSet perf (fun _ => false) = perf := by
  unfold Given.leftSet
  simp only [Bool.not_false, List.filter_true]
  exact if_neg fun h => h.1 h.2

theorem leftSet_leftSet (perf : Perf) (out more : VoiceId → Bool) :
    Given.leftSet (Given.leftSet perf out) more = Given.leftSet perf fun v => out v || more v := by
  have hboth : perf.monoSet.filter (fun v => !(out v || more v)) =
      (perf.monoSet.filter fun v => !out v).filter fun v => !more v := by
    rw [List.filter_filter]
    exact List.filter_congr fun v _ => by rw [Bool.not_or, Bool.and_comm]
  unfold Given.leftSet
  dsimp only
  rw [hboth]
  generalize hrest : perf.monoSet.filter (fun v => !out v) = rest
  have hnil : perf.monoSet = [] → rest = [] := fun h => by rw [← hrest, h]; rfl
  by_cases hempties : perf.monoSet ≠ [] ∧ rest = []
  · obtain ⟨hne, hempty⟩ := hempties
    simp [hne, hempty]
  · rw [if_neg hempties]
    by_cases hfilter : rest.filter (fun v => !more v) = []
    · by_cases hempty : rest = []
      · have : perf.monoSet = [] := by_contra fun h => hempties ⟨h, hempty⟩
        simp [hempty, this]
      · have : perf.monoSet ≠ [] := fun h => hempty (hnil h)
        simp [hempty, hfilter, this]
    · simp [hfilter]

theorem leftSet_with (perf : Perf) (c : Counters) (bound : List VoiceId) (out : VoiceId → Bool) :
    Given.leftSet { perf with counters := c, bound := bound } out =
      { Given.leftSet perf out with counters := c, bound := bound } := by
  unfold Given.leftSet
  dsimp only
  split <;> rfl

theorem length_filter_or {α : Type} {a b : α → Bool} (xs : List α) (h : ∀ x, b x = true → a x = false) :
    (xs.filter fun x => a x || b x).length = (xs.filter a).length + (xs.filter b).length := by
  induction xs with
  | nil => rfl
  | cons x xs ih =>
    have hx := h x
    cases ha : a x <;> cases hb : b x <;> simp_all <;> omega

theorem length_filter_single (v : VoiceId) (test : VoiceId → Bool) :
    (allVoices.filter fun w => w == v && test w).length = if test v = true then 1 else 0 := by
  have hone : allVoices.filter (fun w => w == v) = [v] := by
    rw [List.filter_beq, List.count_eq_one_of_mem nodup_allVoices (mem_allVoices v)]
    rfl
  have hsplit : (allVoices.filter fun w => w == v && test w) = [v].filter test := by
    rw [← hone, List.filter_filter]
    exact List.filter_congr fun w _ => Bool.and_comm _ _
  rw [hsplit]
  cases htest : test v <;> simp [htest]

theorem notesTaken_refl {s t : State} (h : ∀ p, t.perfOf p = s.perfOf p) : Given.notesTaken s t fun _ => false := by
  intro p
  rw [h, leftSet_none]
  exact ⟨by simp, fun hle => by simp [Nat.min_eq_right hle]⟩

/-- Voices taken after others, which leave them as they are. -/
theorem notesTaken_trans {s u t : State} {first second : VoiceId → Bool} (h : Given.notesTaken s u first)
    (k : Given.notesTaken u t second) (hapart : ∀ v, second v = true → first v = false ∧ (u.voice v).phase = (s.voice v).phase) :
    Given.notesTaken s t fun v => first v || second v := by
  intro p
  obtain ⟨hu, hucount⟩ := h p
  obtain ⟨ht, htcount⟩ := k p
  have hphase (test : VoicePhase → Bool) (v : VoiceId) :
      (second v && test (u.voice v).phase) = (second v && test (s.voice v).phase) := by
    cases hv : second v
    · rfl
    · rw [(hapart v hv).2]
  have hnotes := length_filter_or (a := fun v => first v && (s.voice v).noteSuccessorOf p)
    (b := fun v => second v && (s.voice v).noteSuccessorOf p) allVoices fun v hv => by
      obtain ⟨hv, -⟩ := Bool.and_eq_true_iff.mp hv
      rw [(hapart v hv).1, Bool.false_and]
  constructor
  · generalize (t.perfOf p).counters.cancelled = c at ht ⊢
    generalize (u.perfOf p).counters.cancelled = d at hu
    rw [ht, hu, leftSet_with, leftSet_leftSet]
    simp only [List.filter_filter]
    congr 1
    refine List.filter_congr fun v _ => ?_
    rw [show (second v && (u.voice v).successorOf p) = (second v && (s.voice v).successorOf p) from
      hphase (fun ph => ph.successor?.any fun (su : Successor) => su.part == p) v]
    cases first v <;> cases second v <;> simp
  · intro hle
    have hufits : (u.perfOf p).counters.cancelled ≤ 65535 := by
      rw [hucount hle]
      exact Nat.min_le_left _ _
    have hsecond : (allVoices.filter fun v => second v && (u.voice v).noteSuccessorOf p) =
        allVoices.filter fun v => second v && (s.voice v).noteSuccessorOf p :=
      List.filter_congr fun v _ => hphase (fun ph => ph.successor?.any fun (su : Successor) => su.part == p && su.kind == .note) v
    have hsum : (allVoices.filter fun v => (first v || second v) && (s.voice v).noteSuccessorOf p).length =
        (allVoices.filter fun v => first v && (s.voice v).noteSuccessorOf p).length
          + (allVoices.filter fun v => second v && (s.voice v).noteSuccessorOf p).length := by
      rw [← hnotes]
      exact congrArg List.length (List.filter_congr fun v _ => Bool.and_or_distrib_right ..)
    have hcount := htcount hufits
    rw [hucount hle] at hcount
    change _ = min 65535 ((s.perfOf p).counters.cancelled
      + (allVoices.filter fun v => (first v || second v) && (s.voice v).noteSuccessorOf p).length)
    change _ = min 65535 (min 65535 ((s.perfOf p).counters.cancelled
      + (allVoices.filter fun v => first v && (s.voice v).noteSuccessorOf p).length)
      + (allVoices.filter fun v => second v && (u.voice v).noteSuccessorOf p).length) at hcount
    rw [hsecond] at hcount
    omega

/-- One voice taken from its note. -/
theorem notesTaken_single {s t : State} {v : VoiceId} (h : ∀ p, t.perfOf p = { Given.leftSet (s.perfOf p) (· == v) with
      counters := { (s.perfOf p).counters with
        cancelled := if (s.voice v).noteSuccessorOf p = true then min 65535 ((s.perfOf p).counters.cancelled + 1)
          else (s.perfOf p).counters.cancelled }
      bound := if (s.voice v).successorOf p = true then (s.perfOf p).bound.filter (· != v) else (s.perfOf p).bound }) :
    Given.notesTaken s t (· == v) := by
  intro p
  have hcount := length_filter_single v fun w => (s.voice w).noteSuccessorOf p
  have hbound : (s.perfOf p).bound.filter (fun w => !(w == v && (s.voice w).successorOf p)) =
      if (s.voice v).successorOf p = true then (s.perfOf p).bound.filter (· != v) else (s.perfOf p).bound := by
    split
    · next hsu =>
      refine List.filter_congr fun w _ => ?_
      by_cases hw : w = v
      · subst hw
        simp [hsu]
      · have hne : (w == v) = false := by simp [hw]
        simp [bne, hne]
    · next hsu =>
      refine List.filter_eq_self.mpr fun w _ => ?_
      by_cases hw : w = v
      · subst hw
        simp [hsu]
      · simp [hw]
  constructor
  · rw [h, hbound]
  · intro hle
    refine Eq.trans ?_ (congrArg (fun n => min 65535 ((s.perfOf p).counters.cancelled + n)) hcount.symm)
    rw [h]
    dsimp only
    split
    · rfl
    · omega

/-! ### One voice: damped, or its successor cancelled (R15, R19) -/

theorem damp_none {s : State} {v : VoiceId} {n : Note} (h : (s.voice v).phase.note? = some n) :
    s.damp v none = (s.leaveSets v).setPhase v (.damping n none false (s.global gDampTime)) := by
  simp only [State.damp, h]

theorem sameButPerf_leaveSets (v : VoiceId) (s : State) : SameButPerf s (s.leaveSets v) := (leaveSets_touches v s).1

theorem perfOf_leaveSets (v : VoiceId) (s : State) (p : PartId) :
    (s.leaveSets v).perfOf p = Given.leftSet (s.perfOf p) (· == v) := (leaveSets_touches v s).2 p

theorem SameButPerf.voice {s t : State} (h : SameButPerf s t) (v : VoiceId) : t.voice v = s.voice v := by
  unfold SameButPerf at h
  rw [h]
  rfl

theorem successorOf_of_none {x : Voice} (h : x.phase.successor? = none) (p : PartId) : x.successorOf p = false := by
  rw [Voice.successorOf, h]
  rfl

theorem noteSuccessorOf_of_none {x : Voice} (h : x.phase.successor? = none) (p : PartId) :
    x.noteSuccessorOf p = false := by
  rw [Voice.noteSuccessorOf, h]
  rfl

theorem notesTaken_damp {s : State} {v : VoiceId} {n : Note} (hnote : (s.voice v).phase.note? = some n)
    (hsu : (s.voice v).phase.successor? = none) : Given.notesTaken s (s.damp v none) (· == v) := by
  refine notesTaken_single fun p => ?_
  have hperf := perfOf_leaveSets v s p
  rw [damp_none hnote, successorOf_of_none hsu, noteSuccessorOf_of_none hsu]
  generalize s.leaveSets v = u at *
  refine Eq.trans (b := u.perfOf p) rfl ?_
  rw [hperf]
  simp only [Bool.false_eq_true, if_false]
  rw [← bound_leftSet (s.perfOf p) (· == v)]
  unfold Given.leftSet
  dsimp only
  split <;> rfl

theorem voice_damp_none_self {s : State} {v : VoiceId} {n : Note} (h : (s.voice v).phase.note? = some n) :
    (s.damp v none).voice v = { s.voice v with phase := .damping n none false (s.global gDampTime) } := by
  rw [damp_none h, State.setPhase, State.voice_setVoice_self, (sameButPerf_leaveSets v s).voice]

theorem voice_damp_none_ne {s : State} {v w : VoiceId} (hw : w ≠ v) {n : Note} (h : (s.voice v).phase.note? = some n) :
    (s.damp v none).voice w = s.voice w := by
  rw [damp_none h, State.setPhase, State.voice_setVoice_ne hw, (sameButPerf_leaveSets v s).voice]

/-- The voice after its successor was cancelled. -/
def Voice.withoutSuccessor (x : Voice) : Voice :=
  match x.phase with
  | .damping n (some _) dp timer => { x with phase := .damping n none dp timer }
  | _ => x

/-- The voices and the performance records alone differ. -/
def SameButPlayed (s t : State) : Prop := t = { s with voices := t.voices, perf := t.perf }

theorem SameButPlayed.trans {s t u : State} (h : SameButPlayed s t) (k : SameButPlayed t u) : SameButPlayed s u := by
  unfold SameButPlayed at *
  exact k.trans (by rw [h])

theorem SameButPerf.played {s t : State} (h : SameButPerf s t) : SameButPlayed s t := by
  unfold SameButPerf at h
  unfold SameButPlayed
  exact h.trans (by rw [h])

theorem sameButPlayed_cancelSuccessor (v : VoiceId) (s : State) : SameButPlayed s (s.cancelSuccessor v) := by
  unfold State.cancelSuccessor
  split
  · dsimp only
    split <;> rfl
  · rfl

theorem sameButPlayed_damp (v : VoiceId) (s : State) : SameButPlayed s (s.damp v none) := by
  cases hnote : (s.voice v).phase.note? with
  | none => simp only [State.damp, hnote]; rfl
  | some n =>
    have hleft := (sameButPerf_leaveSets v s).played
    rw [damp_none hnote]
    generalize s.leaveSets v = u at *
    exact hleft.trans rfl

theorem sameButPlayed_cancelAndLeave (v : VoiceId) (s : State) : SameButPlayed s (s.cancelAndLeave v) :=
  (sameButPlayed_cancelSuccessor v s).trans (sameButPerf_leaveSets v _).played

theorem voice_cancelAndLeave_self (v : VoiceId) (s : State) :
    (s.cancelAndLeave v).voice v = (s.voice v).withoutSuccessor := by
  rw [State.cancelAndLeave, (sameButPerf_leaveSets v _).voice]
  unfold State.cancelSuccessor Voice.withoutSuccessor
  cases hphase : (s.voice v).phase with
  | damping n su dp timer =>
    cases su with
    | none => rfl
    | some su =>
      refine Eq.trans (b := (s.setPhase v (.damping n none dp timer)).voice v) ?_ (State.voice_setVoice_self v _ s)
      dsimp only
      split <;> rfl
  | idle | gated _ _ _ | released _ _ _ | tuning _ | offline _ => rfl

theorem voice_cancelAndLeave_ne {v w : VoiceId} (hw : w ≠ v) (s : State) :
    (s.cancelAndLeave v).voice w = s.voice w := by
  rw [State.cancelAndLeave, (sameButPerf_leaveSets v _).voice]
  unfold State.cancelSuccessor
  split
  · next n su dp timer _ =>
    refine Eq.trans (b := (s.setPhase v (.damping n none dp timer)).voice w) ?_ (State.voice_setVoice_ne hw _ s)
    dsimp only
    split <;> rfl
  · rfl

/-- A successor that is cancelled. -/
theorem perfOf_cancelSuccessor (v : VoiceId) (s : State) (p : PartId) : (s.cancelSuccessor v).perfOf p =
    if (s.voice v).successorOf p = true then (s.perfOf p).cancelledOn v ((s.voice v).noteSuccessorOf p)
    else s.perfOf p := by
  split
  · next h => rw [State.cancelSuccessor_eq h, State.perfOf_setPerf_self]
  · next h =>
    cases hphase : (s.voice v).phase with
    | damping n su dp timer =>
      cases su with
      | none => simp only [State.cancelSuccessor, hphase]
      | some su =>
        have hself : (s.voice v).successorOf su.part = true := by simp [Voice.successorOf, hphase, VoicePhase.successor?]
        have hne : p ≠ su.part := fun heq => h (heq ▸ hself)
        rw [State.cancelSuccessor_eq hself, State.perfOf_setPerf_ne hne]
        rfl
    | idle | gated _ _ _ | released _ _ _ | tuning _ | offline _ => simp only [State.cancelSuccessor, hphase]

theorem notesTaken_cancelAndLeave (v : VoiceId) (s : State) : Given.notesTaken s (s.cancelAndLeave v) (· == v) := by
  refine notesTaken_single fun p => ?_
  rw [State.cancelAndLeave, perfOf_leaveSets, perfOf_cancelSuccessor]
  split
  · unfold Perf.cancelledOn
    exact leftSet_with _ _ _ _
  · next h =>
    have hnote : (s.voice v).noteSuccessorOf p = false := Bool.eq_false_iff.mpr fun hn => h (successorOf_of_note hn)
    rw [hnote, ← bound_leftSet (s.perfOf p) (· == v)]
    simp only [Bool.false_eq_true, if_false]
    unfold Given.leftSet
    dsimp only
    split <;> rfl

/-! ### Several voices in turn -/

/-- A fold over different voices, each of whose steps writes the record of its own voice and takes that voice from its
note when `out` says so. -/
theorem foldl_takes {step : State → VoiceId → State} {f : Voice × Glide → Voice × Glide} {out : Voice → Bool}
    {P : State → Prop} (hP : ∀ s v, P s → P (step s v)) (hself : ∀ s v, P s → (step s v).hand v = f (s.hand v))
    (hother : ∀ s v w, P s → w ≠ v → (step s v).hand w = s.hand w)
    (htaken : ∀ s v, P s → Given.notesTaken s (step s v) fun w => w == v && out (s.voice v)) {vs : List VoiceId}
    (hnodup : vs.Nodup) {s : State} (hs : P s) :
    P (vs.foldl step s) ∧ (∀ v, (vs.foldl step s).hand v = if v ∈ vs then f (s.hand v) else s.hand v)
      ∧ Given.notesTaken s (vs.foldl step s) fun v => vs.contains v && out (s.voice v) := by
  obtain ⟨hframe, hhand⟩ := foldl_touches (get := State.hand) (f := fun _ => f) P hP hself hother hnodup hs
  refine ⟨hframe, hhand, ?_⟩
  clear hframe hhand
  induction vs generalizing s with
  | nil => exact notesTaken_refl fun p => rfl
  | cons v vs ih =>
    obtain ⟨hv, hvs⟩ := List.nodup_cons.mp hnodup
    have hvoice (w : VoiceId) (hw : w ≠ v) : (step s v).voice w = s.voice w := congrArg Prod.fst (hother s v w hs hw)
    have hne {w : VoiceId} (hw : w ∈ vs) : w ≠ v := fun heq => hv (heq ▸ hw)
    have hboth := notesTaken_trans (htaken s v hs) (ih hvs (hP s v hs)) fun w hw => by
      have hin : w ∈ vs := by simpa using (Bool.and_eq_true_iff.mp hw).1
      exact ⟨by simp [hne hin], congrArg Voice.phase (hvoice w (hne hin))⟩
    have hsame : (fun w => (w == v && out (s.voice v)) || (vs.contains w && out ((step s v).voice w))) =
        fun w => (v :: vs).contains w && out (s.voice w) := by
      funext w
      by_cases hw : w = v
      · subst hw
        simp [hv]
      · rw [hvoice w hw]
        simp [hw]
    rw [hsame] at hboth
    exact hboth

end Sys2Proof.Machine
end

section
/-! PROOFS. VOICE_DISABLE without a run (R26). -/

namespace Sys2Proof.Machine

/-! ### One voice is disabled (R26) -/

/-- The voices, the performance records and the glides alone differ. -/
def SameButTaken (s t : State) : Prop := t = { s with voices := t.voices, perf := t.perf, glides := t.glides }

theorem SameButTaken.trans {s t u : State} (h : SameButTaken s t) (k : SameButTaken t u) : SameButTaken s u := by
  unfold SameButTaken at *
  exact k.trans (by rw [h])

theorem SameButPlayed.taken {s t : State} (h : SameButPlayed s t) : SameButTaken s t := by
  unfold SameButPlayed at h
  unfold SameButTaken
  exact h.trans (by rw [h])

theorem SameButTaken.link {s t : State} (h : SameButTaken s t) (m : Link) : t.link m = s.link m := by
  unfold SameButTaken at h
  rw [h]
  cases m <;> rfl

theorem SameButTaken.run {s t : State} (h : SameButTaken s t) : t.run = s.run := by
  unfold SameButTaken at h
  rw [h]

theorem SameButTaken.global {s t : State} (h : SameButTaken s t) (i : GlobalId) : t.global i = s.global i := by
  unfold SameButTaken at h
  rw [h]
  rfl

theorem SameButPlayed.glide {s t : State} (h : SameButPlayed s t) (v : VoiceId) : t.glide v = s.glide v := by
  unfold SameButPlayed at h
  rw [h]
  rfl

theorem SameButPlayed.run {s t : State} (h : SameButPlayed s t) : t.run = s.run := h.taken.run

theorem State.setVoice_setVoice (v : VoiceId) (x y : Voice) (s : State) : (s.setVoice v x).setVoice v y = s.setVoice v y := by
  simp [State.setVoice]

theorem goDisabled_eq (v : VoiceId) (s : State) : s.goDisabled v =
    (s.setVoice v { s.voice v with phase := .offline .disabled, claim := false }).stopGlide v := by
  rw [State.goDisabled, State.setClaim, State.setPhase, State.voice_setVoice_self, State.setVoice_setVoice]

theorem hand_goDisabled_self (v : VoiceId) (s : State) : (s.goDisabled v).hand v =
    ({ s.voice v with phase := .offline .disabled, claim := false }, { s.glide v with target := none }) := by
  rw [goDisabled_eq]
  exact Prod.ext (State.voice_setVoice_self v _ s) (glide_stopGlide_self v _)

theorem hand_goDisabled_ne {v w : VoiceId} (hw : w ≠ v) (s : State) : (s.goDisabled v).hand w = s.hand w := by
  rw [goDisabled_eq]
  exact Prod.ext (State.voice_setVoice_ne hw _ s) (glide_stopGlide_ne v hw _)

theorem pendDisable_setClaim {s : State} {v : VoiceId} {n : Note} {su : Option Successor} {dp : Bool} {timer : Nat}
    (h : (s.voice v).phase = .damping n su dp timer) : (s.pendDisable v).setClaim v false =
      s.setVoice v { s.voice v with phase := .damping n su true timer, claim := false } := by
  simp only [State.pendDisable, h, State.setClaim, State.setPhase, State.voice_setVoice_self, State.setVoice_setVoice]

theorem leaveRun_of_none {s : State} (h : s.run = none) (v : VoiceId) : s.leaveRun v = s := by
  simp [State.leaveRun, h]

/-- A voice that is disabled while no run exists, and its glide. -/
def disabledVoice (damp : Nat) (x : Voice × Glide) : Voice × Glide :=
  match x.1.phase with
  | .idle | .tuning _ | .offline .fault =>
    ({ x.1 with phase := .offline .disabled, claim := false }, { x.2 with target := none })
  | .gated n _ _ | .released n _ _ => ({ x.1 with phase := .damping n none true damp, claim := false }, x.2)
  | .damping n _ false timer => ({ x.1 with phase := .damping n none true timer, claim := false }, x.2)
  | .damping _ _ true _ | .offline .disabled => x

/-- The voice plays, or waits for a note: a disable takes it from its note. -/
def Voice.disableTakes (x : Voice) : Bool :=
  match x.phase with
  | .gated _ _ _ | .released _ _ _ | .damping _ _ false _ => true
  | _ => false

/-- What a disable of one voice does to that voice, to the others and to the performance records. -/
def Disables (s t : State) (v : VoiceId) : Prop :=
  SameButTaken s t ∧ t.hand v = disabledVoice (s.global gDampTime) (s.hand v) ∧ (∀ w, w ≠ v → t.hand w = s.hand w)
    ∧ Given.notesTaken s t fun w => w == v && (s.voice v).disableTakes

theorem notesTaken_congr {s t : State} {out out' : VoiceId → Bool} (h : Given.notesTaken s t out)
    (heq : ∀ v, out v = out' v) : Given.notesTaken s t out' := (funext heq : out = out') ▸ h

theorem disables_goDisabled {s : State} (hrun : s.run = none) {v : VoiceId} (htakes : (s.voice v).disableTakes = false)
    (hphase : disabledVoice (s.global gDampTime) (s.hand v) =
      ({ s.voice v with phase := .offline .disabled, claim := false }, { s.glide v with target := none })) :
    Disables s ((s.goDisabled v).leaveRun v) v := by
  have hleaves : (s.goDisabled v).leaveRun v = s.goDisabled v := leaveRun_of_none (s := s.goDisabled v) hrun v
  rw [hleaves]
  refine ⟨rfl, (hand_goDisabled_self v s).trans hphase.symm, fun w hw => hand_goDisabled_ne hw s, ?_⟩
  exact notesTaken_congr (notesTaken_refl fun p => rfl) fun w => by rw [htakes, Bool.and_false]

/-- A voice taken from its note that damps from now on, disable pending. -/
theorem disables_pending {s d : State} (hrun : s.run = none) {v : VoiceId} {n : Note} {timer : Nat} (hframe : SameButPlayed s d)
    (hself : d.voice v = { s.voice v with phase := .damping n none false timer })
    (hother : ∀ w, w ≠ v → d.voice w = s.voice w) (htaken : Given.notesTaken s d (· == v))
    (htakes : (s.voice v).disableTakes = true)
    (hphase : disabledVoice (s.global gDampTime) (s.hand v) =
      ({ s.voice v with phase := .damping n none true timer, claim := false }, s.glide v)) :
    Disables s (((d.pendDisable v).setClaim v false).leaveRun v) v := by
  rw [pendDisable_setClaim (by rw [hself]), leaveRun_of_none (s := d.setVoice v _) (hframe.run.trans hrun)]
  refine ⟨hframe.taken.trans rfl, ?_, fun w hw => ?_, ?_⟩
  · rw [hphase]
    refine Prod.ext ((State.voice_setVoice_self v _ d).trans ?_) (hframe.glide v)
    rw [hself]
  · exact Prod.ext ((State.voice_setVoice_ne hw _ d).trans (hother w hw)) (hframe.glide w)
  · exact notesTaken_congr htaken fun w => by rw [htakes, Bool.and_true]

theorem disables_damp {s : State} (hrun : s.run = none) {v : VoiceId} {n : Note} (hnote : (s.voice v).phase.note? = some n)
    (hsu : (s.voice v).phase.successor? = none) (htakes : (s.voice v).disableTakes = true)
    (hphase : disabledVoice (s.global gDampTime) (s.hand v) =
      ({ s.voice v with phase := .damping n none true (s.global gDampTime), claim := false }, s.glide v)) :
    Disables s ((((s.damp v none).pendDisable v).setClaim v false).leaveRun v) v :=
  disables_pending hrun (sameButPlayed_damp v s) (voice_damp_none_self hnote) (fun _ hw => voice_damp_none_ne hw hnote)
    (notesTaken_damp hnote hsu) htakes hphase

theorem disables_cancel {s : State} (hrun : s.run = none) {v : VoiceId} {n : Note} {su : Option Successor} {timer : Nat}
    (hphase : (s.voice v).phase = .damping n su false timer) :
    Disables s ((((s.cancelAndLeave v).pendDisable v).setClaim v false).leaveRun v) v := by
  have hself : (s.cancelAndLeave v).voice v = { s.voice v with phase := .damping n none false timer } := by
    rw [voice_cancelAndLeave_self]
    generalize s.voice v = x at hphase ⊢
    obtain ⟨phase, part, serial, stamp, claim, clamped⟩ := x
    subst hphase
    cases su <;> rfl
  refine disables_pending hrun (sameButPlayed_cancelAndLeave v s) hself (fun w hw => voice_cancelAndLeave_ne hw s)
    (notesTaken_cancelAndLeave v s) ?_ ?_
  · simp only [Voice.disableTakes, hphase]
  · simp only [State.hand, disabledVoice, hphase]

theorem disables_self {s : State} {v : VoiceId} (htakes : (s.voice v).disableTakes = false)
    (hphase : disabledVoice (s.global gDampTime) (s.hand v) = s.hand v) : Disables s s v :=
  ⟨rfl, hphase.symm, fun _ _ => rfl,
    notesTaken_congr (notesTaken_refl fun p => rfl) fun w => by rw [htakes, Bool.and_false]⟩

theorem disableVoice_of_noRun {s : State} (hrun : s.run = none) (v : VoiceId) : Disables s (s.disableVoice v) v := by
  unfold State.disableVoice
  cases hphase : (s.voice v).phase with
  | idle =>
    exact disables_goDisabled hrun (by simp only [Voice.disableTakes, hphase])
      (by simp only [State.hand, disabledVoice, hphase])
  | gated n sus pulse =>
    exact disables_damp hrun (n := n) (by rw [hphase]; rfl) (by rw [hphase]; rfl)
      (by simp only [Voice.disableTakes, hphase]) (by simp only [State.hand, disabledVoice, hphase])
  | released n start window =>
    exact disables_damp hrun (n := n) (by rw [hphase]; rfl) (by rw [hphase]; rfl)
      (by simp only [Voice.disableTakes, hphase]) (by simp only [State.hand, disabledVoice, hphase])
  | damping n su dp timer =>
    cases dp with
    | true =>
      exact disables_self (by simp only [Voice.disableTakes, hphase]) (by simp only [State.hand, disabledVoice, hphase])
    | false => exact disables_cancel hrun hphase
  | tuning c =>
    have hwaits : s.disableTuning v = (s.goDisabled v).leaveRun v := by
      simp only [State.disableTuning, hrun, Option.bind_none]
    change Disables s (s.disableTuning v) v
    rw [hwaits]
    exact disables_goDisabled hrun (by simp only [Voice.disableTakes, hphase])
      (by simp only [State.hand, disabledVoice, hphase])
  | offline r =>
    cases r with
    | fault =>
      exact disables_goDisabled hrun (by simp only [Voice.disableTakes, hphase])
        (by simp only [State.hand, disabledVoice, hphase])
    | disabled =>
      exact disables_self (by simp only [Voice.disableTakes, hphase]) (by simp only [State.hand, disabledVoice, hphase])

/-! ### O52 -/

theorem disableVoices_touches {s : State} (hrun : s.run = none) (mask : Nat) :
    SameButTaken s ((voicesOf mask).foldl State.disableVoice s)
      ∧ (∀ v, ((voicesOf mask).foldl State.disableVoice s).hand v =
          if v ∈ voicesOf mask then disabledVoice (s.global gDampTime) (s.hand v) else s.hand v)
      ∧ Given.notesTaken s ((voicesOf mask).foldl State.disableVoice s)
          fun v => (voicesOf mask).contains v && (s.voice v).disableTakes := by
  have hstep {u : State} (h : SameButTaken s u) (v : VoiceId) : Disables u (u.disableVoice v) v :=
    disableVoice_of_noRun (h.run.trans hrun) v
  refine foldl_takes (P := SameButTaken s) (fun u v h => ?_) (fun u v h => ?_) (fun u v w h hw => ?_) (fun u v h => ?_)
    (nodup_voicesOf mask) rfl <;> obtain ⟨hframe, hself, hother, htaken⟩ := hstep h v
  · exact h.trans hframe
  · rw [hself, h.global]
  · exact hother w hw
  · exact htaken

theorem SameButTaken.setLink_framed {s u : State} {l m : Link} {payload : List Byte}
    (h : SameButTaken (s.framed m payload) u) (x : LinkUnit) : u.setLink l x = { s with
      voices := (u.setLink l x).voices, perf := (u.setLink l x).perf, glides := (u.setLink l x).glides
      linkA := (u.setLink l x).linkA, linkB := (u.setLink l x).linkB } := by
  unfold SameButTaken at h
  rw [h]
  cases l <;> cases m <;> rfl

theorem voiceDisableService_field16 (l : Link) {mask : Nat} (hpos : 0 < mask) (hmask : mask < 65536) (s : State) :
    voiceDisableService l (field16 mask) s = ((voicesOf mask).foldl State.disableVoice s,
      { status := .ok, nothing := (voicesOf mask).all fun v => !(s.voice v).phase.disables }) := by
  change voiceDisableService l [byte (mask % 256), byte (mask / 256 % 256)] s = _
  simp only [voiceDisableService, u16_field16 hmask, if_neg (Nat.pos_iff_ne_zero.mp hpos)]

theorem notesTaken_of_framed {s t u : State} {l : Link} {payload : List Byte} {out : VoiceId → Bool}
    (h : Given.notesTaken (s.framed l payload) u out) (ht : ∀ p, t.perfOf p = u.perfOf p) : Given.notesTaken s t out := by
  intro p
  have hp := h p
  rw [← ht] at hp
  cases l <;> exact hp

theorem position_disabledVoice (damp : Nat) (x : Voice × Glide) : (disabledVoice damp x).2.position = x.2.position := by
  unfold disabledVoice
  split <;> rfl

/-- Settles O52: each named voice is disabled whole, in turn. -/
theorem voiceDisableTakesVoicesOut : Obligations.VoiceDisableTakesVoicesOut := by
  unfold Obligations.VoiceDisableTakesVoicesOut
  intro s l mask ⟨hready, hpos, hmask, hrun⟩
  obtain ⟨f, hf⟩ : ∃ f, f = s.framed l (field16 mask) := ⟨_, rfl⟩
  have hfrun : f.run = none := by rw [hf]; cases l <;> exact hrun
  have hfdamp : f.global gDampTime = s.global gDampTime := by rw [hf]; cases l <;> rfl
  have hfhand : ∀ v, f.hand v = s.hand v := fun v => by
    simp only [hf, State.hand, State.framed_voice_eq, State.glide_framed]
  obtain ⟨hframe, hget, htaken⟩ := disableVoices_touches hfrun mask
  obtain ⟨u, hu⟩ : ∃ u, u = (voicesOf mask).foldl State.disableVoice f := ⟨_, rfl⟩
  rw [← hu] at hframe hget htaken
  have hwork : voiceDisableService l (field16 mask) (s.framed l (field16 mask)) = (u,
      { status := .ok, nothing := (voicesOf mask).all fun v => !(s.voice v).phase.disables }) := by
    rw [voiceDisableService_field16 l hpos hmask, ← hf, ← hu]
    simp only [hf, State.framed_voice_eq]
  obtain ⟨t, hexec, ht, htook⟩ := exec_of_quiet hready (r := .voiceDisable) (payload := field16 mask) (by decide) hwork
    fun m => by rw [← hf]; exact hframe.link m
  have hhand : ∀ v, t.hand v =
      if mask.testBit v.val = true then disabledVoice (s.global gDampTime) (s.hand v) else s.hand v := fun v => by
    have htu : t.hand v = u.hand v := by rw [ht]; simp only [State.hand, State.setLink_voice, State.setLink_glide]
    rw [htu, hget, hfdamp, hfhand]
    exact if_congr mem_voicesOf rfl rfl
  refine ⟨t, hexec, ?_, fun v hv => ?_, fun v hv => ?_, fun v => ?_, ?_, ?_⟩
  · rw [ht]
    exact (hf ▸ hframe).setLink_framed _
  · have hself := congrArg Prod.fst ((hhand v).trans (if_pos hv))
    refine hself.trans ?_
    unfold disabledVoice State.hand
    cases hphase : (s.voice v).phase with
    | damping n su dp timer => cases dp <;> rfl
    | offline r => cases r <;> rfl
    | idle | gated _ _ _ | released _ _ _ | tuning _ => rfl
  · exact congrArg Prod.fst ((hhand v).trans (if_neg (by rw [hv]; simp)))
  · have hglide : t.glide v = (t.hand v).2 := rfl
    rw [hglide, hhand]
    split
    · exact position_disabledVoice _ _
    · rfl
  · refine notesTaken_of_framed (hf ▸ notesTaken_congr htaken fun v => ?_) fun p => by rw [ht, State.setLink_perfOf]
    have hin : (voicesOf mask).contains v = mask.testBit v.val := by
      rw [Bool.eq_iff_iff, List.contains_iff_mem]
      exact mem_voicesOf
    rw [hin, hf, State.framed_voice_eq]
    unfold Voice.disableTakes
    rfl
  · refine Eq.mp (congrArg (fun nothing => Took s t l 4 (okReply 0x41 false nothing [])) ?_) htook
    refine (all_voicesOf mask _).trans ?_
    refine congrArg (allVoices.all ·) (funext fun v => congrArg (!mask.testBit v.val || ·) ?_)
    unfold VoicePhase.disables
    cases hphase : (s.voice v).phase with
    | damping n su dp timer => cases dp <;> rfl
    | offline r => cases r <;> rfl
    | idle | gated _ _ _ | released _ _ _ | tuning _ => rfl

end Sys2Proof.Machine
end

section
/-! PROOFS. A run is created with its claims (R137 to R141, R151). -/

namespace Sys2Proof.Machine

/-! ### One voice is claimed (R29, R139, R140) -/

/-- The voice goes TUNING at once when it is claimed. -/
def Voice.entersTuning (x : Voice) : Bool :=
  match x.phase with
  | .idle | .offline .fault => true
  | _ => false

/-- A FOREGROUND claim takes the voice from its note. -/
def Voice.claimTakes (x : Voice) : Bool :=
  match x.phase with
  | .gated _ _ _ | .released _ _ _ | .damping _ _ false _ => true
  | _ => false

/-- A voice that a run of the mode claims, and its glide. -/
def claimedVoice (mode : RunMode) (damp : Nat) (x : Voice × Glide) : Voice × Glide :=
  match x.1.phase, mode with
  | .idle, _ | .offline .fault, _ => ({ x.1 with phase := .tuning 2048, claim := true }, { x.2 with target := none })
  | .gated n _ _, .foreground | .released n _ _, .foreground =>
    ({ x.1 with phase := .damping n none false damp, claim := true }, x.2)
  | .damping n _ false timer, .foreground => ({ x.1 with phase := .damping n none false timer, claim := true }, x.2)
  | .gated _ _ _, .background | .released _ _ _, .background | .damping _ _ false _, .background =>
    ({ x.1 with claim := true }, x.2)
  | _, _ => x

/-- The from-fault mark of a voice that enters TUNING. -/
def Voice.mark (v : VoiceId) (x : Voice) : List (VoiceId × Bool) := if x.entersTuning then [(v, x.phase.isOffline)] else []

/-- The voices, the performance records, the glides and the run alone differ. -/
def SameButClaimed (s t : State) : Prop :=
  t = { s with voices := t.voices, perf := t.perf, glides := t.glides, run := t.run }

theorem SameButClaimed.trans {s t u : State} (h : SameButClaimed s t) (k : SameButClaimed t u) : SameButClaimed s u := by
  unfold SameButClaimed at *
  exact k.trans (by rw [h])

theorem SameButClaimed.global {s t : State} (h : SameButClaimed s t) (i : GlobalId) : t.global i = s.global i := by
  unfold SameButClaimed at h
  rw [h]
  rfl

theorem SameButPlayed.claimed {s t : State} (h : SameButPlayed s t) : SameButClaimed s t := by
  unfold SameButPlayed at h
  unfold SameButClaimed
  exact h.trans (by rw [h])

/-- One claim of a run, by its mode. -/
def State.claimStep (mode : RunMode) (s : State) (v : VoiceId) : State :=
  match mode with
  | .background => s.claimVoice v
  | .foreground => s.claimForeground v

/-- What one claim does to its voice, to the others, to the run's marks and to the performance records. -/
def Claims (mode : RunMode) (s t : State) (v : VoiceId) : Prop :=
  SameButClaimed s t ∧ t.hand v = claimedVoice mode (s.global gDampTime) (s.hand v) ∧ (∀ w, w ≠ v → t.hand w = s.hand w)
    ∧ t.run = s.run.map (fun r => { r with marks := r.marks ++ (s.voice v).mark v })
    ∧ (mode = .background → t.perf = s.perf)
    ∧ Given.notesTaken s t fun w => w == v && ((s.voice v).claimTakes && mode == .foreground)

theorem run_unmarked {r? : Option Run} {marks : List (VoiceId × Bool)} (h : marks = []) :
    r? = r?.map fun r => { r with marks := r.marks ++ marks } := by
  subst h
  cases r? with
  | none => rfl
  | some r => simp

theorem State.hand_eq {s : State} {v : VoiceId} {x : Voice} {g : Glide} (hx : s.voice v = x) (hg : s.glide v = g) :
    s.hand v = (x, g) := Prod.ext hx hg

section
variable {mode : RunMode} {s : State} {v : VoiceId}

/-- A claimed voice that goes TUNING at once. -/
theorem claims_entering (henters : (s.voice v).entersTuning = true) :
    Claims mode s ((s.setClaim v true).enterTuning v (s.voice v).phase.isOffline) v := by
  have htakes : (s.voice v).claimTakes = false := by
    unfold Voice.entersTuning at henters
    unfold Voice.claimTakes
    cases hphase : (s.voice v).phase <;> simp_all
  refine ⟨rfl, ?_, fun w hw => ?_, ?_, fun _ => rfl, ?_⟩
  · have hvoice : ((s.setClaim v true).enterTuning v (s.voice v).phase.isOffline).voice v =
        { s.voice v with phase := .tuning 2048, claim := true } := by
      rw [voice_enterTuning_self, voice_setClaim_self]
    refine (State.hand_eq hvoice (glide_enterTuning_self v _ _)).trans ?_
    unfold Voice.entersTuning at henters
    unfold claimedVoice State.hand
    cases hphase : (s.voice v).phase with
    | idle => rfl
    | offline r =>
      cases r with
      | fault => rfl
      | disabled => simp [hphase] at henters
    | _ => simp [hphase] at henters
  · exact Prod.ext ((voice_enterTuning_ne hw _ _).trans (voice_setClaim_ne hw true s)) (glide_enterTuning_ne v hw _ _)
  · rw [Voice.mark, henters, if_pos rfl]
    rfl
  · exact notesTaken_congr (notesTaken_refl fun p => rfl) fun w => by rw [htakes, Bool.false_and, Bool.and_false]

/-- A claim that leaves the voice as it is, apart from the claim. -/
theorem claims_playing (hhand : claimedVoice mode (s.global gDampTime) (s.hand v) =
      ({ s.voice v with claim := true }, s.glide v))
    (htakes : ((s.voice v).claimTakes && mode == .foreground) = false) (hmark : (s.voice v).mark v = []) :
    Claims mode s (s.setClaim v true) v :=
  ⟨rfl, (State.hand_eq (voice_setClaim_self v true s) rfl).trans hhand.symm,
    fun w hw => Prod.ext (voice_setClaim_ne hw true s) rfl, run_unmarked hmark, fun _ => rfl,
    notesTaken_congr (notesTaken_refl fun p => rfl) fun w => by rw [htakes, Bool.and_false]⟩

/-- A voice that cannot be claimed. -/
theorem claims_self (hhand : claimedVoice mode (s.global gDampTime) (s.hand v) = s.hand v)
    (htakes : (s.voice v).claimTakes = false) (hmark : (s.voice v).mark v = []) : Claims mode s s v :=
  ⟨rfl, hhand.symm, fun _ _ => rfl, run_unmarked hmark, fun _ => rfl,
    notesTaken_congr (notesTaken_refl fun p => rfl) fun w => by rw [htakes, Bool.false_and, Bool.and_false]⟩

/-- A claim that takes the voice from its note. -/
theorem claims_taking {d : State} (hframe : SameButPlayed (s.setClaim v true) d) {ph : VoicePhase}
    (hself : d.voice v = { s.voice v with phase := ph, claim := true })
    (hother : ∀ w, w ≠ v → d.voice w = (s.setClaim v true).voice w)
    (htaken : Given.notesTaken (s.setClaim v true) d (· == v))
    (hhand : claimedVoice .foreground (s.global gDampTime) (s.hand v) =
      ({ s.voice v with phase := ph, claim := true }, s.glide v))
    (htakes : (s.voice v).claimTakes = true) (hmark : (s.voice v).mark v = []) : Claims .foreground s d v := by
  have hclaim : SameButPlayed s (s.setClaim v true) := rfl
  have hall := hclaim.trans hframe
  refine ⟨hall.claimed, (State.hand_eq hself (hall.glide v)).trans hhand.symm, fun w hw => ?_, ?_, nofun, ?_⟩
  · exact Prod.ext ((hother w hw).trans (voice_setClaim_ne hw true s)) (hall.glide w)
  · rw [hall.run]
    exact run_unmarked hmark
  · refine notesTaken_congr (notesTaken_trans (notesTaken_refl (s := s) (t := s.setClaim v true) fun p => rfl) htaken
      fun w _ => ⟨rfl, ?_⟩) fun w => by rw [htakes]; simp
    by_cases hw : w = v
    · rw [hw, voice_setClaim_self]
    · rw [voice_setClaim_ne hw]

end

theorem claimVoice_claims (s : State) (v : VoiceId) : Claims .background s (s.claimVoice v) v := by
  unfold State.claimVoice
  cases hphase : (s.voice v).phase with
  | idle =>
    have henters := claims_entering (mode := .background) (s := s) (v := v) (by simp only [Voice.entersTuning, hphase])
    rw [hphase] at henters
    exact henters
  | offline r =>
    cases r with
    | fault =>
      have henters := claims_entering (mode := .background) (s := s) (v := v) (by simp only [Voice.entersTuning, hphase])
      rw [hphase] at henters
      exact henters
    | disabled =>
      exact claims_self (by simp only [State.hand, claimedVoice, hphase]) (by simp only [Voice.claimTakes, hphase])
        (by simp [Voice.mark, Voice.entersTuning, hphase])
  | tuning c =>
    exact claims_self (by simp only [State.hand, claimedVoice, hphase]) (by simp only [Voice.claimTakes, hphase])
      (by simp [Voice.mark, Voice.entersTuning, hphase])
  | gated n sus pulse =>
    exact claims_playing (by simp only [State.hand, claimedVoice, hphase]) (Bool.and_false _)
      (by simp [Voice.mark, Voice.entersTuning, hphase])
  | released n start window =>
    exact claims_playing (by simp only [State.hand, claimedVoice, hphase]) (Bool.and_false _)
      (by simp [Voice.mark, Voice.entersTuning, hphase])
  | damping n su dp timer =>
    cases dp with
    | true =>
      exact claims_self (by simp only [State.hand, claimedVoice, hphase]) (by simp only [Voice.claimTakes, hphase])
        (by simp [Voice.mark, Voice.entersTuning, hphase])
    | false =>
      exact claims_playing (by simp only [State.hand, claimedVoice, hphase]) (Bool.and_false _)
        (by simp [Voice.mark, Voice.entersTuning, hphase])

theorem claimForeground_claims (s : State) (v : VoiceId) : Claims .foreground s (s.claimForeground v) v := by
  have hphase' : ((s.setClaim v true).voice v).phase = (s.voice v).phase := by rw [voice_setClaim_self]
  have hdamp {n : Note} (hnote : (s.voice v).phase.note? = some n) (hsu : (s.voice v).phase.successor? = none)
      (hhand : claimedVoice .foreground (s.global gDampTime) (s.hand v) =
        ({ s.voice v with phase := .damping n none false (s.global gDampTime), claim := true }, s.glide v))
      (htakes : (s.voice v).claimTakes = true) (hmark : (s.voice v).mark v = []) :
      Claims .foreground s ((s.setClaim v true).damp v none) v := by
    rw [← hphase'] at hnote hsu
    refine claims_taking (sameButPlayed_damp v _) ?_ (fun w hw => voice_damp_none_ne hw hnote) (notesTaken_damp hnote hsu)
      hhand htakes hmark
    rw [voice_damp_none_self hnote, voice_setClaim_self]
    rfl
  have hbackground (htakes : (s.voice v).claimTakes = false)
      (hmode : claimedVoice .foreground (s.global gDampTime) (s.hand v) =
        claimedVoice .background (s.global gDampTime) (s.hand v)) : Claims .foreground s (s.claimVoice v) v := by
    obtain ⟨hframe, hhand, hother, hrun, -, htaken⟩ := claimVoice_claims s v
    exact ⟨hframe, hhand.trans hmode.symm, hother, hrun, nofun,
      notesTaken_congr htaken fun w => by rw [htakes]; rfl⟩
  unfold State.claimForeground
  cases hphase : (s.voice v).phase with
  | gated n sus pulse =>
    exact hdamp (by rw [hphase]; rfl) (by rw [hphase]; rfl) (by simp only [State.hand, claimedVoice, hphase])
      (by simp only [Voice.claimTakes, hphase]) (by simp [Voice.mark, Voice.entersTuning, hphase])
  | released n start window =>
    exact hdamp (by rw [hphase]; rfl) (by rw [hphase]; rfl) (by simp only [State.hand, claimedVoice, hphase])
      (by simp only [Voice.claimTakes, hphase]) (by simp [Voice.mark, Voice.entersTuning, hphase])
  | damping n su dp timer =>
    cases dp with
    | true =>
      exact hbackground (by simp only [Voice.claimTakes, hphase]) (by simp only [State.hand, claimedVoice, hphase])
    | false =>
      refine claims_taking (ph := .damping n none false timer) (sameButPlayed_cancelAndLeave v _) ?_
        (fun w hw => voice_cancelAndLeave_ne hw _) (notesTaken_cancelAndLeave v _)
        (by simp only [State.hand, claimedVoice, hphase]) (by simp only [Voice.claimTakes, hphase])
        (by simp [Voice.mark, Voice.entersTuning, hphase])
      rw [voice_cancelAndLeave_self, voice_setClaim_self]
      generalize s.voice v = x at hphase ⊢
      obtain ⟨phase, part, serial, stamp, claim, clamped⟩ := x
      subst hphase
      cases su <;> rfl
  | idle | tuning _ =>
    exact hbackground (by simp only [Voice.claimTakes, hphase]) (by simp only [State.hand, claimedVoice, hphase])
  | offline r =>
    cases r <;>
      exact hbackground (by simp only [Voice.claimTakes, hphase]) (by simp only [State.hand, claimedVoice, hphase])

theorem claimStep_claims (mode : RunMode) (s : State) (v : VoiceId) : Claims mode s (s.claimStep mode v) v := by
  cases mode
  · exact claimVoice_claims s v
  · exact claimForeground_claims s v

/-! ### Several claims in turn (R139, R140) -/

theorem mark_congr {x y : Voice} (h : x = y) (v : VoiceId) : x.mark v = y.mark v := congrArg _ h

/-- What the claims of a run leave. -/
theorem claimAll_touches (mode : RunMode) {vs : List VoiceId} (hnodup : vs.Nodup) (s : State) :
    SameButClaimed s (vs.foldl (State.claimStep mode) s)
      ∧ (∀ v, (vs.foldl (State.claimStep mode) s).hand v =
          if v ∈ vs then claimedVoice mode (s.global gDampTime) (s.hand v) else s.hand v)
      ∧ Given.notesTaken s (vs.foldl (State.claimStep mode) s)
          (fun v => vs.contains v && ((s.voice v).claimTakes && mode == .foreground))
      ∧ (vs.foldl (State.claimStep mode) s).run =
          s.run.map (fun r => { r with marks := r.marks ++ vs.flatMap fun v => (s.voice v).mark v })
      ∧ (mode = .background → (vs.foldl (State.claimStep mode) s).perf = s.perf) := by
  have hfold := foldl_takes (step := State.claimStep mode) (f := claimedVoice mode (s.global gDampTime))
    (out := fun x => x.claimTakes && mode == .foreground) (P := SameButClaimed s)
    (fun u v h => h.trans (claimStep_claims mode u v).1)
    (fun u v h => by
      obtain ⟨-, hself, -⟩ := claimStep_claims mode u v
      rw [hself, h.global])
    (fun u v w _ hw => by
      obtain ⟨-, -, hother, -⟩ := claimStep_claims mode u v
      exact hother w hw)
    (fun u v _ => by
      obtain ⟨-, -, -, -, -, htaken⟩ := claimStep_claims mode u v
      exact htaken) hnodup (s := s) rfl
  obtain ⟨hframe, hhand, htaken⟩ := hfold
  refine ⟨hframe, hhand, htaken, ?_⟩
  clear hframe hhand htaken
  induction vs generalizing s with
  | nil => exact ⟨run_unmarked rfl, fun _ => rfl⟩
  | cons v vs ih =>
    obtain ⟨hv, hvs⟩ := List.nodup_cons.mp hnodup
    obtain ⟨-, -, hother, hrun, hperf, -⟩ := claimStep_claims mode s v
    obtain ⟨ihrun, ihperf⟩ := ih hvs (s.claimStep mode v)
    refine ⟨ihrun.trans ?_, fun hmode => (ihperf hmode).trans (hperf hmode)⟩
    have hmarks : (vs.flatMap fun w => ((s.claimStep mode v).voice w).mark w) = vs.flatMap fun w => (s.voice w).mark w :=
      List.flatMap_congr fun w hw => mark_congr (congrArg Prod.fst (hother w fun heq => hv (heq ▸ hw))) w
    rw [hmarks, hrun]
    cases s.run with
    | none => rfl
    | some r => simp [List.append_assoc]

end Sys2Proof.Machine
end

section
/-! PROOFS. TUNE_START and the retune timer create a run (R137, R151). -/

namespace Sys2Proof.Machine

/-! ### A run is created (R137, R139 to R141) -/

/-- The run as it is created, before its claims. -/
def Run.created (mode : RunMode) (requester : Option Link) (queue : List VoiceId) : Run :=
  { mode, requester, queue, current := none, marks := [], passCount := 0, failCount := 0 }

/-- The voices that a new run claims. -/
def claimsOf (mode : RunMode) (queue : List VoiceId) : List VoiceId :=
  match mode with
  | .background => queue.take 1
  | .foreground => queue

theorem createRun_eq {mode : RunMode} {requester : Option Link} {queue : List VoiceId} (hne : queue ≠ []) (s : State) :
    s.createRun mode requester queue = State.takeNext
      ((claimsOf mode queue).foldl (State.claimStep mode) { s with run := some (Run.created mode requester queue) }) := by
  cases queue with
  | nil => exact absurd rfl hne
  | cons h rest =>
    cases mode with
    | foreground => rfl
    | background =>
      exact runContinue_of_background (s := { s with run := some (Run.created .background requester (h :: rest)) }) rfl rfl
        rfl rfl

theorem flatMap_mark (s : State) (vs : List VoiceId) : (vs.flatMap fun v => (s.voice v).mark v) =
    (vs.filter fun v => (s.voice v).entersTuning).map fun v => (v, (s.voice v).phase.isOffline) := by
  induction vs with
  | nil => rfl
  | cons v vs ih =>
    rw [List.flatMap_cons, ih, Voice.mark, List.filter_cons]
    split <;> rfl

/-- A voice that a new run may queue, and that is not TUNING. -/
def Voice.queueable (x : Voice) : Prop := x.entersTuning = true ∨ x.claimTakes = true

theorem isTuning_claimedVoice {x : Voice} (h : x.queueable) (mode : RunMode) (damp : Nat) (g : Glide) :
    (claimedVoice mode damp (x, g)).1.phase.isTuning = x.entersTuning := by
  unfold Voice.queueable at h
  unfold claimedVoice Voice.entersTuning
  unfold Voice.entersTuning Voice.claimTakes at h
  cases hphase : x.phase with
  | damping n su dp timer => cases dp <;> cases mode <;> simp_all [VoicePhase.isTuning]
  | offline r => cases r <;> cases mode <;> simp_all [VoicePhase.isTuning]
  | idle | gated _ _ _ | released _ _ _ | tuning _ => cases mode <;> simp_all [VoicePhase.isTuning]

theorem voice_of_claimedVoice {x : Voice} (h : x.queueable) (mode : RunMode) (damp : Nat) (g : Glide) :
    (claimedVoice mode damp (x, g)).1 =
      (match x.phase, mode with
        | .idle, _ | .offline .fault, _ => { x with phase := .tuning 2048, claim := true }
        | .gated n _ _, .foreground | .released n _ _, .foreground =>
          { x with phase := .damping n none false damp, claim := true }
        | .damping n _ dp timer, .foreground => { x with phase := .damping n none dp timer, claim := true }
        | _, _ => { x with claim := true })
      ∧ (claimedVoice mode damp (x, g)).2 = if x.entersTuning then { g with target := none } else g := by
  unfold Voice.queueable at h
  unfold claimedVoice Voice.entersTuning
  unfold Voice.entersTuning Voice.claimTakes at h
  cases hphase : x.phase with
  | damping n su dp timer => cases dp <;> cases mode <;> simp_all
  | offline r => cases r <;> cases mode <;> simp_all
  | idle | gated _ _ _ | released _ _ _ | tuning _ => cases mode <;> simp_all

theorem phase_claimedVoice {x : Voice} (h : x.entersTuning = true) (mode : RunMode) (damp : Nat) (g : Glide) :
    (claimedVoice mode damp (x, g)).1.phase = .tuning 2048 := by
  unfold claimedVoice
  unfold Voice.entersTuning at h
  cases hphase : x.phase with
  | idle => rfl
  | offline r =>
    cases r with
    | fault => rfl
    | disabled => simp [hphase] at h
  | _ => simp [hphase] at h

theorem claimTakes_of_queueable {x : Voice} (h : x.queueable) : x.claimTakes = !x.entersTuning := by
  unfold Voice.queueable Voice.entersTuning Voice.claimTakes at h
  unfold Voice.entersTuning Voice.claimTakes
  cases hphase : x.phase with
  | damping n su dp timer => cases dp <;> simp_all
  | offline r => cases r <;> simp_all
  | idle | gated _ _ _ | released _ _ _ | tuning _ => simp_all

theorem claimsOf_subset {mode : RunMode} {queue : List VoiceId} : claimsOf mode queue ⊆ queue := by
  cases mode
  · exact List.take_subset 1 queue
  · exact List.Subset.refl queue

theorem head_mem_claimsOf (mode : RunMode) (h : VoiceId) (rest : List VoiceId) : h ∈ claimsOf mode (h :: rest) := by
  cases mode <;> exact List.mem_cons_self

theorem nodup_claimsOf (mode : RunMode) {queue : List VoiceId} (h : queue.Nodup) : (claimsOf mode queue).Nodup := by
  cases mode
  · exact h.sublist (List.take_sublist 1 queue)
  · exact h

/-- What the run's begin leaves of the head of its queue: it is measured when it tunes. -/
def HeadTaken (u t : State) (r : Run) (enters : Bool) (h : VoiceId) (rest : List VoiceId) : Prop :=
  (∀ v, t.voice v = u.voice v) ∧ t.glides = u.glides ∧ t.perf = u.perf
    ∧ t.run = some { r with
        queue := if enters then rest else h :: rest
        current := if enters then some { voice := h, second := false, anchor := 0, aResult := none } else none }
    ∧ (if enters then Given.measuresFirst t h
      else t.measurement = u.measurement ∧ t.fsel = u.fsel ∧ t.candidate = u.candidate)
    ∧ t = { u with
        voices := t.voices, run := t.run, measurement := t.measurement, fsel := t.fsel, candidate := t.candidate }

theorem headTaken_takeNext {u : State} {r : Run} (hrun : u.run = some r) (hcurrent : r.current = none) {h : VoiceId}
    {rest : List VoiceId} (hqueue : r.queue = h :: rest) {enters : Bool}
    (htuning : enters = true → (u.voice h).phase = .tuning 2048)
    (hother : enters = false → (u.voice h).phase.isTuning = false) : HeadTaken u u.takeNext r enters h rest := by
  cases enters with
  | false =>
    rw [takeNext_of_not_tuning hrun hcurrent hqueue (hother rfl)]
    refine ⟨fun v => rfl, rfl, rfl, ?_, ⟨rfl, rfl, rfl⟩, rfl⟩
    rw [hrun, if_neg Bool.false_ne_true, if_neg Bool.false_ne_true, ← hqueue, ← hcurrent]
  | true =>
    have hphase := htuning rfl
    rw [takeNext_of_tuning hrun hcurrent hqueue (by rw [hphase]; rfl)]
    refine ⟨fun v => ?_, rfl, rfl, rfl, ⟨rfl, rfl, rfl⟩, rfl⟩
    by_cases hv : v = h
    · rw [hv, voice_openOscillator_self, ← hphase]
      rfl
    · rw [voice_openOscillator_ne hv]
      rfl

/-- A run over voices that can be queued, none of which is TUNING. -/
theorem runCreated_createRun {s : State} {mode : RunMode} {requester : Option Link} {queue : List VoiceId}
    (hnodup : queue.Nodup) (hne : queue ≠ []) (hqueueable : ∀ v ∈ queue, (s.voice v).queueable) :
    Given.runCreated s (s.createRun mode requester queue) mode requester queue
      ∧ (s.createRun mode requester queue).retune = s.retune
      ∧ ∀ m, (s.createRun mode requester queue).link m = s.link m := by
  obtain ⟨h, rest, rfl⟩ := List.exists_cons_of_ne_nil hne
  obtain ⟨b, hb⟩ : ∃ b, b = { s with run := some (Run.created mode requester (h :: rest)) } := ⟨_, rfl⟩
  obtain ⟨u, hu⟩ : ∃ u, u = (claimsOf mode (h :: rest)).foldl (State.claimStep mode) b := ⟨_, rfl⟩
  obtain ⟨huframe, huhand, hutaken, hurun, huperf⟩ := claimAll_touches mode (nodup_claimsOf mode hnodup) b
  rw [← hu] at huframe huhand hutaken hurun huperf
  have hbhand : ∀ v, b.hand v = s.hand v := fun v => by rw [hb]; rfl
  have hbvoice : ∀ v, b.voice v = s.voice v := fun v => congrArg Prod.fst (hbhand v)
  obtain ⟨marks, hmarks⟩ : ∃ marks, marks = ((claimsOf mode (h :: rest)).filter fun v => (s.voice v).entersTuning).map
    fun v => (v, (s.voice v).phase.isOffline) := ⟨_, rfl⟩
  have hurun' : u.run = some { Run.created mode requester (h :: rest) with marks := marks } := by
    rw [hurun, flatMap_mark, hmarks]
    simp only [hbvoice]
    rw [hb]
    rfl
  have hhead : u.hand h = claimedVoice mode (b.global gDampTime) (s.voice h, s.glide h) :=
    (huhand h).trans ((if_pos (head_mem_claimsOf mode h rest)).trans (congrArg _ (hbhand h)))
  have hheadvoice : u.voice h = (claimedVoice mode (b.global gDampTime) (s.voice h, s.glide h)).1 :=
    congrArg Prod.fst hhead
  obtain ⟨htvoice, htglides, htperf, htrun, hthead, htframe⟩ := headTaken_takeNext hurun' rfl rfl
    (enters := (s.voice h).entersTuning) (fun henters => by rw [hheadvoice]; exact phase_claimedVoice henters _ _ _)
    (fun henters => by rw [hheadvoice, isTuning_claimedVoice (hqueueable h List.mem_cons_self), henters])
  rw [createRun_eq hne, ← hb, ← hu]
  generalize u.takeNext = t at *
  have htglide : ∀ v, t.glide v = u.glide v := fun v => congrArg (fun gs : Vector Glide 16 => gs[v.val]) htglides
  have hthand : ∀ v, t.hand v = u.hand v := fun v => State.hand_eq (htvoice v) (htglide v)
  have htperfOf : ∀ p, t.perfOf p = u.perfOf p := fun p => congrArg (fun ps : Vector Perf 4 => ps[p.val]) htperf
  unfold SameButClaimed at huframe
  refine ⟨?_, by rw [htframe, huframe, hb], fun m => by rw [htframe, huframe, hb]; cases m <;> rfl⟩
  unfold Given.runCreated
  intro enters claims first
  have henters : enters = fun v => (s.voice v).entersTuning := by
    funext v
    unfold enters Voice.entersTuning
    cases (s.voice v).phase with
    | offline r => cases r <;> rfl
    | _ => rfl
  have hclaims : claims = claimsOf mode (h :: rest) := by cases mode <;> rfl
  have hfirst : first = if (s.voice h).entersTuning then some h else none := by
    simp only [first, henters]
    exact Option.filter_some
  clear_value enters claims first
  subst henters hclaims hfirst
  have hdamp : b.global gDampTime = s.global gDampTime := by rw [hb]; rfl
  refine ⟨?_, ?_, fun v hv => ?_, fun v hv => ?_, fun hmode => ?_, fun hmode => ?_, ?_⟩
  · rw [htframe, huframe, hb]
  · rw [htrun, hmarks]
    cases (s.voice h).entersTuning <;> rfl
  · have hclaimed : t.hand v = claimedVoice mode (s.global gDampTime) (s.voice v, s.glide v) := by
      rw [hthand, huhand, if_pos hv, hdamp, hbhand]
      rfl
    obtain ⟨hvoice, hglide⟩ := voice_of_claimedVoice (hqueueable v (claimsOf_subset hv)) mode (s.global gDampTime) (s.glide v)
    refine ⟨(congrArg Prod.fst hclaimed).trans (hvoice.trans ?_), (congrArg Prod.snd hclaimed).trans hglide⟩
    generalize s.voice v = x
    obtain ⟨phase, part, serial, stamp, claim, clamped⟩ := x
    cases phase with
    | offline r => cases r <;> cases mode <;> rfl
    | idle | gated _ _ _ | released _ _ _ | tuning _ | damping _ _ _ _ => cases mode <;> rfl
  · have hkept : t.hand v = s.hand v := by rw [hthand, huhand, if_neg hv, hbhand]
    exact ⟨congrArg Prod.fst hkept, congrArg Prod.snd hkept⟩
  · rw [htperf, huperf hmode, hb]
  · subst hmode
    have htaken : Given.notesTaken s u fun v => (h :: rest).contains v && !(s.voice v).entersTuning := by
      rw [hb] at hutaken
      refine notesTaken_congr (s := s) (out := fun v => (h :: rest).contains v && ((s.voice v).claimTakes && true)) hutaken
        fun v => ?_
      by_cases hv : v ∈ h :: rest
      · rw [claimTakes_of_queueable (hqueueable v hv), Bool.and_true]
      · have hout : (h :: rest).contains v = false := Bool.eq_false_iff.mpr fun hin => hv (List.contains_iff_mem.mp hin)
        rw [hout]
        rfl
    intro p
    have hp := htaken p
    rw [← htperfOf] at hp
    exact hp
  · cases henters : (s.voice h).entersTuning
    · rw [henters, if_neg Bool.false_ne_true] at hthead
      obtain ⟨hm, hf, hc⟩ := hthead
      rw [if_neg Bool.false_ne_true]
      refine ⟨?_, ?_, ?_⟩
      · rw [hm, huframe, hb]
      · rw [hf, huframe, hb]
      · rw [hc, huframe, hb]
    · rw [henters, if_pos rfl] at hthead
      rw [if_pos rfl]
      exact hthead

/-! ### O43 -/

theorem tuneQueue_eq (s : State) (mask : Nat) : s.tuneQueue mask = Given.tuneQueue s mask := by
  refine List.filter_congr fun v _ => congrArg (mask.testBit v.val && ·) ?_
  unfold VoicePhase.tunable
  cases (s.voice v).phase with
  | offline r => cases r <;> rfl
  | damping n su dp timer => cases dp <;> rfl
  | idle | gated _ _ _ | released _ _ _ | tuning _ => rfl

theorem queueable_of_mem_tuneQueue {s : State} {mask : Nat}
    (h : ∀ v : VoiceId, mask.testBit v.val = true → (s.voice v).phase.isTuning = false) {v : VoiceId}
    (hv : v ∈ s.tuneQueue mask) : (s.voice v).queueable := by
  obtain ⟨hbit, htunable⟩ := Bool.and_eq_true_iff.mp (List.mem_filter.mp hv).2
  have htuning := h v hbit
  unfold Voice.queueable Voice.entersTuning Voice.claimTakes
  cases hphase : (s.voice v).phase with
  | offline r => cases r <;> simp_all [VoicePhase.tunable]
  | damping n su dp timer => cases dp <;> simp_all [VoicePhase.tunable]
  | tuning c => simp_all [VoicePhase.isTuning]
  | idle | gated _ _ _ | released _ _ _ => simp

theorem nodup_tuneQueue (s : State) (mask : Nat) : (s.tuneQueue mask).Nodup := nodup_allVoices.filter _

/-- A run that is created on other links is created. -/
theorem runCreated_of_links {s f u : State} (hf : SameButLinks s f) {mode : RunMode} {requester : Option Link}
    {queue : List VoiceId} (h : Given.runCreated f u mode requester queue) (a b : LinkUnit) (retune : Option Nat) :
    Given.runCreated s { u with linkA := a, linkB := b, retune := retune } mode requester queue := by
  obtain ⟨a', b', rfl⟩ : ∃ a b, f = { s with linkA := a, linkB := b } := ⟨_, _, hf⟩
  obtain ⟨hframe, hrest⟩ := h
  refine ⟨?_, hrest⟩
  rw [hframe]

theorem tuneStartService_field16 (l : Link) {mask : Nat} (hpos : 0 < mask) (hmask : mask < 65536) (mode : RunMode)
    {s : State} (hrun : s.run = none) : tuneStartService l (field16 mask ++ [byte mode.code]) s =
      if s.tuneQueue mask = [] then
        (s, { status := .ok, nothing := true, data := [byte mode.code] ++ le16 (queueMask (s.tuneQueue mask)) })
      else (s.createRun mode (some l) (s.tuneQueue mask),
        { status := .ok, data := [byte mode.code] ++ le16 (queueMask (s.tuneQueue mask)) }) := by
  have hflag : flag? (byte mode.code) = some (mode == .foreground) := by cases mode <;> decide
  change tuneStartService l [byte (mask % 256), byte (mask / 256 % 256), byte mode.code] s = _
  cases mode <;>
    simp [tuneStartService, u16_field16 hmask, hflag, Nat.pos_iff_ne_zero.mp hpos, hrun]

theorem tuneStartService_busy (l : Link) {mask : Nat} (hpos : 0 < mask) (hmask : mask < 65536) (foreground : Bool)
    {s : State} (hrun : s.run.isSome = true) : tuneStartService l (field16 mask ++ [byte (bit foreground)]) s =
      s.refused .tuneBusy := by
  change tuneStartService l [byte (mask % 256), byte (mask / 256 % 256), byte (bit foreground)] s = _
  simp [tuneStartService, u16_field16 hmask, flag?_byte, Nat.pos_iff_ne_zero.mp hpos, hrun]

/-- A TUNE_START while no run exists. -/
theorem exec_tuneStart {s : State} {l : Link} {mask : Nat} (hready : s.ready l) (hrun : s.run = none) (hpos : 0 < mask)
    (hmask : mask < 65536) (htuning : ∀ v : VoiceId, mask.testBit v.val = true → (s.voice v).phase.isTuning = false)
    (mode : RunMode) : ∃ t, exec (.tuneStart l (field16 mask ++ [byte mode.code])) s = .next t
      ∧ Took s t l 5 (okReply 0x30 false (decide (Given.tuneQueue s mask = []))
          ([byte mode.code] ++ le16 (Given.voiceMask (Given.tuneQueue s mask))))
      ∧ (Given.tuneQueue s mask = [] → SameButLinks s t)
      ∧ (Given.tuneQueue s mask ≠ [] →
          Given.runCreated s t mode (some l) (Given.tuneQueue s mask) ∧ t.retune = s.retune) := by
  rw [← tuneQueue_eq]
  obtain ⟨f, hf⟩ : ∃ f, f = s.framed l (field16 mask ++ [byte mode.code]) := ⟨_, rfl⟩
  have hframe : SameButLinks s f := by rw [hf]; cases l <;> rfl
  have hfrun : f.run = none := by rw [hf]; cases l <;> exact hrun
  have hfvoice : ∀ v, f.voice v = s.voice v := fun v => by rw [hf, State.framed_voice_eq]
  have hfqueue : f.tuneQueue mask = s.tuneQueue mask :=
    List.filter_congr fun v _ => by rw [hfvoice]
  have hserves := tuneStartService_field16 l hpos hmask mode hfrun
  rw [hfqueue] at hserves
  by_cases hempty : s.tuneQueue mask = []
  · rw [if_pos hempty, queueMask_eq] at hserves
    rw [hf] at hserves
    obtain ⟨t, hexec, ht, htook⟩ := exec_of_quiet hready (r := .tuneStart)
      (payload := field16 mask ++ [byte mode.code]) (by decide) hserves fun m => rfl
    refine ⟨t, hexec, ?_, fun _ => ?_, fun h => absurd hempty h⟩
    · rw [decide_eq_true hempty]
      exact htook
    · unfold SameButLinks at hframe
      rw [ht, ← hf, hframe]
      cases l <;> rfl
  · rw [if_neg hempty, queueMask_eq] at hserves
    obtain ⟨hcreated, hretune, hlinks⟩ := runCreated_createRun (s := f) (mode := mode) (requester := some l)
      (nodup_tuneQueue s mask) hempty fun v hv => by rw [hfvoice]; exact queueable_of_mem_tuneQueue htuning hv
    obtain ⟨u, hu⟩ : ∃ u, u = f.createRun mode (some l) (s.tuneQueue mask) := ⟨_, rfl⟩
    rw [← hu] at hserves hcreated hretune hlinks
    rw [hf] at hserves
    obtain ⟨t, hexec, ht, htook⟩ := exec_of_quiet hready (r := .tuneStart)
      (payload := field16 mask ++ [byte mode.code]) (by decide) hserves fun m => by rw [hlinks, hf]
    refine ⟨t, hexec, ?_, fun h => absurd h hempty, fun _ => ⟨?_, ?_⟩⟩
    · rw [decide_eq_false hempty]
      exact htook
    · have hlink : t = { u with linkA := t.linkA, linkB := t.linkB, retune := u.retune } := by
        rw [ht]
        cases l <;> rfl
      rw [hlink]
      exact runCreated_of_links hframe hcreated _ _ _
    · rw [ht, State.setLink_retune, hretune]
      unfold SameButLinks at hframe
      rw [hframe]

/-- Settles O43: the queue, and the run that is created over it. -/
theorem runsAreCreated : Obligations.RunsAreCreated := by
  unfold Obligations.RunsAreCreated
  refine ⟨fun s l mask => ?_, fun s => ?_⟩
  · intro queue
    refine ⟨fun h mode => ?_, fun h foreground => ?_⟩
    · obtain ⟨hready, hrun, hpos, hmask, htuning⟩ := h
      intro command reply
      exact exec_tuneStart hready hrun hpos hmask htuning mode
    · obtain ⟨hready, hrun, hpos, hmask⟩ := h
      have hrefused : Request.tuneStart.service l (field16 mask ++ [byte (bit foreground)])
          (s.framed l (field16 mask ++ [byte (bit foreground)])) = (s.framed l _).refused .tuneBusy :=
        tuneStartService_busy l hpos hmask foreground (by cases l <;> exact hrun)
      obtain ⟨hsame, htook⟩ := refused_takes (s := s) (l := l) (n := 5) (rep := refusal 0x30 .tuneBusy)
      exact ⟨_, exec_refused hready hrefused, hsame, htook⟩
  · intro timer queue
    refine ⟨fun h => ?_, fun h => ?_⟩
    · obtain ⟨hretune, hrun⟩ := h
      obtain ⟨minutes, hminutes⟩ := Option.isSome_iff_exists.mp hretune
      obtain ⟨r, hr⟩ := Option.isSome_iff_exists.mp hrun
      change execRetuneTimerExpiry s = _
      simp [execRetuneTimerExpiry, hminutes, hr, timer]
    · obtain ⟨hretune, hrun, -, -, htuning⟩ := h
      obtain ⟨minutes, hminutes⟩ := Option.isSome_iff_exists.mp hretune
      have hqueue : s.tuneQueue 65535 = queue := tuneQueue_eq s 65535
      by_cases hempty : queue = []
      · have hexec : exec .retuneTimerExpiry s = .next { s with retune := timer } := by
          change execRetuneTimerExpiry s = _
          simp [execRetuneTimerExpiry, hminutes, hqueue, hempty, timer]
        exact ⟨_, hexec, rfl, fun _ => rfl, fun h => absurd hempty h⟩
      · obtain ⟨hcreated, -, hlinks⟩ := runCreated_createRun (s := s) (mode := .background) (requester := none)
          (hqueue ▸ nodup_tuneQueue s 65535) hempty fun v hv => queueable_of_mem_tuneQueue htuning (hqueue ▸ hv)
        obtain ⟨u, hu⟩ : ∃ u, u = s.createRun .background none queue := ⟨_, rfl⟩
        rw [← hu] at hcreated hlinks
        have hglobal : u.global gRetuneInterval = s.global gRetuneInterval := by
          obtain ⟨hframe, -⟩ := hcreated
          rw [hframe]
          rfl
        have hexec : exec .retuneTimerExpiry s = .next { u with retune := timer } := by
          change execRetuneTimerExpiry s = _
          simp only [execRetuneTimerExpiry, hminutes, hqueue, hrun, Option.isNone_none, true_and, ne_eq, hempty,
            not_false_eq_true, if_true, ← hu, hglobal, timer]
        refine ⟨_, hexec, rfl, fun h => absurd h hempty, fun _ => ⟨?_, hlinks .a, hlinks .b⟩⟩
        exact runCreated_of_links (f := s) rfl hcreated u.linkA u.linkB timer

end Sys2Proof.Machine
end

section
/-! PROOFS. A run is interrupted: TUNE_ABORT and VOICE_DISABLE while a voice is measured, and VOICE_DISABLE of a queued
voice (R147, R148). -/

namespace Sys2Proof.Machine

/-! ### The measured voice is given up -/

theorem handedBack_abortCurrent (c : Current) (s : State) (v : VoiceId) (fault : Bool) :
    Given.handedBack (s.abortCurrent c) v fault = Given.handedBack s v fault := by
  rw [abortCurrent_frame]
  rfl

theorem glide_abortCurrent (c : Current) (s : State) (v : VoiceId) : (s.abortCurrent c).glide v = s.glide v := by
  rw [abortCurrent_frame]
  rfl

theorem timestamp_abortCurrent (c : Current) (s : State) : (s.abortCurrent c).timestamp = s.timestamp := by
  rw [abortCurrent_frame]

theorem isTuning_handedBack (s : State) (v : VoiceId) (fault : Bool) :
    (Given.handedBack s v fault).phase.isTuning = false := by
  cases fault <;> rfl

theorem position_handBack_self (v : VoiceId) (fault : Bool) (s : State) :
    ((s.handBack v fault).glide v).position = (s.glide v).position := by
  cases fault
  · show (State.glide ((s.setClaim v false).goIdle v) v).position = _
    rw [glide_goIdle_self]
    rfl
  · rfl

/-- Voices, glides, links and the tune engine's records alone differ, and nothing is measured. -/
def SameButStopped (s t : State) : Prop :=
  t = { s with
    voices := t.voices, measurement := none, periodCounter := t.periodCounter, freeIndex := t.freeIndex, run := t.run
    candidate := none, calibration := t.calibration, glides := t.glides, linkA := t.linkA, linkB := t.linkB }

/-- The measured voice v is given up: its oscillator takes ABORTED, and no voice but v keeps another glide. -/
def GivenUp (s t : State) (c : Current) : Prop :=
  SameButStopped s t
    ∧ t.cal (oscOf c.voice c.second) = { s.cal (oscOf c.voice c.second) with lastResult := .aborted }
    ∧ (∀ x, x ≠ oscOf c.voice c.second → t.cal x = s.cal x) ∧ (∀ w, w ≠ c.voice → t.glide w = s.glide w)
    ∧ (t.glide c.voice).position = (s.glide c.voice).position

theorem SameButStopped.timestamp {s t : State} (h : SameButStopped s t) : t.timestamp = s.timestamp := by
  unfold SameButStopped at h
  rw [h]

theorem SameButStopped.deferred {s t : State} (h : SameButStopped s t) : t.deferred = s.deferred := by
  unfold SameButStopped at h
  rw [h]

/-- What is given up stays so when voices keep their glides, and links and run alone change besides. -/
theorem GivenUp.trans {s t u : State} {c : Current} (h : GivenUp s t c)
    (k : u = { t with voices := u.voices, run := u.run, glides := u.glides, linkA := u.linkA, linkB := u.linkB })
    (hglide : ∀ w, w ≠ c.voice → u.glide w = t.glide w)
    (hposition : (u.glide c.voice).position = (t.glide c.voice).position) : GivenUp s u c := by
  obtain ⟨hframe, hself, hothers, hglides, hkeeps⟩ := h
  have hcal : ∀ x, u.cal x = t.cal x := fun x => by rw [k]; rfl
  refine ⟨by unfold SameButStopped at *; rw [k, hframe], (hcal _).trans hself, fun x hx => (hcal x).trans (hothers x hx),
    fun w hw => (hglide w hw).trans (hglides w hw), hposition.trans hkeeps⟩

theorem givenUp_abortCurrent (c : Current) (s : State) : GivenUp s (s.abortCurrent c) c := by
  refine ⟨(abortCurrent_frame c s).trans ?_, cal_abortCurrent_self c s, fun x hx => cal_abortCurrent_ne c s hx,
    fun w _ => glide_abortCurrent c s w, congrArg Glide.position (glide_abortCurrent c s c.voice)⟩
  have hrun : (s.abortCurrent c).run = s.run := by rw [abortCurrent_frame]
  have hvoices : (s.abortCurrent c).voices = s.voices := by rw [abortCurrent_frame]
  have hglides : (s.abortCurrent c).glides = s.glides := by rw [abortCurrent_frame]
  have hlinkA : (s.abortCurrent c).linkA = s.linkA := by rw [abortCurrent_frame]
  have hlinkB : (s.abortCurrent c).linkB = s.linkB := by rw [abortCurrent_frame]
  rw [hrun, hvoices, hglides, hlinkA, hlinkB]

/-- The notices of an interrupted measurement, before the run goes on or ends. -/
def State.afterAbort (s : State) (c : Current) (fault noSignal : Bool) : State :=
  ((s.abortCurrent c).handBack c.voice fault).postEnd c.voice fault noSignal false c.resultA .aborted

theorem givenUp_afterAbort (s : State) (c : Current) (fault noSignal : Bool) :
    GivenUp s (s.afterAbort c fault noSignal) c := by
  have hhand := sameButHand_handBack c.voice fault (s.abortCurrent c)
  have hposts := sameButLinks_postEnd c.voice fault noSignal false c.resultA .aborted
    ((s.abortCurrent c).handBack c.voice fault)
  have hglide : ∀ w, (s.afterAbort c fault noSignal).glide w = ((s.abortCurrent c).handBack c.voice fault).glide w :=
    fun w => by
      unfold SameButLinks at hposts
      rw [State.afterAbort, hposts]
      rfl
  refine (givenUp_abortCurrent c s).trans ?_ (fun w hw => ?_) ?_
  · unfold SameButLinks at hposts
    unfold SameButHand at hhand
    rw [State.afterAbort, hposts, hhand]
  · rw [hglide, State.glide_handBack_ne hw]
  · rw [hglide, position_handBack_self]

theorem voice_afterAbort (s : State) (c : Current) (fault noSignal : Bool) (w : VoiceId) :
    (s.afterAbort c fault noSignal).voice w = if w = c.voice then Given.handedBack s c.voice fault else s.voice w := by
  have hposts := sameButLinks_postEnd c.voice fault noSignal false c.resultA .aborted
    ((s.abortCurrent c).handBack c.voice fault)
  have hvoice : (s.afterAbort c fault noSignal).voice w = ((s.abortCurrent c).handBack c.voice fault).voice w := by
    unfold SameButLinks at hposts
    rw [State.afterAbort, hposts]
    rfl
  rw [hvoice]
  split
  · next hw => rw [hw, State.voice_handBack_self, handedBack_abortCurrent]
  · next hw => rw [State.voice_handBack_ne hw, voice_abortCurrent]

theorem link_afterAbort (s : State) (c : Current) (fault noSignal : Bool) (m : Link) :
    (s.afterAbort c fault noSignal).link m =
      LinkUnit.told (true && (s.link m).queue.mask.getLsbD 3) (Given.voiceDone s c.voice c.resultA .aborted s.timestamp)
        ((s.link m).told (fault && (s.link m).queue.mask.getLsbD 3)
          (Given.voiceFault c.voice noSignal false s.timestamp)) := by
  have hhand := sameButHand_handBack c.voice fault (s.abortCurrent c)
  rw [State.afterAbort, State.link_postEnd, hhand.link, hhand.timestamp, link_abortCurrent, timestamp_abortCurrent,
    Given.voiceDone_eq, Given.voiceDone_eq]
  have htune (o : OscId) (result : CalResult) : ((s.abortCurrent c).handBack c.voice fault).tuneValue o result =
      s.tuneValue o result := by
    rw [tuneValue_eq, hhand.cal, ← tuneValue_eq, tuneValue_abortCurrent]
  simp only [htune]

/-! ### TUNE_ABORT while a voice is measured (R147) -/

theorem abortRun_of_measuring {s : State} {r : Run} {c : Current} (hcurrent : r.current = some c)
    (hdeferred : s.deferred = []) (htuning : ∀ v, (s.voice v).phase.isTuning = true ↔ v = c.voice) {fault noSignal : Bool}
    (hsignal : noSignal = (c.second && c.aResult == some .noSignal))
    (hfault : fault = (noSignal || r.fromFault c.voice)) :
    s.abortRun r = { (s.afterAbort c fault noSignal).clearClaims.postRunDone r true with run := none } := by
  obtain ⟨idle, hone⟩ : ∃ idle, s.abortCurrentVoice r = (s.afterAbort c fault noSignal, idle) := by
    refine ⟨if fault then [] else [c.voice], ?_⟩
    simp only [State.abortCurrentVoice, hcurrent, ← hsignal, ← hfault]
    rfl
  have hnone : (allVoices.filter fun v => ((s.afterAbort c fault noSignal).voice v).phase.isTuning) = [] := by
    refine List.filter_eq_nil_iff.mpr fun v _ => ?_
    rw [voice_afterAbort]
    split
    · rw [isTuning_handedBack]
      exact Bool.false_ne_true
    · next hv => exact fun h => hv ((htuning v).mp h)
  have htwo : (s.afterAbort c fault noSignal).abortWaiting r = (s.afterAbort c fault noSignal, []) := by
    simp only [State.abortWaiting, hnone, List.foldl_nil, List.filter_nil]
  simp only [State.abortRun, hone, htwo]
  refine offerAll_of_empty ?_ _
  have hpost := sameButLinks_postRunDone r true (s.afterAbort c fault noSignal).clearClaims
  have htable := (clearClaims_touches (s.afterAbort c fault noSignal)).1
  obtain ⟨hframe, -⟩ := givenUp_afterAbort s c fault noSignal
  unfold SameButLinks at hpost
  unfold SameButTable at htable
  rw [hpost, htable]
  exact hframe.deferred.trans hdeferred

/-- The measured voice is given up, and the run is gone. -/
def Stopped (s t : State) (c : Current) : Prop :=
  t = { s with
      voices := t.voices, measurement := none, periodCounter := t.periodCounter, freeIndex := t.freeIndex
      run := none, candidate := none, calibration := t.calibration, glides := t.glides
      linkA := t.linkA, linkB := t.linkB }
    ∧ t.cal (oscOf c.voice c.second) = { s.cal (oscOf c.voice c.second) with lastResult := .aborted }
    ∧ (∀ x, x ≠ oscOf c.voice c.second → t.cal x = s.cal x) ∧ (∀ w, w ≠ c.voice → t.glide w = s.glide w)
    ∧ (t.glide c.voice).position = (s.glide c.voice).position

theorem GivenUp.stopped {s f u : State} {c : Current} (hf : SameButLinks s f) (h : GivenUp f u c) (hrun : u.run = none)
    (l : Link) (x : LinkUnit) : Stopped s (u.setLink l x) c := by
  obtain ⟨a, b, rfl⟩ : ∃ a b, f = { s with linkA := a, linkB := b } := ⟨_, _, hf⟩
  obtain ⟨hframe, hself, hothers, hglides, hposition⟩ := h
  refine ⟨?_, ?_, fun o ho => ?_, fun w hw => ?_, ?_⟩
  · unfold SameButStopped at hframe
    rw [hrun] at hframe
    rw [hframe]
    cases l <;> rfl
  · rw [State.setLink_cal]
    exact hself
  · rw [State.setLink_cal]
    exact hothers o ho
  · rw [State.setLink_glide]
    exact hglides w hw
  · rw [State.setLink_glide]
    exact hposition

theorem tuneAbort_measuring {s : State} {l : Link} {r : Run} {c : Current} (h : Given.interrupts s l r c)
    {fault noSignal : Bool} (hsignal : noSignal = (c.second && c.aResult == some .noSignal))
    (hfault : fault = (noSignal || r.fromFault c.voice)) {told : Link → LinkUnit → LinkUnit}
    (htold : ∀ m x, told m x = LinkUnit.told (r.requester == some m || x.queue.mask.getLsbD 3)
      (Given.runDone r true s.timestamp)
      (LinkUnit.told (true && x.queue.mask.getLsbD 3) (Given.voiceDone s c.voice c.resultA .aborted s.timestamp)
        (x.told (fault && x.queue.mask.getLsbD 3) (Given.voiceFault c.voice noSignal false s.timestamp)))) :
    ∃ t, exec (.tuneAbort l []) s = .next t ∧ Stopped s t c
      ∧ t.voice c.voice = Given.handedBack s c.voice fault
      ∧ (∀ w, w ≠ c.voice → t.voice w = { s.voice w with claim := false })
      ∧ t.link l = told l ((s.link l).took 2 (okReply 0x31 false false [byte r.passCount, byte r.failCount]))
      ∧ t.link l.other = told l.other (s.link l.other) := by
  obtain ⟨hready, hrun, hcurrent, hdeferred, htuning⟩ := h
  obtain ⟨f, hf⟩ : ∃ f, f = s.framed l [] := ⟨_, rfl⟩
  have hframe : SameButLinks s f := by rw [hf]; cases l <;> rfl
  have hfvoice : ∀ v, f.voice v = s.voice v := fun v => by rw [hf, State.framed_voice_eq]
  have hfstamp : f.timestamp = s.timestamp := hframe.timestamp
  have hfrun : f.run = some r := by rw [hf]; cases l <;> exact hrun
  have hfdeferred : f.deferred = [] := by rw [hf]; cases l <;> exact hdeferred
  obtain ⟨b, hb⟩ : ∃ b, b = f.afterAbort c fault noSignal := ⟨_, rfl⟩
  obtain ⟨htable, hclaims⟩ := clearClaims_touches b
  obtain ⟨d, hd⟩ : ∃ d, d = b.clearClaims := ⟨_, rfl⟩
  rw [← hd] at htable hclaims
  have hpost := sameButLinks_postRunDone r true d
  have hwork : Request.tuneAbort.service l [] (s.framed l []) = ({ d.postRunDone r true with run := none },
      { status := .ok, data := [byte r.passCount, byte r.failCount] }) := by
    rw [← hf]
    simp only [Request.service, tuneAbortService, hfrun]
    rw [abortRun_of_measuring hcurrent hfdeferred (fun v => by rw [hfvoice]; exact htuning v) hsignal hfault, ← hb, ← hd]
  have hdone : Given.voiceDone f c.voice c.resultA .aborted s.timestamp =
      Given.voiceDone s c.voice c.resultA .aborted s.timestamp := by
    rw [Given.voiceDone_eq, Given.voiceDone_eq]
    simp only [tuneValue_eq, hframe.cal]
  have hdstamp : d.timestamp = s.timestamp := by
    obtain ⟨hstopped, -⟩ := givenUp_afterAbort f c fault noSignal
    rw [htable.timestamp, hb, hstopped.timestamp, hfstamp]
  obtain ⟨t, hexec, ⟨x, ht⟩, hlinks⟩ := exec_of_notices hready (by decide) hwork (told := told)
    (fun m x y hq => by simp only [htold, LinkUnit.told_eq, hq])
    (fun m => by
      refine Eq.trans (b := (d.postRunDone r true).link m) (by cases m <;> rfl) ?_
      rw [State.link_postRunDone, htable.link, hb, link_afterAbort, hdstamp, hfstamp, hdone, ← hf, htold]
      simp only [mask_told])
  have hvoice : ∀ w, t.voice w = { b.voice w with claim := false } := fun w => by
    rw [ht, State.setLink_voice, ← hclaims]
    unfold SameButLinks at hpost
    rw [hpost]
    rfl
  refine ⟨t, hexec, ?_, ?_, fun w hw => ?_, hlinks⟩
  · rw [ht]
    unfold SameButLinks at hpost
    unfold SameButTable at htable
    have hglides : (d.postRunDone r true).glides = b.glides := by rw [hpost, htable]
    have hglide (w : VoiceId) : (d.postRunDone r true).glide w = b.glide w :=
      congrArg (fun gs : Vector Glide 16 => gs[w.val]) hglides
    exact GivenUp.stopped (u := { d.postRunDone r true with run := none }) hframe
      (GivenUp.trans (hb ▸ givenUp_afterAbort f c fault noSignal) (by rw [hpost, htable]) (fun w _ => hglide w)
        (congrArg Glide.position (hglide c.voice))) rfl l x
  · rw [hvoice, hb, voice_afterAbort, if_pos rfl]
    have hsame : Given.handedBack f c.voice fault = Given.handedBack s c.voice fault := by
      unfold Given.handedBack
      rw [hfvoice, hfstamp]
    rw [hsame]
    cases fault <;> rfl
  · rw [hvoice, hb, voice_afterAbort, if_neg hw, hfvoice]

/-! ### VOICE_DISABLE of the current voice (R148) -/

theorem voicesOf_twoPow (v : VoiceId) : voicesOf (2 ^ v.val) = [v] := by
  have hall : ∀ v : VoiceId, voicesOf (2 ^ v.val) = [v] := by decide
  exact hall v

/-- What stands before the run goes on after the current voice was disabled. -/
def State.afterDisable (s : State) (c : Current) (r : Run) : State :=
  { ((s.abortCurrent c).goDisabled c.voice).postVoiceDone c.voice c.resultA .aborted with run := some (r.without c.voice) }

theorem disableCurrent_eq {s : State} {r : Run} (hrun : s.run = some r) (c : Current) :
    s.disableCurrent c = (s.afterDisable c r).runContinue := by
  have hpost := sameButLinks_post .tuneVoiceDone c.voice
    (((s.abortCurrent c).goDisabled c.voice).tuneValue (oscOf c.voice false) c.resultA)
    (((s.abortCurrent c).goDisabled c.voice).tuneValue (oscOf c.voice true) .aborted)
    ((s.abortCurrent c).goDisabled c.voice)
  have hrun' : (((s.abortCurrent c).goDisabled c.voice).postVoiceDone c.voice c.resultA .aborted).run = some r := by
    unfold SameButLinks at hpost
    rw [State.postVoiceDone, hpost]
    refine Eq.trans (b := (s.abortCurrent c).run) rfl ?_
    rw [abortCurrent_frame]
    exact hrun
  simp only [State.disableCurrent, State.afterDisable, State.unmark, State.withRun, hrun', Option.map_some]
  rfl

theorem hand_afterDisable (s : State) (c : Current) (r : Run) (w : VoiceId) : (s.afterDisable c r).hand w =
    if w = c.voice then ({ s.voice w with phase := .offline .disabled, claim := false }, { s.glide w with target := none })
    else s.hand w := by
  have hpost := sameButLinks_post .tuneVoiceDone c.voice
    (((s.abortCurrent c).goDisabled c.voice).tuneValue (oscOf c.voice false) c.resultA)
    (((s.abortCurrent c).goDisabled c.voice).tuneValue (oscOf c.voice true) .aborted)
    ((s.abortCurrent c).goDisabled c.voice)
  have hhand : (s.afterDisable c r).hand w = ((s.abortCurrent c).goDisabled c.voice).hand w := by
    unfold SameButLinks at hpost
    rw [State.afterDisable, State.postVoiceDone, hpost]
    rfl
  rw [hhand]
  split
  · next hw => rw [hw, hand_goDisabled_self, voice_abortCurrent, glide_abortCurrent]
  · next hw => rw [hand_goDisabled_ne hw, State.hand, voice_abortCurrent, glide_abortCurrent, ← State.hand]

theorem givenUp_afterDisable (s : State) (c : Current) (r : Run) : GivenUp s (s.afterDisable c r) c := by
  have hpost := sameButLinks_post .tuneVoiceDone c.voice
    (((s.abortCurrent c).goDisabled c.voice).tuneValue (oscOf c.voice false) c.resultA)
    (((s.abortCurrent c).goDisabled c.voice).tuneValue (oscOf c.voice true) .aborted)
    ((s.abortCurrent c).goDisabled c.voice)
  refine (givenUp_abortCurrent c s).trans ?_ (fun w hw => ?_) ?_
  · unfold SameButLinks at hpost
    rw [State.afterDisable, State.postVoiceDone, hpost]
    rfl
  · have hhand := hand_afterDisable s c r w
    rw [if_neg hw] at hhand
    exact (congrArg Prod.snd hhand).trans (glide_abortCurrent c s w).symm
  · have hhand := hand_afterDisable s c r c.voice
    rw [if_pos rfl] at hhand
    exact (congrArg (fun x : Voice × Glide => x.2.position) hhand).trans
      (congrArg Glide.position (glide_abortCurrent c s c.voice)).symm

theorem link_afterDisable (s : State) (c : Current) (r : Run) (m : Link) : (s.afterDisable c r).link m =
    (s.link m).told (true && (s.link m).queue.mask.getLsbD 3)
      (Given.voiceDone s c.voice c.resultA .aborted s.timestamp) := by
  have hgone : ((s.abortCurrent c).goDisabled c.voice).link m = s.link m := by
    refine Eq.trans (b := (s.abortCurrent c).link m) (by cases m <;> rfl) (link_abortCurrent c s m)
  have htune (o : OscId) (result : CalResult) : ((s.abortCurrent c).goDisabled c.voice).tuneValue o result =
      s.tuneValue o result := tuneValue_abortCurrent c s o result
  have hstamp : ((s.abortCurrent c).goDisabled c.voice).timestamp = s.timestamp := timestamp_abortCurrent c s
  refine Eq.trans (b := (((s.abortCurrent c).goDisabled c.voice).postVoiceDone c.voice c.resultA .aborted).link m)
    (by cases m <;> rfl) ?_
  rw [State.postVoiceDone, State.link_post_told, hgone, htune, htune, hstamp, Given.voiceDone_eq]
  rfl

/-- VOICE_DISABLE of one voice. -/
theorem voiceDisableService_one (l : Link) (v : VoiceId) (s : State) :
    voiceDisableService l (field16 (2 ^ v.val)) s =
      (s.disableVoice v, { status := .ok, nothing := !(s.voice v).phase.disables }) := by
  have hpos : 0 < 2 ^ v.val := Nat.two_pow_pos _
  have hmask : 2 ^ v.val < 65536 := Nat.pow_lt_pow_right (by decide) v.isLt
  rw [voiceDisableService_field16 l hpos hmask, voicesOf_twoPow]
  simp

theorem disableVoice_of_current {s : State} {r : Run} {c : Current} (hrun : s.run = some r) (hcurrent : r.current = some c)
    (htuning : (s.voice c.voice).phase.isTuning = true) : s.disableVoice c.voice = (s.afterDisable c r).runContinue := by
  rw [← disableCurrent_eq hrun c]
  cases hphase : (s.voice c.voice).phase with
  | tuning code => simp only [State.disableVoice, hphase, State.disableTuning, hrun, Option.bind_some, hcurrent, if_true]
  | _ => simp [hphase, VoicePhase.isTuning] at htuning

theorem voiceDisable_measuring {s : State} {l : Link} {r : Run} {c : Current} (h : Given.interrupts s l r c)
    (hqueue : r.queue = []) {told : Link → LinkUnit → LinkUnit}
    (htold : ∀ m x, told m x = LinkUnit.told (r.requester == some m || x.queue.mask.getLsbD 3)
      (Given.runDone r false s.timestamp)
      (x.told (true && x.queue.mask.getLsbD 3) (Given.voiceDone s c.voice c.resultA .aborted s.timestamp))) :
    ∃ t, exec (.voiceDisable l (field16 (2 ^ c.voice.val))) s = .next t ∧ Stopped s t c
      ∧ t.voice c.voice = { s.voice c.voice with phase := .offline .disabled, claim := false }
      ∧ (∀ w, w ≠ c.voice → t.voice w = s.voice w)
      ∧ t.link l = told l ((s.link l).took 4 (okReply 0x41 false false []))
      ∧ t.link l.other = told l.other (s.link l.other) := by
  obtain ⟨hready, hrun, hcurrent, -, htuning⟩ := h
  have htunes := (htuning c.voice).mpr rfl
  obtain ⟨f, hf⟩ : ∃ f, f = s.framed l (field16 (2 ^ c.voice.val)) := ⟨_, rfl⟩
  have hframe : SameButLinks s f := by rw [hf]; cases l <;> rfl
  have hfvoice : ∀ v, f.voice v = s.voice v := fun v => by rw [hf, State.framed_voice_eq]
  have hfstamp : f.timestamp = s.timestamp := hframe.timestamp
  have hfrun : f.run = some r := by rw [hf]; cases l <;> exact hrun
  have hfhand : ∀ v, f.hand v = s.hand v := fun v => by
    simp only [hf, State.hand, State.framed_voice_eq, State.glide_framed]
  have hdone : Given.voiceDone f c.voice c.resultA .aborted s.timestamp =
      Given.voiceDone s c.voice c.resultA .aborted s.timestamp := by
    rw [Given.voiceDone_eq, Given.voiceDone_eq]
    simp only [tuneValue_eq, hframe.cal]
  obtain ⟨e, he⟩ : ∃ e, e = f.afterDisable c r := ⟨_, rfl⟩
  have hgiven : GivenUp f e c := he ▸ givenUp_afterDisable f c r
  have hestamp : e.timestamp = s.timestamp := hgiven.1.timestamp.trans hfstamp
  obtain ⟨hnone, hmeasurement, hcandidate, hfsel, hvoice, hglide, hlink⟩ := runContinue_ends (e := e) (r := r.without c.voice)
    (by rw [he]; rfl) rfl hqueue
  have hcontinues : e.runContinue = { e with run := none, linkA := e.runContinue.linkA, linkB := e.runContinue.linkB } := by
    have hpost := sameButLinks_postRunDone (r.without c.voice) false e
    unfold SameButLinks at hpost
    rw [runContinue_of_empty (s := e) (r := r.without c.voice) (by rw [he]; rfl) rfl hqueue, hpost]
  have hwork : Request.voiceDisable.service l (field16 (2 ^ c.voice.val)) (s.framed l (field16 (2 ^ c.voice.val))) =
      (e.runContinue, { status := .ok, nothing := false }) := by
    have hdisables : (f.voice c.voice).phase.disables = true := by
      rw [hfvoice]
      cases hphase : (s.voice c.voice).phase <;> simp_all [VoicePhase.isTuning, VoicePhase.disables]
    rw [← hf]
    refine (voiceDisableService_one l c.voice f).trans ?_
    rw [disableVoice_of_current hfrun hcurrent (by rw [hfvoice]; exact htunes), ← he, hdisables]
    rfl
  obtain ⟨t, hexec, ⟨x, ht⟩, hlinks⟩ := exec_of_notices hready (by decide) hwork (told := told)
    (fun m x y hq => by simp only [htold, LinkUnit.told_eq, hq])
    (fun m => by
      rw [hlink, hestamp, he, link_afterDisable, hfstamp, hdone, ← hf, htold, mask_told]
      rfl)
  have hthand : ∀ w, t.hand w = e.hand w := fun w => by
    rw [ht]
    exact State.hand_eq ((State.setLink_voice _ _ _ _).trans (hvoice w)) ((State.setLink_glide _ _ _ _).trans (hglide w))
  refine ⟨t, hexec, ?_, ?_, fun w hw => ?_, hlinks⟩
  · rw [ht]
    exact GivenUp.stopped hframe (hgiven.trans (by rw [hcontinues]) (fun w _ => hglide w)
      (congrArg Glide.position (hglide c.voice))) hnone l x
  · have hhand := hthand c.voice
    rw [he, hand_afterDisable, if_pos rfl, hfvoice] at hhand
    exact congrArg Prod.fst hhand
  · have hhand := hthand w
    rw [he, hand_afterDisable, if_neg hw, hfhand] at hhand
    exact congrArg Prod.fst hhand

/-! ### VOICE_DISABLE of a queued voice (R148) -/

/-- The run without a queued voice. -/
def Run.withoutQueued (r : Run) (v : VoiceId) : Run :=
  { r with queue := r.queue.filter fun x => x != v, marks := r.marks.filter fun x => x.1 != v }

theorem disableVoice_of_queued {s : State} {r : Run} {c : Current} {v : VoiceId} (hrun : s.run = some r)
    (hcurrent : r.current = some c) (hne : c.voice ≠ v) (hin : v ∈ r.queue)
    (hphase : (s.voice v).phase = .idle ∨ (s.voice v).phase.isTuning = true) :
    s.disableVoice v = { s.goDisabled v with run := some (r.withoutQueued v) } := by
  have hleaves : (s.goDisabled v).leaveRun v = { s.goDisabled v with run := some (r.withoutQueued v) } := by
    have hrun' : (s.goDisabled v).run = some r := hrun
    have hany : ((s.goDisabled v).run.any fun r => r.queue.contains v) = true := by
      rw [hrun', Option.any_some]
      exact List.contains_iff_mem.mpr hin
    rw [State.leaveRun, if_pos hany]
    simp only [State.dequeue, State.unmark, State.withRun, hrun', Option.map_some, State.runContinue, hcurrent,
      Run.withoutQueued]
  cases hp : (s.voice v).phase with
  | idle => simp only [State.disableVoice, hp, hleaves]
  | tuning code =>
    simp only [State.disableVoice, hp, State.disableTuning, hrun, Option.bind_some, hcurrent, if_neg hne, hleaves]
  | _ => simp [hp, VoicePhase.isTuning] at hphase

theorem voiceDisable_queued {s : State} {l : Link} {r : Run} {c : Current} {v : VoiceId} (h : Given.queued s l r c v) :
    ∃ t, exec (.voiceDisable l (field16 (2 ^ v.val))) s = .next t
      ∧ t = { s with
          voices := t.voices, glides := t.glides, linkA := t.linkA, linkB := t.linkB, run := some (r.withoutQueued v) }
      ∧ t.voice v = { s.voice v with phase := .offline .disabled, claim := false }
      ∧ (∀ x, x ≠ v → t.voice x = s.voice x ∧ t.glide x = s.glide x)
      ∧ Took s t l 4 (okReply 0x41 false false []) := by
  obtain ⟨hready, hrun, hcurrent, hne, hin, hphase⟩ := h
  obtain ⟨f, hf⟩ : ∃ f, f = s.framed l (field16 (2 ^ v.val)) := ⟨_, rfl⟩
  have hframe : SameButLinks s f := by rw [hf]; cases l <;> rfl
  have hfvoice : ∀ v, f.voice v = s.voice v := fun v => by rw [hf, State.framed_voice_eq]
  have hfhand : ∀ v, f.hand v = s.hand v := fun v => by
    simp only [hf, State.hand, State.framed_voice_eq, State.glide_framed]
  have hfrun : f.run = some r := by rw [hf]; cases l <;> exact hrun
  have hwork : Request.voiceDisable.service l (field16 (2 ^ v.val)) (s.framed l (field16 (2 ^ v.val))) =
      ({ f.goDisabled v with run := some (r.withoutQueued v) }, { status := .ok, nothing := false }) := by
    have hdisables : (f.voice v).phase.disables = true := by
      rw [hfvoice]
      cases hp : (s.voice v).phase <;> simp_all [VoicePhase.isTuning, VoicePhase.disables]
    rw [← hf]
    refine (voiceDisableService_one l v f).trans ?_
    rw [disableVoice_of_queued hfrun hcurrent hne hin (by rw [hfvoice]; exact hphase), hdisables]
    rfl
  obtain ⟨t, hexec, ht, htook⟩ := exec_of_quiet hready (by decide) hwork fun m => by rw [← hf]; cases m <;> rfl
  have hhand : ∀ w, t.hand w = (f.goDisabled v).hand w := fun w => by
    rw [ht]
    exact State.hand_eq (State.setLink_voice _ _ _ _) (State.setLink_glide _ _ _ _)
  refine ⟨t, hexec, ?_, ?_, fun w hw => ?_, htook⟩
  · unfold SameButLinks at hframe
    rw [ht, goDisabled_eq, hframe]
    cases l <;> rfl
  · have hself := hhand v
    rw [hand_goDisabled_self, hfvoice] at hself
    exact congrArg Prod.fst hself
  · have hother := hhand w
    rw [hand_goDisabled_ne hw, hfhand] at hother
    exact ⟨congrArg Prod.fst hother, congrArg Prod.snd hother⟩

/-- Settles O50. -/
theorem runIsInterrupted : Obligations.RunIsInterrupted := by
  unfold Obligations.RunIsInterrupted
  intro s l r c v o a stops tune ended
  refine ⟨fun h => ?_, fun h hqueue => ?_, fun w h => voiceDisable_queued h⟩
  · intro noSignal fault told
    obtain ⟨t, hexec, hstops, hrest⟩ := tuneAbort_measuring h (fault := fault) (noSignal := noSignal) rfl rfl (told := told)
      fun m x => by simp only [told, ended, tune, mask_told]; rfl
    exact ⟨t, hexec, hstops, hrest⟩
  · intro told
    obtain ⟨t, hexec, hstops, hrest⟩ := voiceDisable_measuring h hqueue (told := told)
      fun m x => by simp only [told, ended, tune, mask_told]; rfl
    exact ⟨t, hexec, hstops, hrest⟩

end Sys2Proof.Machine
end

section
/-! PROOFS. The reset: its begin, its restart and its end (R101, R173, R196). -/

namespace Sys2Proof.Machine

/-! ### The begin -/

theorem beginReset_frame (cause : ResetCause) (s : State) : s.beginReset cause = { State.reset with
    pending := s.pending, freeIndex := s.freeIndex
    scanner := { roundNumber := 0, skipped := 0, period := none, round := none, msel := s.scanner.msel }
    output := { s.output with slot := none }
    linkA := (s.beginReset cause).linkA, linkB := (s.beginReset cause).linkB, rstb := s.rstb
    resetRun := some (cause, 2) } := rfl

theorem link_beginReset (cause : ResetCause) (s : State) (m : Link) : (s.beginReset cause).link m =
    { State.reset.link m with
      queue := { stored := [], get := 0, lost := 0, mask := 0x10#8, watermark := 1 }, shifted := (s.link m).shifted } := by
  cases m <;> rfl

theorem attention_of_inReset {s : State} (h : s.inReset = true) (m : Link) : s.attention m = false := by
  simp [State.attention, h]

theorem exec_resetDevice {s : State} {l : Link} (hready : s.ready l) :
    exec (.resetDevice l []) s = .next ((s.framed l []).beginReset (.device l)) :=
  exec_request hready .resetDevice []

/-! ### The end -/

theorem endReset_eq (cause : ResetCause) {s : State} (hrstb : s.rstb = true) : s.endReset cause =
    State.postWhere (fun _ => true) .resetDone 0 cause.code cause.requester { State.reset with
      pending := s.pending, freeIndex := s.freeIndex, output := { s.output with slot := some 0 }
      linkA := s.linkA.cleared, linkB := s.linkB.cleared } := by
  have hperiod : State.reset.global gScanPeriod = 2 := by decide
  have hreset : { s.cleared with resetRun := none }.startScanner.startRefresh = { State.reset with
      pending := s.pending, freeIndex := s.freeIndex, output := { s.output with slot := some 0 }
      linkA := s.linkA.cleared, linkB := s.linkB.cleared } := by
    have hcleared : ({ s.cleared with resetRun := none } : State).global gScanPeriod = 2 := hperiod
    unfold State.startScanner
    rw [hcleared]
    refine Eq.trans (b := { State.reset with
      pending := s.pending, freeIndex := s.freeIndex, output := { s.output with slot := some 0 }
      linkA := s.linkA.cleared, linkB := s.linkB.cleared, rstb := s.rstb }) rfl ?_
    rw [hrstb]
    rfl
  rw [State.endReset, hreset]

/-- Settles O57. -/
theorem resetBeginsAndEnds : Obligations.ResetBeginsAndEnds := by
  unfold Obligations.ResetBeginsAndEnds
  intro queue begun
  refine ⟨fun s l hready => ?_, fun s => ?_, fun s cause timer h => ?_, fun s cause timer h => ?_⟩
  · refine ⟨_, exec_resetDevice hready, ?_, ?_, ?_, fun k => attention_of_inReset rfl k⟩
    · simp only [begun]
      rw [beginReset_frame]
      cases l <;> rfl
    · rw [link_beginReset, State.framed, State.link_shiftOut_self]
      rfl
    · rw [link_beginReset, State.framed, State.link_shiftOut_ne (Link.other_ne l)]
  · refine ⟨_, rfl, ?_, fun k => ?_, fun k => attention_of_inReset rfl k⟩
    · simp only [begun]
      rw [beginReset_frame]
    · refine Eq.trans (b := (s.beginReset .powerOn).link k) (by cases k <;> rfl) (link_beginReset .powerOn s k)
  · obtain ⟨hrun, hrstb⟩ := h
    constructor
    · change execRstbRelease s = _
      simp [execRstbRelease, hrstb, hrun, resetTime]
    · change execResetEnd s = _
      simp [execResetEnd, hrstb, hrun]
  · obtain ⟨hrun, hrstb⟩ := h
    intro done
    obtain ⟨u, hu⟩ : ∃ u : State, u = { State.reset with
      pending := s.pending, freeIndex := s.freeIndex, output := { s.output with slot := some 0 }
      linkA := s.linkA.cleared, linkB := s.linkB.cleared } := ⟨_, rfl⟩
    have hexec : exec .resetEnd s = .next (s.endReset cause) := by
      change execResetEnd s = _
      simp only [execResetEnd, hrstb, hrun]
    have hposts := sameButLinks_postWhere (fun _ => true) .resetDone 0 cause.code cause.requester u
    have hlink : ∀ k, (s.endReset cause).link k =
        { State.reset.link k with queue := queue [done], shifted := (s.link k).shifted } := fun k => by
      have hdone : done = { kind := .resetDone, subject := 0, value1 := cause.code, value2 := cause.requester, stamp := 0 } := by
        cases cause <;> rfl
      rw [endReset_eq cause hrstb, ← hu, State.link_postWhere, hdone, hu]
      cases k <;> rfl
    refine ⟨s.endReset cause, hexec, ?_, hlink, fun k => ?_⟩
    · unfold SameButLinks at hposts
      rw [endReset_eq cause hrstb, ← hu, hposts, hu]
    · have hruns : (s.endReset cause).inReset = false := by
        unfold SameButLinks at hposts
        rw [endReset_eq cause hrstb, ← hu, hposts, hu]
        rfl
      rw [State.attention, hruns, hlink]
      rfl

end Sys2Proof.Machine
end

section
/-! PROOFS. The operations on voices and notes read and write the voice table, the records that move with it, the
image, the globals and the timestamp: whatever else stands around them, they do the same. -/

namespace Sys2Proof.Machine

/-! ### The voice table amid the rest of the part -/

/-- The records that the operations on voices read and write, amid the rest of another state. -/
def State.within (s e : State) : State :=
  { e with
    voices := s.voices, serial := s.serial, deferred := s.deferred, perf := s.perf, glides := s.glides, run := s.run
    measurement := s.measurement, fsel := s.fsel, candidate := s.candidate, params := s.params, globals := s.globals
    timestamp := s.timestamp }

/-- An operation that does the same whatever stands around the voice table. -/
def Local (f : State → State) : Prop := ∀ e s, f (s.within e) = (f s).within e

section
variable (e s : State)

@[simp] theorem State.within_voice (v : VoiceId) : (s.within e).voice v = s.voice v := rfl
@[simp] theorem State.within_perfOf (p : PartId) : (s.within e).perfOf p = s.perfOf p := rfl
@[simp] theorem State.within_param (p : PartId) (i : ParamId) : (s.within e).param p i = s.param p i := rfl
@[simp] theorem State.within_glide (v : VoiceId) : (s.within e).glide v = s.glide v := rfl
@[simp] theorem State.within_deferred : (s.within e).deferred = s.deferred := rfl
@[simp] theorem State.within_run : (s.within e).run = s.run := rfl
@[simp] theorem State.within_load (p : PartId) : (s.within e).load p = s.load p := rfl
@[simp] theorem State.within_inMask (p : PartId) (v : VoiceId) : (s.within e).inMask p v = s.inMask p v := rfl
@[simp] theorem State.within_selection (p : PartId) : (s.within e).selection p = s.selection p := rfl
@[simp] theorem State.within_isPoly (p : PartId) : (s.within e).isPoly p = s.isPoly p := rfl
@[simp] theorem State.within_eligible (v : VoiceId) : (s.within e).eligible v = s.eligible v := rfl
@[simp] theorem State.within_changed (old : Vector Nat 40) (p : PartId) (i : ParamId) :
    (s.within e).changed old p i = s.changed old p i := rfl
@[simp] theorem State.within_maskGained (old : Vector Nat 40) (p : PartId) :
    (s.within e).maskGained old p = s.maskGained old p := rfl
@[simp] theorem State.within_pickVictim (p : PartId) (vs : List VoiceId) :
    (s.within e).pickVictim p vs = s.pickVictim p vs := rfl

end

theorem Local.comp {f g : State → State} (hf : Local f) (hg : Local g) : Local fun s => f (g s) := fun e s => by
  change f (g (s.within e)) = (f (g s)).within e
  rw [hg e s, hf e (g s)]

theorem Local.foldl {α : Type} {step : State → α → State} (h : ∀ a, Local fun s => step s a) (as : List α) :
    Local fun s => as.foldl step s := fun e s => by
  induction as generalizing s with
  | nil => rfl
  | cons a as ih =>
    have hstep : step (s.within e) a = (step s a).within e := h a e s
    change as.foldl step (step (s.within e) a) = _
    rw [hstep]
    exact ih (step s a)

/-- A branch whose test reads the voice table alone. -/
theorem Local.ite {test : State → Prop} [DecidablePred test] (htest : ∀ e s, test (s.within e) ↔ test s)
    {f g : State → State} (hf : Local f) (hg : Local g) : Local fun s => if test s then f s else g s := fun e s => by
  by_cases h : test s
  · have h' := (htest e s).mpr h
    simp only [if_pos h, if_pos h']
    exact hf e s
  · have h' := fun hw => h ((htest e s).mp hw)
    simp only [if_neg h, if_neg h']
    exact hg e s

theorem Local.id : Local fun s => s := fun _ _ => rfl

/-! ### One voice -/

theorem local_release (v : VoiceId) : Local (State.release v) := fun e s => by
  unfold State.release
  rw [State.within_voice]
  split <;> rfl

theorem local_cancelSuccessor (v : VoiceId) : Local (State.cancelSuccessor v) := fun e s => by
  unfold State.cancelSuccessor
  rw [State.within_voice]
  split
  · dsimp only
    split <;> rfl
  · rfl

theorem local_leaveSets (v : VoiceId) : Local (State.leaveSets v) :=
  Local.foldl (fun p e s => by
    change (s.within e).leaveSet v p = (s.leaveSet v p).within e
    unfold State.leaveSet
    rw [State.within_perfOf]
    split
    · dsimp only
      split <;> rfl
    · rfl) allParts

theorem local_clearHeld (p : PartId) : Local (State.clearHeld p) := fun _ _ => rfl

theorem local_turnGlide (v : VoiceId) (k : Key) : Local (State.turnGlide v k) := fun e s => by
  rw [State.turnGlide_eq, State.turnGlide_eq]
  rfl

theorem local_offer (v : VoiceId) : Local (State.offer v) := fun e s => by
  unfold State.offer
  rw [State.within_voice, State.within_eligible, State.within_deferred]
  split
  · split <;> rfl
  · rfl

theorem local_offerAll (vs : List VoiceId) : Local (State.offerAll vs) := Local.foldl local_offer vs

theorem local_takeNext : Local State.takeNext := fun e s => by
  unfold State.takeNext
  rw [State.within_run]
  split
  · split
    · rw [State.within_voice]
      split <;> rfl
    · rfl
  · rfl

theorem local_becomeFree (v : VoiceId) : Local (State.becomeFree v) :=
  Local.ite (fun _ _ => Iff.rfl) (local_takeNext.comp fun _ _ => rfl) ((local_offer v).comp fun _ _ => rfl)

theorem local_windowExpiry (v : VoiceId) : Local (State.windowExpiry v) :=
  Local.ite (fun _ _ => Iff.rfl) (local_becomeFree v) Local.id

theorem local_passZeroWindows : Local State.passZeroWindows :=
  Local.foldl (fun v e s => by
    dsimp only
    rw [State.within_voice]
    split
    · exact local_windowExpiry v e s
    · rfl) allVoices

theorem local_followVoice (p : PartId) (k : HeldKey) (v : VoiceId) : Local fun s => s.followVoice p k v := fun e s => by
  dsimp only
  unfold State.followVoice
  rw [State.within_voice]
  split
  · next n sus pulse _ =>
    rw [State.within_param]
    split
    · exact local_turnGlide v k.key e ({ s with serial := s.serial + 1 }.setVoice v { s.voice v with
        phase := .gated { key := k.key, velocity := k.velocity } sus (some pulseTime), serial := s.serial + 1
        clamped := false })
    · exact local_turnGlide v k.key e (s.setVoice v { s.voice v with
        phase := .gated { n with key := k.key } sus pulse, clamped := false })
  · split <;> rfl
  · rfl

theorem local_releaseHeld (v : VoiceId) : Local (State.releaseHeld v) := fun e s => by
  unfold State.releaseHeld
  rw [local_release v e s]
  rfl

/-! ### One part -/

theorem local_reselect (p : PartId) : Local (State.reselect p) := fun e s => by
  unfold State.reselect
  rw [State.within_selection, State.within_perfOf]
  split
  · next k _ =>
    split
    · rfl
    · exact Local.foldl (local_followVoice p k) (s.perfOf p).monoSet e
        (s.setPerf p { s.perfOf p with selected := some k.key })
  · rfl

theorem local_allOffPart (p : PartId) : Local fun s => s.allOffPart p := by
  have hrelease : Local (State.releaseWhere (Voice.gatedFor p)) :=
    Local.foldl (fun v => Local.ite (fun _ _ => Iff.rfl) (local_release v) Local.id) allVoices
  have hcancel : Local (State.cancelSuccessorsOf p) :=
    Local.foldl (fun v => Local.ite (fun _ _ => Iff.rfl) (local_cancelSuccessor v) Local.id) allVoices
  have hdeferred : Local (State.cancelDeferred p) := fun _ _ => rfl
  exact (local_clearHeld p).comp (hcancel.comp (hdeferred.comp hrelease))

theorem local_releaseSustained (p : PartId) : Local (State.releaseSustained p) :=
  Local.foldl (fun v => Local.ite (fun _ _ => Iff.rfl) (local_releaseHeld v) Local.id) allVoices

theorem local_dissolve (p : PartId) : Local (State.dissolve p) := fun e s => by
  unfold State.dissolve
  rw [State.within_perfOf]
  have hstep := Local.foldl (step := fun s v =>
      match (s.voice v).phase with
      | .gated _ _ _ => s.release v
      | .damping _ (some su) _ _ => if su.kind = .set ∧ su.part = p then s.cancelSuccessor v else s
      | _ => s) (fun v e s => by
    dsimp only
    rw [State.within_voice]
    split
    · exact local_release v e s
    · split
      · exact local_cancelSuccessor v e s
      · rfl
    · rfl) (s.perfOf p).monoSet e s
  exact congrArg (State.clearHeld p) hstep

theorem local_keepHeld (p : PartId) (held : List HeldKey) : Local (State.keepHeld p held) := fun e s => by
  unfold State.keepHeld
  rw [State.within_perfOf]
  split
  · exact local_dissolve p e s
  · exact local_reselect p e (s.setPerf p { s.perfOf p with held })

theorem local_setHold (on : Bool) (p : PartId) : Local fun s => s.setHold on p := by
  have hoff : Local (State.holdOff p) := fun e s => by
    unfold State.holdOff
    rw [State.within_isPoly, State.within_perfOf]
    split
    · exact local_releaseSustained p e s
    · dsimp only
      split
      · rfl
      · exact local_keepHeld p _ e s
  refine Local.ite (fun _ _ => Iff.rfl) Local.id fun e s => ?_
  cases on
  · exact hoff e (s.setPerf p { s.perfOf p with hold := false })
  · rfl

theorem local_setHolds (on : Bool) (mask : BitVec 4) : Local (State.setHolds on mask) :=
  local_passZeroWindows.comp (Local.foldl (fun p => local_setHold on p) (partsOf mask))

theorem local_allOff (mask : BitVec 4) : Local (State.allOff mask) :=
  local_passZeroWindows.comp (Local.foldl local_allOffPart (partsOf mask))

/-! ### The part reconcile (R60) -/

theorem Local.repeatStep {f : State → State} (h : Local f) (n : Nat) : Local (Sys2Proof.Machine.repeatStep f n) :=
  fun e s => by
    induction n generalizing s with
    | zero => rfl
    | succ n ih =>
      change Sys2Proof.Machine.repeatStep f n (f (s.within e)) = _
      rw [h e s]
      exact ih (f s)

theorem local_releaseAndLeave (v : VoiceId) : Local (State.releaseAndLeave v) := (local_leaveSets v).comp (local_release v)

theorem local_cancelAndLeave (v : VoiceId) : Local (State.cancelAndLeave v) :=
  (local_leaveSets v).comp (local_cancelSuccessor v)

theorem local_maskStage (p : PartId) : Local (State.maskStage p) :=
  Local.foldl (fun v => Local.ite (fun _ _ => Iff.rfl) Local.id
    (Local.ite (fun _ _ => Iff.rfl) (local_releaseAndLeave v)
      (Local.ite (fun _ _ => Iff.rfl) (local_cancelAndLeave v) Local.id))) allVoices

theorem local_budgetRelease (p : PartId) : Local (State.budgetRelease p) := fun e s => by
  unfold State.budgetRelease
  rw [State.within_param, State.within_load, State.within_pickVictim]
  by_cases hload : s.param p pMaxVoices < s.load p
  · rw [if_pos hload, if_pos hload]
    change (match s.pickVictim p (allVoices.filter fun v => (s.voice v).gatedFor p) with
      | some v => (s.within e).releaseAndLeave v
      | none => s.within e) = _
    cases s.pickVictim p (allVoices.filter fun v => (s.voice v).gatedFor p) with
    | some v => exact local_releaseAndLeave v e s
    | none => rfl
  · rw [if_neg hload, if_neg hload]

theorem local_budgetCancel (p : PartId) : Local (State.budgetCancel p) := fun e s => by
  unfold State.budgetCancel
  rw [State.within_param, State.within_load, State.within_perfOf]
  by_cases hload : s.param p pMaxVoices < s.load p
  · rw [if_pos hload, if_pos hload]
    cases (s.perfOf p).bound.getLast? with
    | some v => exact local_cancelAndLeave v e s
    | none => rfl
  · rw [if_neg hload, if_neg hload]

theorem local_budgetStage (p : PartId) : Local (State.budgetStage p) :=
  ((local_budgetCancel p).repeatStep 16).comp ((local_budgetRelease p).repeatStep 16)

theorem local_keyStage (old : Vector Nat 40) (p : PartId) : Local (State.keyStage old p) := by
  have henable : Local fun s => if old[pPartEnable] = 1 ∧ s.param p pPartEnable = 0 then s.allOffPart p else s :=
    Local.ite (fun _ _ => Iff.rfl) (local_allOffPart p) Local.id
  have hpriority : Local fun s => if s.changed old p pKeyPriority && !s.isPoly p then s.reselect p else s :=
    Local.ite (fun _ _ => Iff.rfl) (local_reselect p) Local.id
  exact hpriority.comp henable

theorem local_offerStage : Local State.offerStage := local_offerAll allVoices

/-- The mode stage, when its condition holds. -/
def State.stageMode (old : Vector Nat 40) (p : PartId) (s : State) : State :=
  if s.changed old p pVoiceMode then s.modeStage p else s

/-- The mask stage, when its condition holds. -/
def State.stageMask (old : Vector Nat 40) (p : PartId) (s : State) : State :=
  if s.changed old p pMaskLo || s.changed old p pMaskHi then s.maskStage p else s

/-- The budget-lowered stage, when its condition holds. -/
def State.stageBudget (old : Vector Nat 40) (p : PartId) (s : State) : State :=
  if s.param p pMaxVoices < old[pMaxVoices] then s.budgetStage p else s

/-- The offer stage, when its condition holds. -/
def State.stageOffer (old : Vector Nat 40) (p : PartId) (s : State) : State :=
  if old[pMaxVoices] < s.param p pMaxVoices ∨ old[pReserve] < s.param p pReserve ∨ s.maskGained old p = true then
    s.offerStage
  else s

theorem reconcile_eq (old : Vector Nat 40) (p : PartId) (s : State) : s.reconcile old p =
    State.stageOffer old p (State.passZeroWindows
      (State.keyStage old p (State.stageBudget old p (State.stageMask old p (State.stageMode old p s))))) := rfl

theorem local_stageOffer (old : Vector Nat 40) (p : PartId) : Local (State.stageOffer old p) :=
  Local.ite (fun e s => by rw [State.within_param, State.within_param, State.within_maskGained]) local_offerStage Local.id

theorem local_stageBudget (old : Vector Nat 40) (p : PartId) : Local (State.stageBudget old p) :=
  Local.ite (fun e s => by rw [State.within_param]) (local_budgetStage p) Local.id

theorem local_stageMask (old : Vector Nat 40) (p : PartId) : Local (State.stageMask old p) :=
  Local.ite (fun e s => by rw [State.within_changed, State.within_changed]) (local_maskStage p) Local.id

theorem local_stageMode (old : Vector Nat 40) (p : PartId) : Local (State.stageMode old p) :=
  Local.ite (fun e s => by rw [State.within_changed]) (local_allOffPart p) Local.id

/-- The part reconcile does the same whatever stands around the voice table. -/
theorem local_reconcile (old : Vector Nat 40) (p : PartId) : Local (State.reconcile old p) := fun e s => by
  rw [reconcile_eq, reconcile_eq, local_stageMode, local_stageMask, local_stageBudget, local_keyStage,
    local_passZeroWindows, local_stageOffer]

end Sys2Proof.Machine
end

section
/-! PROOFS. Link N: the FIFO, the parser and the line errors (R185 to R189). -/

namespace Sys2Proof.Machine

/-! ### Line errors (R188, R189) -/

/-- A notice that goes to both links. -/
theorem postWhere_all (kind : NoticeKind) (a b c : Nat) (s : State) : s.postWhere (fun _ => true) kind a b c =
    { s with
      linkA := s.linkA.told true { kind, subject := a, value1 := b, value2 := c, stamp := s.timestamp }
      linkB := s.linkB.told true { kind, subject := a, value1 := b, value2 := c, stamp := s.timestamp } } := by
  have hframe := sameButLinks_postWhere (fun _ => true) kind a b c s
  have hA := State.link_postWhere (fun _ => true) kind a b c .a s
  have hB := State.link_postWhere (fun _ => true) kind a b c .b s
  generalize s.postWhere (fun _ => true) kind a b c = t at *
  unfold SameButLinks at hframe
  rw [hframe, show t.linkA = _ from hA, show t.linkB = _ from hB]
  rfl

theorem postLineError_eq (s : State) : s.postLineError =
    let told (x : LinkUnit) : LinkUnit := x.told true
      { kind := .lineError, subject := s.lineUnit.errors.code, value1 := s.lineUnit.accumulator, value2 := 0
        stamp := s.timestamp }
    { s with
      lineUnit := { s.lineUnit with
        accumulator := 0, errors := { frame := false, byte := false, overrun := false }, pacing := some 1000 }
      linkA := told s.linkA, linkB := told s.linkB } := by
  unfold State.postLineError
  dsimp only
  rw [postWhere_all]
  rfl

/-- An error of a part whose Link N stands as u. -/
theorem lineError_eq (kind : LineErrorKind) (u : LineUnit) (s : State) :
    ({ s with lineUnit := u } : State).lineError kind = Given.afterError kind u s := by
  obtain ⟨fifo, parser, frames, bytes, overruns, accumulator, errors, pacing⟩ := u
  cases pacing with
  | none =>
    unfold State.lineError
    dsimp only
    rw [if_neg (by cases kind <;> exact Bool.false_ne_true), postLineError_eq]
    cases kind <;> rfl
  | some n => cases kind <;> rfl

/-! ### Status and data bytes (R185) -/

/-- The status byte of a kind for a part. -/
def statusByte (p : PartId) (kind : Nat) : Byte := byte (128 + 16 * kind + p.val)

theorem statusByte_reads (p : PartId) {kind : Nat} (h : kind ∈ [1, 2, 3, 4, 5]) :
    isStatus (statusByte p kind) = true ∧ linePart (statusByte p kind) = p
      ∧ lineKind? (statusByte p kind) =
        [some LineKind.noteOn, some .noteOff, some .holdOn, some .holdOff, some .bend].getD (kind - 1) none := by
  have hall : ∀ p : PartId, ∀ kind ∈ [1, 2, 3, 4, 5], isStatus (statusByte p kind) = true
      ∧ linePart (statusByte p kind) = p ∧ lineKind? (statusByte p kind) =
        [some LineKind.noteOn, some .noteOff, some .holdOn, some .holdOff, some .bend].getD (kind - 1) none := by decide
  exact hall p kind h

theorem isStatus_iff (b : Byte) : isStatus b = true ↔ 128 ≤ b.toNat := by
  unfold isStatus
  rw [BitVec.getLsbD, Nat.testBit_eq_decide_div_mod_eq]
  have := b.isLt
  simp only [decide_eq_true_eq]
  omega

theorem lineKind?_eq_none_iff {b : Byte} : lineKind? b = none ↔ ¬Given.namesKind b := by
  unfold lineKind? Given.namesKind
  split
  · next h =>
    have hkind : b.toNat / 16 % 8 < 8 := Nat.mod_lt _ (by decide)
    generalize b.toNat / 16 % 8 = n at hkind
    interval_cases n <;> simp [h]
  · next h => simp [h]

/-! ### The parser (R187) -/

theorem exec_parseByte {s : State} {x : LineByte} {rest : List LineByte} (h : s.lineUnit.fifo = x :: rest) :
    exec .parseByte s = .next (({ s with lineUnit := { s.lineUnit with fifo := rest } } : State).parse x) := by
  change execParseByte s = _
  simp only [execParseByte, h]

section
variable {s : State} {b : Byte}

theorem parse_of_bad {x : LineByte} (h : x.good = false) : s.parse x = (s.setParser .waitStatus).lineError .byte := by
  simp [State.parse, h]

theorem parse_of_status (h : 128 ≤ b.toNat) : s.parse { good := true, value := b } = s.parseStatus b := by
  simp [State.parse, (isStatus_iff b).mpr h]

theorem parse_of_data (h : b.toNat < 128) : s.parse { good := true, value := b } = s.parseData b := by
  have hdata : isStatus b = false := Bool.eq_false_iff.mpr fun hs => absurd ((isStatus_iff b).mp hs) (by omega)
  simp [State.parse, hdata]

theorem parseData_of_waiting (h : s.lineUnit.parser = .waitStatus) : s.parseData b = s.lineError .frame := by
  simp only [State.parseData, h]

theorem parseStatus_of_kind (h : s.lineUnit.parser = .waitStatus) {k : LineKind} (hk : lineKind? b = some k) :
    s.parseStatus b = s.startLineFrame b k := by
  simp only [State.parseStatus, h, ParserState.inFrame, Bool.false_eq_true, if_false, hk]

theorem parseStatus_of_invalid (h : s.lineUnit.parser = .waitStatus) (hk : lineKind? b = none) :
    s.parseStatus b = (s.setParser .waitStatus).lineError .frame := by
  simp only [State.parseStatus, h, ParserState.inFrame, Bool.false_eq_true, if_false, hk]

/-- Inside a frame a status byte is a frame error, and is then taken as in WAIT_STATUS. -/
theorem parseStatus_of_inFrame (h : s.lineUnit.parser ≠ .waitStatus) :
    s.parseStatus b = ((s.setParser .waitStatus).lineError .frame).parseStatus b := by
  have hframe : s.lineUnit.parser.inFrame = true := by
    cases hp : s.lineUnit.parser <;> simp_all [ParserState.inFrame]
  have hwaits : ((s.setParser .waitStatus).lineError .frame).lineUnit.parser = .waitStatus := by
    rw [State.setParser, lineError_eq]
    unfold Given.afterError
    dsimp only
    split <;> rfl
  have hout : ((s.setParser .waitStatus).lineError .frame).lineUnit.parser.inFrame = false := by rw [hwaits]; rfl
  unfold State.parseStatus
  simp only [hframe, hout, if_true, Bool.false_eq_true, if_false]

end

/-! ### What the parser takes (O58) -/

section
variable {s : State} {b : Byte} {rest : List LineByte}

/-- A parser that stands at a state keeps it when the head of the FIFO is taken. -/
theorem atWait {parser : ParserState} (h : s.lineUnit.parser = parser) :
    ({ s with lineUnit := { s.lineUnit with fifo := rest } } : State) =
      { s with lineUnit := { s.lineUnit with fifo := rest, parser := parser } } := by
  rw [← h]

theorem parse_badByte (h : Given.badByte s b rest) : exec .parseByte s =
    .next (Given.afterError .byte { s.lineUnit with fifo := rest, parser := .waitStatus } s) := by
  rw [exec_parseByte h, parse_of_bad rfl]
  exact congrArg Host.Outcome.next (lineError_eq .byte { s.lineUnit with fifo := rest, parser := .waitStatus } s)

theorem parse_invalid (h : Given.lineAt s .waitStatus { good := true, value := b } rest)
    (hb : b.toNat < 128 ∨ ¬Given.namesKind b) : exec .parseByte s =
      .next (Given.afterError .frame { s.lineUnit with fifo := rest, parser := .waitStatus } s) := by
  obtain ⟨hparser, hfifo⟩ := h
  rw [exec_parseByte hfifo, atWait hparser, ← lineError_eq]
  by_cases hdata : b.toNat < 128
  · rw [parse_of_data hdata, parseData_of_waiting rfl]
  · rw [parse_of_status (by omega),
      parseStatus_of_invalid (s := { s with lineUnit := { s.lineUnit with fifo := rest, parser := .waitStatus } }) rfl
        (lineKind?_eq_none_iff.mpr (hb.resolve_left hdata))]
    rfl

theorem parse_interrupted {parser : ParserState} (hne : parser ≠ .waitStatus)
    (h : Given.lineAt s parser { good := true, value := b } rest) (hb : 128 ≤ b.toNat) :
    ∃ t, exec .parseByte s = .next t
      ∧ exec .parseByte (Given.afterError .frame { s.lineUnit with parser := .waitStatus } s) = .next t := by
  obtain ⟨hparser, hfifo⟩ := h
  have hfailed : (Given.afterError .frame { s.lineUnit with parser := .waitStatus } s).lineUnit.fifo =
      { good := true, value := b } :: rest := by
    unfold Given.afterError
    dsimp only
    split <;> exact hfifo
  have hsame : ({ Given.afterError .frame { s.lineUnit with parser := .waitStatus } s with
      lineUnit := { (Given.afterError .frame { s.lineUnit with parser := .waitStatus } s).lineUnit with fifo := rest } } :
        State) = Given.afterError .frame { s.lineUnit with fifo := rest, parser := .waitStatus } s := by
    unfold Given.afterError
    dsimp only
    split <;> rfl
  refine ⟨_, exec_parseByte hfifo, ?_⟩
  rw [exec_parseByte hfailed, hsame, parse_of_status hb, parse_of_status hb,
    parseStatus_of_inFrame (s := { s with lineUnit := { s.lineUnit with fifo := rest } }) (by rw [hparser]; exact hne)]
  exact congrArg (fun t : State => Host.Outcome.next (t.parseStatus b))
    (lineError_eq .frame { s.lineUnit with fifo := rest, parser := .waitStatus } s).symm

theorem lineTimer (h : Given.paced s) :
    (s.lineUnit.accumulator = 0 → exec .lineErrorTimerExpiry s =
      .next { s with lineUnit := { s.lineUnit with pacing := none } })
    ∧ (0 < s.lineUnit.accumulator → exec .lineErrorTimerExpiry s = .next s.postLineError) := by
  obtain ⟨n, hn⟩ := Option.isSome_iff_exists.mp h
  refine ⟨fun hzero => ?_, fun hpos => ?_⟩
  · change execLineErrorTimerExpiry s = _
    simp [execLineErrorTimerExpiry, hn, hzero]
  · change execLineErrorTimerExpiry s = _
    simp [execLineErrorTimerExpiry, hn, hpos]

end

theorem lineByte (s : State) (good : Bool) (b : Byte) :
    (Given.fifoRoom s → exec (.linkNByte good b) s =
      .next { s with lineUnit := { s.lineUnit with fifo := s.lineUnit.fifo ++ [{ good, value := b }] } })
    ∧ (Given.fifoFull s → exec (.linkNByte good b) s = .next (Given.afterError .overrun s.lineUnit s))
    ∧ (s.resetRun.isSome = true → exec (.linkNByte good b) s = .next s) := by
  refine ⟨fun h => ?_, fun h => ?_, fun h => ?_⟩ <;> change execLinkNByte good b s = _
  · obtain ⟨hreset, hroom⟩ := h
    simp [execLinkNByte, State.inReset, hreset, hroom]
  · obtain ⟨hreset, hfull⟩ := h
    have hroom : ¬s.lineUnit.fifo.length < 16 := by omega
    rw [execLinkNByte, if_neg (by simp [State.inReset, hreset]), if_neg hroom]
    exact congrArg Host.Outcome.next (lineError_eq .overrun s.lineUnit s)
  · simp [execLinkNByte, State.inReset, h]

/-! ### Frames (R185, R187) -/

theorem within_self (s : State) (u : LineUnit) : s.within { s with lineUnit := u } = { s with lineUnit := u } := rfl

theorem framed_within (s : State) (l : Link) (payload : List Byte) : s.within (s.framed l payload) = s.framed l payload := by
  cases l <;> rfl

section
variable {s : State} {p : PartId} {rest : List LineByte}

/-- A hold frame does what the request HOLD does to the voices and the records around them. -/
theorem parse_hold (on : Bool)
    (h : Given.lineAt s .waitStatus { good := true, value := statusByte p (if on then 3 else 4) } rest) {l : Link}
    (hready : s.ready l) : ∃ u, exec (.hold l [byte (2 ^ p.val), byte (bit on)]) s = .next u
      ∧ exec .parseByte s = .next { u with
          lineUnit := { s.lineUnit with fifo := rest, parser := .waitStatus }
          linkA := { s.linkA with queue := u.linkA.queue }, linkB := { s.linkB with queue := u.linkB.queue } } := by
  obtain ⟨hparser, hfifo⟩ := h
  obtain ⟨mask, hmask⟩ : ∃ mask, mask = BitVec.ofNat 4 (2 ^ p.val) := ⟨_, rfl⟩
  have hlocal := local_setHolds on mask
  obtain ⟨w, hw⟩ : ∃ w, w = s.setHolds on mask := ⟨_, rfl⟩
  have hrequest : Request.hold.service l [byte (2 ^ p.val), byte (bit on)] (s.framed l [byte (2 ^ p.val), byte (bit on)]) =
      (w.within (s.framed l [byte (2 ^ p.val), byte (bit on)]), { status := .ok, nothing :=
        ((partsOf mask).all fun q => ((s.framed l [byte (2 ^ p.val), byte (bit on)]).perfOf q).hold == on) }) := by
    refine (holdService_byte l (partMask?_twoPow p) (flag?_byte on) _).trans ?_
    rw [← hmask, hw, ← hlocal, framed_within]
  refine ⟨_, exec_request_of_running hready (r := .hold) (by decide) _, ?_⟩
  rw [hrequest, exec_parseByte hfifo]
  obtain ⟨hstatus, hpart, hkind⟩ := statusByte_reads p (kind := if on then 3 else 4) (by cases on <;> decide)
  have hparsed : State.parse { good := true, value := statusByte p (if on then 3 else 4) }
      ({ s with lineUnit := { s.lineUnit with fifo := rest } } : State) =
        w.within { s with lineUnit := { s.lineUnit with fifo := rest, parser := .waitStatus } } := by
    have hholds : ({ s with lineUnit := { s.lineUnit with fifo := rest, parser := .waitStatus } } : State).lineHold on p =
        State.setHolds on mask { s with lineUnit := { s.lineUnit with fifo := rest, parser := .waitStatus } } := by
      rw [State.lineHold, State.setHolds, hmask, partsOf_twoPow]
      rfl
    rw [parse_of_status ((isStatus_iff _).mp hstatus), hw, ← hlocal, within_self, ← hholds, atWait hparser,
      parseStatus_of_kind (k := if on then .holdOn else .holdOff) rfl (by cases on <;> exact hkind)]
    cases on <;> exact congrArg (fun q => State.lineHold _ q
      { s with lineUnit := { s.lineUnit with fifo := rest, parser := .waitStatus } }) hpart
  rw [hparsed]
  cases l <;> rfl

/-- A status byte of a note or a bend starts its frame. -/
theorem parse_start {kind : Nat} (hkind : kind ∈ [1, 2, 5])
    (h : Given.lineAt s .waitStatus { good := true, value := statusByte p kind } rest) : exec .parseByte s =
      .next { s with lineUnit := { s.lineUnit with fifo := rest, parser := .data1 (statusByte p kind) } } := by
  obtain ⟨hparser, hfifo⟩ := h
  obtain ⟨hstatus, -, hnames⟩ := statusByte_reads p (kind := kind) (by simp at hkind ⊢; omega)
  rw [exec_parseByte hfifo, parse_of_status ((isStatus_iff _).mp hstatus), atWait hparser]
  simp only [List.mem_cons, List.not_mem_nil, or_false] at hkind
  obtain rfl | rfl | rfl := hkind
  · rw [parseStatus_of_kind (k := .noteOn) rfl hnames]
    rfl
  · rw [parseStatus_of_kind (k := .noteOff) rfl hnames]
    rfl
  · rw [parseStatus_of_kind (k := .bend) rfl hnames]
    rfl

section
variable {b : Byte} (hb : b.toNat < 128)
include hb

theorem lineKey_val : (lineKey b).val = b.toNat := Nat.mod_eq_of_lt hb

theorem parse_first {kind : Nat} (hkind : kind ∈ [1, 5])
    (h : Given.lineAt s (.data1 (statusByte p kind)) { good := true, value := b } rest) : exec .parseByte s =
      .next { s with lineUnit := { s.lineUnit with fifo := rest, parser := .data2 (statusByte p kind) b } } := by
  obtain ⟨hparser, hfifo⟩ := h
  obtain ⟨-, -, hnames⟩ := statusByte_reads p (kind := kind) (by simp at hkind ⊢; omega)
  rw [exec_parseByte hfifo, parse_of_data hb, atWait hparser]
  simp only [List.mem_cons, List.not_mem_nil, or_false] at hkind
  obtain rfl | rfl := hkind <;> · unfold State.parseData; simp only [hnames]; rfl

theorem parse_noteOff (h : Given.lineAt s (.data1 (statusByte p 2)) { good := true, value := b } rest) :
    exec .parseByte s = .next (({ s with lineUnit := { s.lineUnit with fifo := rest, parser := .waitStatus } } :
      State).keyOff p (lineKey b)).1 := by
  obtain ⟨hparser, hfifo⟩ := h
  obtain ⟨-, hpart, hnames⟩ := statusByte_reads p (kind := 2) (by decide)
  rw [exec_parseByte hfifo, parse_of_data hb, atWait hparser]
  unfold State.parseData
  simp only [hnames, hpart]
  rfl

theorem parse_noteOn {first : Byte} (h : Given.lineAt s (.data2 (statusByte p 1) first) { good := true, value := b } rest) :
    exec .parseByte s = .next (({ s with lineUnit := { s.lineUnit with fifo := rest, parser := .waitStatus } } :
      State).giveNote p (lineKey first) b.toNat .line).1 := by
  obtain ⟨hparser, hfifo⟩ := h
  obtain ⟨-, hpart, hnames⟩ := statusByte_reads p (kind := 1) (by decide)
  rw [exec_parseByte hfifo, parse_of_data hb, atWait hparser, ← lineKey_val hb]
  unfold State.parseData
  simp only [hnames, hpart]
  rfl

theorem parse_bend {first : Byte} (hfirst : first.toNat < 128)
    (h : Given.lineAt s (.data2 (statusByte p 5) first) { good := true, value := b } rest) :
    exec .parseByte s = .next (({ s with lineUnit := { s.lineUnit with fifo := rest, parser := .waitStatus } } :
      State).setBend p (first.toNat + 128 * b.toNat)) := by
  obtain ⟨hparser, hfifo⟩ := h
  obtain ⟨-, hpart, hnames⟩ := statusByte_reads p (kind := 5) (by decide)
  rw [exec_parseByte hfifo, parse_of_data hb, atWait hparser, ← lineKey_val hb, ← lineKey_val hfirst]
  unfold State.parseData
  simp only [hnames, hpart]
  rfl

end
end

/-- Settles O58: the FIFO, the parser's frames and errors, and the pacing timer, each from its own lemma. -/
theorem lineBytesReachTheParser : Obligations.LineBytesReachTheParser := by
  unfold Obligations.LineBytesReachTheParser
  refine ⟨lineByte, fun s p rest => ⟨fun _ => parse_start, fun on h l => parse_hold on h, fun b hb =>
    ⟨fun _ => parse_first hb, parse_noteOff hb, fun first hfirst => ⟨fun h => ?_, parse_noteOn hb⟩⟩⟩,
    fun s b rest => ⟨parse_invalid, fun _ => parse_interrupted, parse_badByte⟩, fun s h => ?_⟩
  · exact ⟨_, parse_bend hb hfirst h, rfl, State.perfOf_setPerf_self .., fun q hq => State.perfOf_setPerf_ne hq ..⟩
  · obtain ⟨hzero, hpos⟩ := lineTimer h
    refine ⟨hzero, fun hcount => ⟨_, hpos hcount, ?_⟩⟩
    rw [postLineError_eq]
    exact ⟨rfl, fun l => by cases l <;> rfl⟩

end Sys2Proof.Machine
end

section
/-! PROOFS. The output engine: glide steps (R163), the codes of the channels (R164 to R170), and what a slot of the
refresh round leaves (R160, R171). -/

namespace Sys2Proof.Machine

/-! ### Glide steps (R163) -/

theorem glideMove_eq (rate position target : Nat) : glideMove rate position target =
    if rate = 0 ∨ ((target : Int) - position).natAbs ≤ rate then { position := target, target := none }
    else { position := if position < target then position + rate else position - rate, target := some target } := by
  have hdistance : (position - target) + (target - position) = ((target : Int) - position).natAbs := by omega
  simp only [glideMove, hdistance]

theorem exec_glideStep {s : State} {v : VoiceId} {target : Nat} (h : Given.gliding s v target) : exec (.glideStep v) s =
    .next (s.setGlide v (glideMove (s.param (s.voice v).part pGlideRate) (s.glide v).position target)) := by
  change execGlideStep v s = _
  simp only [execGlideStep, h]

/-! ### The slots of a voice (R167, R171) -/

theorem nextSlot_eq (n : ChannelId) : nextSlot n = n + 1 := by
  unfold nextSlot
  split
  · next h => exact Fin.ext (by rw [Fin.val_add]; exact (Nat.mod_eq_of_lt (show n.val + 1 < 216 by omega)).symm)
  · next h => exact Fin.ext (by rw [Fin.val_add, show n.val = 215 by omega]; rfl)

/-- The output engine after a slot that drives a code. -/
def State.driven (s : State) (n : ChannelId) (code : Nat) : Output :=
  { slot := some (n + 1), channels := s.output.channels.set n code, dac := code, sha := n }

theorem exec_outputSlot {s : State} {n : ChannelId} (h : s.output.slot = some n) :
    exec .outputSlot s = .next { s.slotClamp n with output := s.driven n (s.slotCode n) } := by
  change execOutputSlot s = _
  simp only [execOutputSlot, h, State.outputSlot, nextSlot_eq]
  rfl

section
variable {s : State} {n : ChannelId} {v : VoiceId} {c : Nat} (h : Given.slotOfVoice s n v c)
include h

theorem slotVoice_of_slotOfVoice : ∃ hn : n.val < 208, slotVoice n.val hn = v ∧ n.val % 13 = c := by
  obtain ⟨-, hval, hc⟩ := h
  have hv := v.isLt
  exact ⟨by omega, Fin.ext (show n.val / 13 = v.val by omega), by omega⟩

theorem slotCode_of_voice : s.slotCode n = s.voiceCode v c := by
  obtain ⟨hn, hvoice, hchannel⟩ := slotVoice_of_slotOfVoice h
  rw [State.slotCode, dif_pos hn, hvoice, hchannel]

theorem slotClamp_of_level (hc : 2 ≤ c) : s.slotClamp n = s := by
  obtain ⟨hn, -, hchannel⟩ := slotVoice_of_slotOfVoice h
  unfold State.slotClamp
  rw [dif_pos hn, hchannel]
  obtain ⟨k, rfl⟩ := Nat.exists_eq_add_of_le' hc
  rfl

theorem slotClamp_of_pitch {second : Bool} (hc : c = bit second) : s.slotClamp n = s.noteClamp v second := by
  obtain ⟨hn, hvoice, hchannel⟩ := slotVoice_of_slotOfVoice h
  unfold State.slotClamp
  rw [dif_pos hn, hchannel, hvoice]
  cases second <;> rw [hc] <;> rfl

/-- A slot that meets no clamp changes the output engine alone. -/
theorem exec_levelSlot (hc : 2 ≤ c) {code : Nat} (hcode : s.voiceCode v c = code) :
    exec .outputSlot s = .next { s with output := s.driven n code } := by
  rw [exec_outputSlot h.1, slotClamp_of_level h hc, slotCode_of_voice h, hcode]

theorem exec_pitchSlot {second : Bool} (hc : c = bit second) : exec .outputSlot s =
    .next { s.noteClamp v second with output := s.driven n (s.pitchChannel v second).1 } := by
  rw [exec_outputSlot h.1, slotClamp_of_pitch h hc, slotCode_of_voice h]
  cases second <;> rw [hc] <;> rfl

end

section
variable {s : State} {v : VoiceId}

theorem noteClamp_of_quiet {second : Bool} (h : (s.pitchChannel v second).2 = none) : s.noteClamp v second = s := by
  unfold State.noteClamp
  dsimp only
  rw [h]
  cases (s.voice v).phase.note? <;> rfl

theorem pitchChannel_of_tuning {override : Nat} (h : (s.voice v).phase = .tuning override) (second : Bool) :
    s.pitchChannel v second = (override, none) := by
  unfold State.pitchChannel
  rw [h]

theorem pitchChannel_of_not_tuning (h : (s.voice v).phase.isTuning = false) (second : Bool) :
    s.pitchChannel v second = pitchCode (s.cal (oscOf v second)).map (s.targetPitch v second) := by
  unfold State.pitchChannel
  cases hp : (s.voice v).phase with
  | tuning override => rw [hp] at h; exact absurd h.symm Bool.false_ne_true
  | _ => rfl

theorem plain_voiceCode {i : ParamId} (h : (c, i) ∈ [(2, pPwA), (3, pPwB), (4, pMixA), (5, pMixB), (7, pResonance),
      (8, pEnvAttack), (9, pEnvDecay), (10, pEnvSustain), (11, pEnvRelease)]) :
    2 ≤ c ∧ s.voiceCode v c = 4 * s.param (s.voice v).part i := by
  simp only [List.mem_cons, Prod.mk.injEq, List.not_mem_nil, or_false] at h
  rcases h with ⟨rfl, rfl⟩ | ⟨rfl, rfl⟩ | ⟨rfl, rfl⟩ | ⟨rfl, rfl⟩ | ⟨rfl, rfl⟩ | ⟨rfl, rfl⟩ | ⟨rfl, rfl⟩ | ⟨rfl, rfl⟩ |
    ⟨rfl, rfl⟩ <;> exact ⟨by decide, rfl⟩

theorem vcaCode_of_silent (h : (s.voice v).phase.isTuning = true ∨ (s.voice v).phase.isOffline = true) :
    s.vcaCode v = 0 := by
  simp [State.vcaCode, h]

/-! ### Target pitch (R42, R159) -/

theorem unisonOffset_eq (i u spread : Nat) : unisonOffset i u spread =
    if 2 ≤ u then ((2 * (i : Int) - ((u : Int) - 1)) * spread).tdiv ((u : Int) - 1) else 0 := by
  unfold unisonOffset
  by_cases h : u ≤ 1
  · rw [if_pos h, if_neg (by omega)]
  · rw [if_neg h, if_pos (by omega)]

theorem unisonTerm_eq (s : State) (v : VoiceId) : s.unisonTerm v =
    if (s.voice v).phase.isGated = true ∧ s.param (s.voice v).part pVoiceMode = 2
        ∧ v ∈ (s.perfOf (s.voice v).part).monoSet ∧ 2 ≤ (s.perfOf (s.voice v).part).monoSet.length then
      ((2 * ((s.perfOf (s.voice v).part).monoSet.idxOf v : Int)
        - (((s.perfOf (s.voice v).part).monoSet.length : Int) - 1)) * s.param (s.voice v).part pUnisonSpread).tdiv
          (((s.perfOf (s.voice v).part).monoSet.length : Int) - 1)
    else 0 := by
  simp only [State.unisonTerm, unisonOffset_eq]
  by_cases hmember : (s.voice v).phase.isGated = true ∧ s.param (s.voice v).part pVoiceMode = 2
      ∧ v ∈ (s.perfOf (s.voice v).part).monoSet
  · obtain ⟨hgated, hmode, hin⟩ := hmember
    simp [hgated, hmode, hin]
  · rw [if_neg hmember, if_neg fun ⟨hgated, hmode, hin, _⟩ => hmember ⟨hgated, hmode, hin⟩]

theorem targetPitch_eq (s : State) (v : VoiceId) (second : Bool) : s.targetPitch v second = Given.targetPitch s v second := by
  unfold State.targetPitch Given.targetPitch
  dsimp only
  rw [unisonTerm_eq]
  rfl

theorem pitchCode_of_inside {t : Int} (hlow : 0 ≤ t) (hhigh : t ≤ 32767) :
    pitchCode .nominal t = (2 * t.toNat, none) := by
  have hclamp : clampCode t = t.toNat := by unfold clampCode; omega
  have hcode : clampCode (mapCode .nominal t.toNat) = 2 * t.toNat := by
    change (max 0 (min 65535 (2 * (t.toNat : Int)))).toNat = _
    omega
  have hquiet : (if t < 0 then some ClampStage.target else if mapCode .nominal t.toNat < 0 then some .low
      else if 65535 < mapCode .nominal t.toNat then some .high else none) = none := by
    rw [if_neg (by omega), if_neg, if_neg]
    · change ¬(65535 : Int) < 2 * (t.toNat : Int)
      omega
    · change ¬2 * (t.toNat : Int) < 0
      omega
  simp only [pitchCode, hclamp, hcode, hquiet]

end

/-- Settles O59: the glide step and each kind of slot from its own lemma. -/
theorem glideStepsAndOutputSlots : Obligations.GlideStepsAndOutputSlots := by
  unfold Obligations.GlideStepsAndOutputSlots
  refine ⟨fun s v target h => ⟨_, exec_glideStep h, rfl, fun w hw => State.glide_setGlide_ne hw .., ?_⟩,
    fun s n => ⟨fun g hslot hn hg => ?_, fun v => ⟨fun c i hc h => ?_, fun c override h hc hphase => ?_,
      fun h hphase => ?_, fun second h => ?_⟩⟩⟩
  · rw [State.glide_setGlide_self, glideMove_eq]
  · have hglobal : ¬n.val < 208 := by omega
    have hcode : s.slotCode n = 4 * s.global g := by
      have hg' : slotGlobal n.val n.isLt = g := Fin.ext (show 8 + (n.val - 208) = g.val by omega)
      rw [State.slotCode, dif_neg hglobal, hg']
    have hclamp : s.slotClamp n = s := by rw [State.slotClamp, dif_neg hglobal]
    rw [exec_outputSlot hslot, hclamp, hcode]
    rfl
  · obtain ⟨hlevel, hcode⟩ := plain_voiceCode (s := s) (v := v) hc
    exact exec_levelSlot h hlevel hcode
  · obtain ⟨second, rfl⟩ : ∃ second, c = bit second := by
      obtain rfl | rfl : c = 0 ∨ c = 1 := by omega
      · exact ⟨false, rfl⟩
      · exact ⟨true, rfl⟩
    rw [exec_pitchSlot h rfl, noteClamp_of_quiet (by rw [pitchChannel_of_tuning hphase]), pitchChannel_of_tuning hphase]
    rfl
  · exact exec_levelSlot h (by decide) (vcaCode_of_silent hphase)
  · intro p pitch hlow hhigh
    obtain ⟨hslot, htuning, hnominal, hmode⟩ := h
    have htarget : s.targetPitch v second = pitch := by
      have hunison : s.unisonTerm v = 0 := by
        rw [State.unisonTerm]
        exact if_neg fun ⟨_, hmode', _⟩ => hmode hmode'
      rw [State.targetPitch, hunison, Int.add_zero]
      rfl
    have hchannel : s.pitchChannel v second = (2 * pitch.toNat, none) := by
      rw [pitchChannel_of_not_tuning htuning, hnominal, htarget, pitchCode_of_inside hlow hhigh]
    rw [exec_pitchSlot hslot rfl, noteClamp_of_quiet (by rw [hchannel]), hchannel]
    rfl

end Sys2Proof.Machine
end

section
/-! PROOFS. The output engine: cutoff and amplifier codes (R168, R169), the calibrated map (R164 to R166) and the
pitch clamp of a slot (R160). -/

namespace Sys2Proof.Machine

/-! ### Notices -/

theorem SameButLinks.voice {s t : State} (h : SameButLinks s t) (v : VoiceId) : t.voice v = s.voice v := by
  unfold SameButLinks at h
  rw [h]
  rfl

theorem LinkUnit.told_congr {yes : Bool} {n m : Notice} (h : yes = true → n = m) (u : LinkUnit) :
    u.told yes n = u.told yes m := by
  cases yes with
  | false => rfl
  | true => rw [h rfl]

/-! ### Cutoff and amplifier (R168, R169) -/

section
variable {s : State} {v : VoiceId}

theorem cvKey_eq (x : Voice) : (x.cvKey : Int) = (x.phase.note?.map fun n => (n.key.val : Int)).getD 60 := by
  unfold Voice.cvKey
  cases x.phase.note? <;> rfl

theorem cutoffCode_eq (s : State) (v : VoiceId) : s.cutoffCode v =
    clampCode (4 * s.param (s.voice v).part pCutoff
      + 2 * (((s.voice v).cvKey : Int) - 60) * s.param (s.voice v).part pFltKeytrack
      + (s.voice v).cvVelocity * s.param (s.voice v).part pFltVelocity * 4 / 127) := by
  simp only [State.cutoffCode, Int.natCast_ediv, Int.natCast_mul]
  rfl

theorem vcaCode_of_sounding (htuning : (s.voice v).phase.isTuning = false) (hoffline : (s.voice v).phase.isOffline = false) :
    s.vcaCode v =
      let p := (s.voice v).part
      let velocity : Int := (s.voice v).cvVelocity
      let base : Int :=
        4 * s.param p pVcaLevel * (16383 * 127 - s.param p pVcaVelocity * (127 - velocity)) / (16383 * 127)
      let accent : Int := s.param p pModDepth * s.param p pModVelocity * velocity / (16383 * 127)
      clampCode (base + base * accent / 65536) := by
  simp only [State.vcaCode, htuning, hoffline, Bool.or_self, Bool.false_eq_true, if_false, vcaFormula,
    Int.natCast_ediv, Int.natCast_mul]
  rfl

end

/-! ### The calibrated map (R164 to R166) -/

/-- A list of P values that rises from each value to the next (R152). -/
def Rises (ps : List Nat) : Prop := ∀ x ∈ ps.zip ps.tail, x.1 < x.2

theorem Rises.tail {p : Nat} {ps : List Nat} (h : Rises (p :: ps)) : Rises ps := by
  cases ps with
  | nil => exact nofun
  | cons q ps => exact fun x hx => h x (List.mem_cons_of_mem _ hx)

theorem Rises.lt_of_cons {p q : Nat} {ps : List Nat} (h : Rises (p :: q :: ps)) : p < q := h (p, q) (by simp)

theorem Rises.le_getElem? {p : Nat} {ps : List Nat} (h : Rises (p :: ps)) {j x : Nat} (hx : (p :: ps)[j]? = some x) :
    p ≤ x := by
  induction j generalizing p ps with
  | zero => simp at hx; omega
  | succ j ih =>
    cases ps with
    | nil => simp at hx
    | cons q ps => exact h.lt_of_cons.le.trans (ih h.tail hx)

theorem spanCode_eq (a p q t : Nat) : spanCode a p q t =
    2048 + 8192 * (a : Int) + (2 * (((t : Int) - p) * 8192) + ((q : Int) - p)) / (2 * ((q : Int) - p)) := rfl

/-- The span that R166 names is the one that the map's search stops at. -/
theorem calibratedCode_of_span {t : Nat} (ps : List Nat) (hrise : Rises ps) (a j : Nat) {p q : Nat}
    (hp : ps[j]? = some p) (hq : ps[j + 1]? = some q) (hlow : j = 0 ∨ p ≤ t) (hhigh : j + 2 = ps.length ∨ t < q) :
    calibratedCode t a ps = spanCode (a + j) p q t := by
  induction ps generalizing a j with
  | nil => simp at hp
  | cons p₀ ps ih =>
    cases ps with
    | nil => simp at hq
    | cons q₀ ps =>
      cases ps with
      | nil =>
        obtain rfl : j = 0 := by
          have := (List.getElem?_eq_some_iff.mp hq).1
          simp at this
          omega
        simp at hp hq
        rw [← hp, ← hq]
        rfl
      | cons r ps =>
        rw [show calibratedCode t a (p₀ :: q₀ :: r :: ps) =
          if t < q₀ then spanCode a p₀ q₀ t else calibratedCode t (a + 1) (q₀ :: r :: ps) from rfl]
        cases j with
        | zero =>
          simp at hp hq
          have hbelow : t < q := hhigh.resolve_left (by simp)
          rw [← hp, ← hq, if_pos (by omega)]
          rfl
        | succ j =>
          have hpast : q₀ ≤ t := (hrise.tail.le_getElem? hp).trans (hlow.resolve_left (Nat.succ_ne_zero j))
          rw [if_neg (by omega), ih hrise.tail (a + 1) j hp hq (hlow.imp (fun h => absurd h (by omega)) id)
            (hhigh.imp (fun h => by simp at h ⊢; omega) id), Nat.add_right_comm, Nat.add_assoc]

theorem mapsTo_mapCode {m : CalMap} (hrise : ∀ first ps, m = .calibrated first ps → Rises ps) (t : Nat) :
    Given.mapsTo m t (mapCode m t) := by
  cases m with
  | nominal => exact rfl
  | calibrated first ps =>
    intro j _ p q hp hq hlow hhigh
    refine (calibratedCode_of_span ps (hrise first ps rfl) first j hp hq (hlow.imp id Int.ofNat_le.mp)
      (hhigh.imp id Int.ofNat_lt.mp)).trans ?_
    rw [spanCode_eq]

/-! ### The clamp of a pitch slot (R160) -/

/-- The stage at which a pitch is clamped (R160). -/
def clampStage (m : CalMap) (target : Int) : Option ClampStage :=
  let code := mapCode m (clampCode target)
  if target < 0 then some .target else if code < 0 then some .low else if 65535 < code then some .high else none

theorem pitchCode_eq (m : CalMap) (target : Int) :
    pitchCode m target = (clampCode (mapCode m (clampCode target)), clampStage m target) := rfl

theorem clampStage_isSome (m : CalMap) (target : Int) : (clampStage m target).isSome =
    decide (target < 0 ∨ mapCode m (clampCode target) < 0 ∨ 65535 < mapCode m (clampCode target)) := by
  unfold clampStage
  dsimp only
  split_ifs <;> simp [*]

theorem clampStage_code {m : CalMap} {target : Int} {stage : ClampStage} (h : clampStage m target = some stage) :
    stage.code = if target < 0 then 0 else if mapCode m (clampCode target) < 0 then 1 else 2 := by
  unfold clampStage at h
  dsimp only at h
  split_ifs at h ⊢ <;> cases h <;> rfl

section
variable {s : State} {v : VoiceId}

/-- What a pitch slot does besides its code: a clamp of a voice with a key is marked, and told once. -/
theorem noteClamp_effect (s : State) (v : VoiceId) (second : Bool) :
    let x := s.voice v
    let clamped : Bool := (s.pitchChannel v second).2.isSome && x.phase.note?.isSome
    s.noteClamp v second = { s with
      voices := (s.noteClamp v second).voices, linkA := (s.noteClamp v second).linkA
      linkB := (s.noteClamp v second).linkB }
    ∧ (s.noteClamp v second).voice v = { x with clamped := x.clamped || clamped }
    ∧ (∀ w, w ≠ v → (s.noteClamp v second).voice w = s.voice w)
    ∧ ∀ l, (s.noteClamp v second).link l = (s.link l).told
        (clamped && (!x.clamped && (s.link l).queue.mask.getLsbD 0))
        { kind := .pitchClamped, subject := v
          value1 := 256 * x.part.val + ((x.phase.note?.map fun n => n.key.val).getD 60)
          value2 := 256 * bit second + ((s.pitchChannel v second).2.map ClampStage.code).getD 2, stamp := s.timestamp } := by
  intro x clamped
  by_cases hquiet : clamped = false ∨ x.clamped = true
  · have hsame : s.noteClamp v second = s := by
      unfold State.noteClamp
      dsimp only
      cases hn : (s.voice v).phase.note? <;> cases hs : (s.pitchChannel v second).2
      case some.some =>
        have hflag : x.clamped = true := hquiet.resolve_left (by simp [clamped, x, hn, hs])
        exact if_pos hflag
      all_goals rfl
    rw [hsame]
    refine ⟨rfl, ?_, fun _ _ => rfl, fun l => ?_⟩
    · obtain h | h := hquiet
      · rw [h, Bool.or_false]
      · rw [h, Bool.true_or, ← h]
    · obtain h | h := hquiet <;> rw [h]
      · rw [Bool.false_and]; rfl
      · rw [Bool.not_true, Bool.false_and, Bool.and_false]; rfl
  · obtain ⟨hclamped, hflag⟩ := not_or.mp hquiet
    rw [Bool.not_eq_false] at hclamped
    rw [Bool.not_eq_true] at hflag
    obtain ⟨hstage, hnote⟩ := (Bool.and_eq_true _ _).mp hclamped
    obtain ⟨stage, hstage⟩ := Option.isSome_iff_exists.mp hstage
    obtain ⟨note, hnote⟩ := Option.isSome_iff_exists.mp hnote
    have htold : s.noteClamp v second = (s.setVoice v { x with clamped := true }).post .pitchClamped v
        (pair x.part note.key) (pair (bit second) stage.code) := by
      unfold State.noteClamp
      dsimp only
      rw [hnote, hstage]
      exact if_neg (by rw [hflag]; exact Bool.false_ne_true)
    rw [htold, hclamped, hflag, hnote, hstage]
    have hframe : SameButLinks (s.setVoice v { x with clamped := true }) _ :=
      sameButLinks_post .pitchClamped v (pair x.part note.key) (pair (bit second) stage.code) _
    have hlink := State.link_post_told .pitchClamped v (pair x.part note.key) (pair (bit second) stage.code)
      (s.setVoice v { x with clamped := true })
    have hvoice := hframe.voice
    generalize State.post .pitchClamped v (pair x.part note.key) (pair (bit second) stage.code)
      (s.setVoice v { x with clamped := true }) = t at *
    refine ⟨?_, ?_, fun w hw => ?_, fun l => ?_⟩
    · rw [hframe]
      rfl
    · rw [hvoice, State.voice_setVoice_self]
      rfl
    · rw [hvoice, State.voice_setVoice_ne hw]
    · rw [hlink]
      cases l <;> rfl

end

/-- Settles O60: cutoff and amplifier by their formulas, and a pitch slot by its map and its clamp. -/
theorem slotsMapPitchAndLevels : Obligations.SlotsMapPitchAndLevels := by
  unfold Obligations.SlotsMapPitchAndLevels
  intro s n v p key velocity clamp slot
  have hkey : ((s.voice v).cvKey : Int) = key := cvKey_eq _
  have hvelocity : ((s.voice v).cvVelocity : Int) = velocity := rfl
  refine ⟨fun h => ?_, fun h htuning hoffline => ?_, fun second h => ?_⟩
  · refine exec_levelSlot h (by decide) ((cutoffCode_eq s v).trans ?_)
    rw [hkey, hvelocity]
    rfl
  · intro base accent
    refine exec_levelSlot h (by decide) ((vcaCode_of_sounding htuning hoffline).trans ?_)
    rw [hvelocity]
    rfl
  · intro pitch
    obtain ⟨hslot, htuning, hmap⟩ := h
    have hchannel := pitchChannel_of_not_tuning htuning second
    rw [targetPitch_eq, pitchCode_eq] at hchannel
    obtain ⟨hframe, hvoice, hothers, hlink⟩ := noteClamp_effect s v second
    refine ⟨_, exec_pitchSlot hslot rfl, mapCode (s.cal (oscOf v second)).map (clamp pitch), mapsTo_mapCode ?_ _, ?_, ?_⟩
    · intro first ps hcal
      rw [hcal] at hmap
      exact hmap.2
    · rw [hchannel]
      rfl
    · intro clamped stage
      have hstage : (s.pitchChannel v second).2 = clampStage (s.cal (oscOf v second)).map pitch := by rw [hchannel]
      have hclamped : ((s.pitchChannel v second).2.isSome && (s.voice v).phase.note?.isSome) = clamped := by
        rw [hstage, clampStage_isSome]
        rfl
      rw [hclamped] at hvoice hlink
      refine ⟨congrArg (fun t : State => { t with output := s.driven n (s.pitchChannel v second).1 }) hframe, hvoice,
        hothers, fun l => (hlink l).trans (LinkUnit.told_congr (fun hyes => ?_) _)⟩
      obtain ⟨hstage', hnote⟩ := (Bool.and_eq_true _ _).mp (hclamped.trans ((Bool.and_eq_true _ _).mp hyes).1)
      obtain ⟨met, hmet⟩ := Option.isSome_iff_exists.mp hstage'
      obtain ⟨note, hnote⟩ := Option.isSome_iff_exists.mp hnote
      have hcode := clampStage_code (hstage.symm.trans hmet)
      have hkey : key = note.key.val := by
        change ((s.voice v).phase.note?.map fun x => (x.key.val : Int)).getD 60 = _
        rw [hnote]
        rfl
      rw [hmet, hnote, hkey]
      exact congrArg (fun code : Nat => ({ kind := .pitchClamped, subject := v, value1 := 256 * p.val + note.key.val
                                           value2 := 256 * bit second + code, stamp := s.timestamp } : Notice)) hcode

end Sys2Proof.Machine
end

section
/-! PROOFS. Writes of STRUCT parameters: what a PARAM_SET does around the part reconcile, and the stages of the reconcile
that have no work (R55 to R57, R60 to R65). -/

namespace Sys2Proof.Machine

/-! ### What the reconcile leaves -/

theorem Local.self {f : State → State} (h : Local f) (s : State) : f s = (f s).within s := h s s

theorem sameButVoices_repeatStep {f : State → State} (h : ∀ s, SameButVoices s (f s)) (n : Nat) (s : State) :
    SameButVoices s (repeatStep f n s) := by
  induction n generalizing s with
  | zero => exact .refl s
  | succ n ih => exact (h s).trans (ih (f s))

theorem sameButVoices_maskStage (p : PartId) (s : State) : SameButVoices s (s.maskStage p) :=
  SameButVoices.foldl (fun s v => by
    unfold State.maskVoice
    split_ifs
    · exact .refl s
    · exact sameButVoices_releaseAndLeave v s
    · exact sameButVoices_cancelAndLeave v s
    · exact .refl s) _ s

theorem sameButVoices_budgetRelease (p : PartId) (s : State) : SameButVoices s (s.budgetRelease p) := by
  unfold State.budgetRelease
  split
  · split
    · exact sameButVoices_releaseAndLeave _ s
    · exact .refl s
  · exact .refl s

theorem sameButVoices_budgetCancel (p : PartId) (s : State) : SameButVoices s (s.budgetCancel p) := by
  unfold State.budgetCancel
  split
  · split
    · exact sameButVoices_cancelAndLeave _ s
    · exact .refl s
  · exact .refl s

theorem sameButVoices_budgetStage (p : PartId) (s : State) : SameButVoices s (s.budgetStage p) :=
  (sameButVoices_repeatStep (sameButVoices_budgetRelease p) 16 s).trans
    (sameButVoices_repeatStep (sameButVoices_budgetCancel p) 16 _)

theorem SameButVoices.ite {s t : State} {c : Prop} [Decidable c] (h : SameButVoices s t) :
    SameButVoices s (if c then t else s) := by
  split
  · exact h
  · exact .refl s

theorem sameButVoices_keyStage (old : Vector Nat 40) (p : PartId) (s : State) : SameButVoices s (s.keyStage old p) :=
  (SameButVoices.ite (sameButVoices_allOffPart s p)).trans (SameButVoices.ite (sameButVoices_reselect p _))

theorem sameButNotes_reconcile (old : Vector Nat 40) (p : PartId) (s : State) : SameButNotes s (s.reconcile old p) := by
  rw [reconcile_eq]
  have hmode : SameButVoices s (State.stageMode old p s) := .ite (sameButVoices_allOffPart s p)
  have hmask := hmode.trans (.ite (sameButVoices_maskStage p _) : SameButVoices _ (State.stageMask old p _))
  have hbudget := hmask.trans (.ite (sameButVoices_budgetStage p _) : SameButVoices _ (State.stageBudget old p _))
  exact ((hbudget.trans (sameButVoices_keyStage old p _)).notes.trans (sameButNotes_passZeroWindows _)).trans
    (SameButVoices.notes (.ite (sameButVoices_offerAll allVoices _)))

/-! ### A PARAM_SET that changes a STRUCT parameter (R54 to R57) -/

theorem State.writeParam_of_struct {s : State} {p : PartId} {i : ParamId} (hmorph : s.isMorphing p i = false) {x : Nat}
    (hstruct : isStruct i = true) (hne : x ≠ s.param p i) (w : Writer) : s.writeParam w p i x =
      (((s.setParam p i x).reconcile s.params[p] p).tellMap p i x).postParamChanged w p i x := by
  have hrest : (isStruct i && x != s.params[p][i]) = true := by
    rw [hstruct, Bool.true_and, bne_iff_ne]
    exact hne
  have htake : (s.setParam p i x).takeAway p i = s.setParam p i x := State.takeAway_of_not hmorph
  simp only [State.writeParam, htake, hmorph, hrest, if_true, Bool.false_eq_true, if_false]

/-- A PARAM_SET that changes a STRUCT parameter, in terms of the state that its reconcile leaves. -/
theorem exec_paramSet_struct {s w : State} {l : Link} {p : PartId} {i : ParamId} {x : Nat} (hready : s.ready l)
    (hcls : (descriptor i).cls = .struct) (hmorph : ∀ m ∈ s.slotOf p, ∀ e ∈ m.entries, e.index ≠ i) (hx : x < 65536)
    (hne : Given.clamped i x ≠ s.param p i)
    (hw : (s.setParam p i (Given.clamped i x)).reconcile s.params[p] p = w) :
    ∃ t, exec (.paramSet l ([byte p, byte i] ++ field16 x)) s = .next t
      ∧ t = { w with knobs := t.knobs, linkA := t.linkA, linkB := t.linkB }
      ∧ Given.paramWritten s t l p i x (Given.clamped i x) := by
  obtain ⟨y, hy⟩ : ∃ y, y = Given.clamped i x := ⟨_, rfl⟩
  rw [← hy] at hw hne ⊢
  have hwithin : w = w.within s := by
    rw [← hw]
    exact (local_reconcile s.params[p] p).comp (fun _ _ => rfl) s s
  have hparams : w.params = (s.setParam p i y).params := by
    rw [← hw]
    exact (sameButNotes_reconcile _ p _).params
  have hstamp : w.timestamp = s.timestamp := by
    rw [← hw]
    exact (sameButNotes_reconcile _ p _).timestamp
  obtain ⟨f, hf⟩ : ∃ f, f = s.framed l ([byte p, byte i] ++ field16 x) := ⟨_, rfl⟩
  have hframed : (f.setParam p i y).reconcile f.params[p] p = w.within f := by
    have hset : f.setParam p i y = (s.setParam p i y).within f := by rw [hf]; cases l <;> rfl
    have hold : f.params[p] = s.params[p] := by rw [hf]; cases l <;> rfl
    rw [hset, hold, local_reconcile, hw]
  have hslotOf : f.slotOf p = s.slotOf p := by rw [hf]; exact State.slotOf_framed ..
  have hparam : f.param p i = s.param p i := by rw [hf]; exact State.param_framed ..
  have hwrite := State.writeParam_of_struct (s := f) (p := p) (i := i) (x := y)
    (State.isMorphing_eq_false (by rw [hslotOf]; exact hmorph)) (by simp [isStruct, hcls]) (by rw [hparam]; exact hne)
    (.link l)
  have hclamp : clampParam i x = y := hy.symm
  obtain ⟨t, hexec, ⟨z, ht⟩, hown, hother⟩ := exec_paramSet_of (u := (w.within f).tellMap p i y) hready hx
    (by rw [← hf, hclamp, hwrite, hframed])
    (fun m => by rw [State.tellMap_link, ← hf]; cases m <;> rfl)
    ((sameButImage_tellMap p i _ _).timestamp.trans hstamp)
  have hlinks : SameButLinks ((w.within f).tellMap p i y) t := by
    rw [ht, hclamp]
    exact (sameButLinks_postWhere _ _ _ _ _ _).trans (sameButLinks_setLink l z _)
  have htell : (w.within f).tellMap p i y = { w.within f with knobs := ((w.within f).tellMap p i y).knobs } := by
    unfold State.tellMap
    generalize Vector.ofFn ((w.within f).toldKnob p i y) = b
    rfl
  have hknob (k : ControlId) : t.knob k = (s.knob k).map (Given.told p (Given.only i y) (Given.reportedAt s k)) := by
    have hreported : Given.reportedAt (w.within f) k = Given.reportedAt s k := by rw [hf]; cases l <;> rfl
    have hbound : (w.within f).knob k = s.knob k := by rw [hf]; cases l <;> rfl
    rw [← hbound, ← hreported, ← State.knob_tellMap]
    unfold SameButLinks at hlinks
    rw [hlinks]
    rfl
  have hframe : t = { w with knobs := t.knobs, linkA := t.linkA, linkB := t.linkB } := by
    unfold SameButLinks at hlinks
    rw [htell] at hlinks
    rw [hlinks, hwithin, hf]
    cases l <;> rfl
  have hvalue (q : PartId) (j : ParamId) : t.param q j = (s.setParam p i y).param q j := by
    have htparams : t.params = w.params := by rw [hframe]
    rw [State.param, htparams, hparams]
    rfl
  rw [hclamp] at hown hother
  exact ⟨t, hexec, hframe, (hvalue p i).trans (State.param_setParam_self ..),
    fun q j hqj => (hvalue q j).trans (State.param_setParam_ne hqj _ _), hknob, hown, hother⟩

/-! ### Stages without work (R60 to R65) -/

section
variable {s : State} {old : Vector Nat 40} {p : PartId}

theorem stageMode_of_same (h : s.param p pVoiceMode = old[pVoiceMode]) : State.stageMode old p s = s :=
  if_neg (by simp [State.changed, h])

theorem stageMask_of_same (hlo : s.param p pMaskLo = old[pMaskLo]) (hhi : s.param p pMaskHi = old[pMaskHi]) :
    State.stageMask old p s = s := if_neg (by simp [State.changed, hlo, hhi])

theorem repeatStep_of_fixed {f : State → State} (h : f s = s) (n : Nat) : repeatStep f n s = s := by
  induction n with
  | zero => rfl
  | succ n ih => rw [repeatStep, h, ih]

/-- A budget that the load fits into has no work. -/
theorem budgetStage_of_fits (h : s.load p ≤ s.param p pMaxVoices) : s.budgetStage p = s := by
  have hrelease : s.budgetRelease p = s := if_neg (Nat.not_lt.mpr h)
  have hcancel : s.budgetCancel p = s := if_neg (Nat.not_lt.mpr h)
  rw [State.budgetStage, repeatStep_of_fixed hrelease, repeatStep_of_fixed hcancel]

theorem stageBudget_of_fits (h : s.param p pMaxVoices < old[pMaxVoices] → s.load p ≤ s.param p pMaxVoices) :
    State.stageBudget old p s = s := by
  unfold State.stageBudget
  split
  · next hlow => exact budgetStage_of_fits (h hlow)
  · rfl

theorem reselect_of_empty (h : (s.perfOf p).held = []) : s.reselect p = s := by
  have hnone : s.selection p = none := by
    unfold State.selection selectEntry
    rw [h]
    split <;> rfl
  unfold State.reselect
  rw [hnone]

theorem keyStage_of_enabled (henable : ¬(old[pPartEnable] = 1 ∧ s.param p pPartEnable = 0)) : s.keyStage old p =
    if s.changed old p pKeyPriority && !s.isPoly p then s.reselect p else s := by
  unfold State.keyStage
  dsimp only
  rw [if_neg henable]

theorem keyStage_of_disabled (henable : old[pPartEnable] = 1 ∧ s.param p pPartEnable = 0) : s.keyStage old p =
    if (s.allOffPart p).changed old p pKeyPriority && !(s.allOffPart p).isPoly p then (s.allOffPart p).reselect p
    else s.allOffPart p := by
  unfold State.keyStage
  dsimp only
  rw [if_pos henable]

theorem keyStage_of_none (henable : ¬(old[pPartEnable] = 1 ∧ s.param p pPartEnable = 0))
    (hpriority : s.param p pKeyPriority = old[pKeyPriority] ∨ s.param p pVoiceMode = 0 ∨ (s.perfOf p).held = []) :
    s.keyStage old p = s := by
  rw [keyStage_of_enabled henable]
  rcases hpriority with h | h | h
  · exact if_neg (by simp [State.changed, h])
  · exact if_neg (by simp [State.isPoly, h])
  · split
    · exact reselect_of_empty h
    · rfl

theorem maskGained_of_same (hlo : s.param p pMaskLo = old[pMaskLo]) (hhi : s.param p pMaskHi = old[pMaskHi]) :
    s.maskGained old p = false := by
  have hsame (v : VoiceId) : s.inMask p v = inOldMask old v := by rw [State.inMask, inOldMask, hlo, hhi]
  simp [State.maskGained, hsame]

theorem stageOffer_of_none (hmax : s.param p pMaxVoices ≤ old[pMaxVoices]) (hreserve : s.param p pReserve ≤ old[pReserve])
    (hlo : s.param p pMaskLo = old[pMaskLo]) (hhi : s.param p pMaskHi = old[pMaskHi]) : State.stageOffer old p s = s := by
  refine if_neg (not_or.mpr ⟨Nat.not_lt.mpr hmax, not_or.mpr ⟨Nat.not_lt.mpr hreserve, ?_⟩⟩)
  rw [maskGained_of_same hlo hhi]
  exact Bool.false_ne_true

end

/-- Where no stage has work for any parameter, the reconcile only passes windows of 0. -/
theorem reconcile_of_noStage {s u : State} {p : PartId} (hvoices : u.voices = s.voices) (hperf : u.perf = s.perf)
    (h : ∀ j, Given.noStage s p j (u.param p j)) : u.reconcile s.params[p] p = u.passZeroWindows := by
  have hload : u.load p = s.load p := by simp only [State.load, State.voice, hvoices]
  have hheld : u.perfOf p = s.perfOf p := by simp only [State.perfOf, hperf]
  have hsame (j : ParamId) (hj : j = pVoiceMode ∨ j = pMaskLo ∨ j = pMaskHi) : u.param p j = s.param p j := by
    rcases h j with h | h | ⟨h, -⟩ | ⟨h, -⟩ | ⟨h, -⟩ | ⟨h, -⟩
    · exact h
    all_goals rcases hj with rfl | rfl | rfl <;> exact absurd h (by decide)
  have hmax : u.param p pMaxVoices ≤ s.param p pMaxVoices
      ∧ (u.param p pMaxVoices < s.param p pMaxVoices → u.load p ≤ u.param p pMaxVoices) := by
    rcases h pMaxVoices with h | h | ⟨h, -⟩ | ⟨h, -⟩ | ⟨-, hlow, hfits⟩ | ⟨h, -⟩
    · exact ⟨h.le, fun hlow => absurd h hlow.ne⟩
    · exact absurd h (by decide)
    · exact absurd h (by decide)
    · exact absurd h (by decide)
    · exact ⟨hlow.le, fun _ => hload.trans_le hfits⟩
    · exact absurd h (by decide)
  have hreserve : u.param p pReserve ≤ s.param p pReserve := by
    rcases h pReserve with h | h | ⟨-, h⟩ | ⟨h, -⟩ | ⟨h, -⟩ | ⟨h, -⟩
    · exact h.le
    · exact absurd h (by decide)
    · exact h.le
    all_goals exact absurd h (by decide)
  have henable : ¬(s.param p pPartEnable = 1 ∧ u.param p pPartEnable = 0) := fun ⟨hold, hnew⟩ => by
    rcases h pPartEnable with h | h | ⟨h, -⟩ | ⟨-, h⟩ | ⟨h, -⟩ | ⟨h, -⟩
    · omega
    · exact absurd h (by decide)
    · exact absurd h (by decide)
    · omega
    all_goals exact absurd h (by decide)
  have hpriority : u.param p pKeyPriority = s.param p pKeyPriority ∨ u.param p pVoiceMode = 0 ∨ (u.perfOf p).held = [] := by
    rw [hsame pVoiceMode (.inl rfl), hheld]
    rcases h pKeyPriority with h | h | ⟨h, -⟩ | ⟨h, -⟩ | ⟨h, -⟩ | ⟨-, h⟩
    · exact .inl h
    case inr.inr.inr.inr.inr => exact .inr h
    all_goals exact absurd h (by decide)
  have hlo := hsame pMaskLo (.inr (.inl rfl))
  have hhi := hsame pMaskHi (.inr (.inr rfl))
  have hpassed (j : ParamId) : u.passZeroWindows.param p j = u.param p j := by
    rw [State.param, (sameButNotes_passZeroWindows u).params]
    rfl
  rw [reconcile_eq, stageMode_of_same (hsame _ (.inl rfl)), stageMask_of_same hlo hhi, stageBudget_of_fits hmax.2,
    keyStage_of_none henable hpriority, stageOffer_of_none ((hpassed _).trans_le hmax.1) ((hpassed _).trans_le hreserve)
      ((hpassed _).trans hlo) ((hpassed _).trans hhi)]

/-! ### One change (R61, R64) -/

section
variable {s : State} {p : PartId} {i : ParamId} {y : Nat}

theorem setParam_param_ne {j : ParamId} (h : j ≠ i) : (s.setParam p i y).param p j = s.param p j :=
  State.param_setParam_ne (fun e => h e.2) _ _

theorem noStage_setParam (h : Given.noStage s p i y) (j : ParamId) : Given.noStage s p j ((s.setParam p i y).param p j) := by
  by_cases hj : j = i
  · rw [hj, State.param_setParam_self]
    exact h
  · rw [setParam_param_ne hj]
    exact .inl rfl

theorem reconcile_of_noWork (hs : s.Settled) (h : Given.noStage s p i y) :
    (s.setParam p i y).reconcile s.params[p] p = s.setParam p i y := by
  have hstages := noStage_setParam h
  have hsettled : (s.setParam p i y).Settled := hs
  have hvoices := State.setParam_voices p i y s
  have hperf := State.setParam_perf p i y s
  generalize s.setParam p i y = u at *
  rw [reconcile_of_noStage hvoices hperf hstages, State.passZeroWindows_of_settled hsettled]

/-- A part cleared in a state whose image differs from another's in one value. -/
theorem partsCleared_setParam {t : State} {named : PartId → Bool} (hi : i ≠ pReleaseWindow)
    (h : Given.partsCleared (s.setParam p i y) t named) : Given.partsCleared s t named := by
  obtain ⟨hserial, hglides, hdeferred, hvoice, hperf⟩ := h
  have hwindow (q : PartId) : (s.setParam p i y).param q pReleaseWindow = s.param q pReleaseWindow :=
    State.param_setParam_ne (fun e => hi e.2.symm) _ _
  refine ⟨hserial, hglides, hdeferred, fun v => ?_, hperf⟩
  have hv : t.voice v = (s.voice v).cleared named s.timestamp fun q => (s.setParam p i y).param q pReleaseWindow := hvoice v
  rw [funext hwindow] at hv
  exact hv

theorem settled_of_cleared {u t : State} (hs : u.Settled) (hwindow : u.param p pReleaseWindow ≠ 0)
    (h : Given.partCleared u t p) : t.Settled := fun v => by
  obtain ⟨-, -, -, hvoice, -⟩ := h
  have hv : t.voice v = (u.voice v).cleared (· == p) u.timestamp fun q => u.param q pReleaseWindow := hvoice v
  rw [hv]
  exact Voice.zeroWindow_cleared (hs v) fun q hq => by rw [beq_iff_eq.mp hq]; exact hwindow

/-- A change of VOICE_MODE, and PART_ENABLE from 1 to 0, clears the part and does no more. -/
theorem reconcile_of_clears (hs : s.Settled) (hwindow : s.param p pReleaseWindow ≠ 0) (h : Given.clearsPart s p i y) :
    SameButQueue (s.setParam p i y) ((s.setParam p i y).reconcile s.params[p] p)
      ∧ Given.partCleared s ((s.setParam p i y).reconcile s.params[p] p) p := by
  obtain ⟨u, hu⟩ : ∃ u, u = s.setParam p i y := ⟨_, rfl⟩
  have hi : i = pVoiceMode ∨ i = pPartEnable := h.imp And.left And.left
  have hne (j : ParamId) (hj : j ≠ pVoiceMode) (hj' : j ≠ pPartEnable) : u.param p j = s.param p j := by
    rw [hu]
    exact setParam_param_ne (by rcases hi with rfl | rfl <;> assumption)
  obtain ⟨hframe, hcleared⟩ := allOffPart_cleared u p
  obtain ⟨t, ht⟩ : ∃ t, t = u.allOffPart p := ⟨_, rfl⟩
  rw [← ht] at hframe hcleared
  have hsettled : t.Settled := settled_of_cleared (u := u) (by rw [hu]; exact hs)
    (by rw [hne _ (by decide) (by decide)]; exact hwindow) hcleared
  have hparam (j : ParamId) (hj : j ≠ pVoiceMode) (hj' : j ≠ pPartEnable) : t.param p j = s.param p j := by
    rw [hframe.param, hne j hj hj']
  have hlo := hparam pMaskLo (by decide) (by decide)
  have hhi := hparam pMaskHi (by decide) (by decide)
  have hmax := hparam pMaxVoices (by decide) (by decide)
  have hpriority := hparam pKeyPriority (by decide) (by decide)
  have hreconcile : u.reconcile s.params[p] p = t := by
    rw [reconcile_eq]
    have hlast : State.stageOffer s.params[p] p t.passZeroWindows = t := by
      rw [State.passZeroWindows_of_settled hsettled]
      exact stageOffer_of_none hmax.le (hparam pReserve (by decide) (by decide)).le hlo hhi
    rcases h with ⟨rfl, hchange⟩ | ⟨rfl, hold, hnew⟩
    · have hmode : State.stageMode s.params[p] p u = t := by
        rw [ht, hu]
        exact if_pos (by rw [State.changed, State.param_setParam_self, bne_iff_ne]; exact hchange)
      have henable : t.param p pPartEnable = s.param p pPartEnable := by
        rw [hframe.param, hu]
        exact setParam_param_ne (by decide)
      rw [hmode, stageMask_of_same hlo hhi, stageBudget_of_fits (fun h => absurd hmax h.ne),
        keyStage_of_none (fun ⟨hold, hnew⟩ => ?_) (.inl hpriority), hlast]
      rw [henable] at hnew
      have : s.param p pPartEnable = 1 := hold
      omega
    · have hmode : State.stageMode s.params[p] p u = u := stageMode_of_same (by rw [hu]; exact setParam_param_ne (by decide))
      have hkey : u.keyStage s.params[p] p = t := by
        have hdisabled : s.params[p][pPartEnable] = 1 ∧ u.param p pPartEnable = 0 :=
          ⟨hold, by rw [hu, State.param_setParam_self]; exact hnew⟩
        rw [keyStage_of_disabled hdisabled, ← ht]
        exact if_neg (by rw [State.changed, hpriority]; simp [State.param])
      rw [hmode, stageMask_of_same (hne _ (by decide) (by decide)) (hne _ (by decide) (by decide)),
        stageBudget_of_fits (fun h => absurd (hne pMaxVoices (by decide) (by decide)) h.ne), hkey, hlast]
  rw [← hu, hreconcile]
  refine ⟨hframe, partsCleared_setParam (i := i) (y := y) ?_ (by rw [← hu]; exact hcleared)⟩
  rcases hi with rfl | rfl <;> decide

/-- A change of KEY_PRIORITY makes the selection again. -/
theorem reconcile_of_priority (hs : s.Settled) (h : Given.changesPriority s p i y) :
    SameButSet (s.setParam p i y) ((s.setParam p i y).reconcile s.params[p] p)
      ∧ Given.setFollows s ((s.setParam p i y).reconcile s.params[p] p) p y (s.perfOf p).held (s.perfOf p) := by
  obtain ⟨rfl, hchange, hmode, hheld, hset⟩ := h
  obtain ⟨u, hu⟩ : ∃ u, u = s.setParam p pKeyPriority y := ⟨_, rfl⟩
  have hne (q : PartId) (j : ParamId) (hj : j ≠ pKeyPriority) : u.param q j = s.param q j := by
    rw [hu]
    exact State.param_setParam_ne (fun e => hj e.2) _ _
  have hpriority : u.param p pKeyPriority = y := by rw [hu, State.param_setParam_self]
  have hfollows := setFollows_reselect (s := u) (p := p) (by rw [hu]; exact hset) (by rw [hu]; exact hheld)
  obtain ⟨selected, hframe⟩ := reselect_frame p u
  have hsame : SameButSet u (u.reselect p) :=
    (show SameButSet u (u.setPerf p { u.perfOf p with selected }) from rfl).trans hframe.set
  have hsettled : (u.reselect p).Settled := (noNewWindow_reselect p).settled (by rw [hu]; exact hs)
  obtain ⟨t, ht⟩ : ∃ t, t = u.reselect p := ⟨_, rfl⟩
  rw [← ht] at hfollows hsame hsettled
  have hparam (j : ParamId) (hj : j ≠ pKeyPriority) : t.param p j = s.param p j := by
    rw [ht, State.param, (sameButVoices_reselect p u).notes.params]
    exact hne p j hj
  have hreconcile : u.reconcile s.params[p] p = t := by
    have henable : ¬(s.params[p][pPartEnable] = 1 ∧ u.param p pPartEnable = 0) := fun ⟨hold, hnew⟩ => by
      rw [hne _ _ (by decide)] at hnew
      have : s.param p pPartEnable = 1 := hold
      omega
    have hkey : u.keyStage s.params[p] p = t := by
      rw [keyStage_of_enabled henable, ht]
      refine if_pos ?_
      rw [State.changed, hpriority, State.isPoly_of_ne (by rw [hne _ _ (by decide)]; exact hmode), Bool.not_false,
        Bool.and_true, bne_iff_ne]
      exact hchange
    rw [reconcile_eq, stageMode_of_same (hne _ _ (by decide)), stageMask_of_same (hne _ _ (by decide)) (hne _ _ (by decide)),
      stageBudget_of_fits (fun h => absurd (hne p pMaxVoices (by decide)) h.ne), hkey,
      State.passZeroWindows_of_settled hsettled]
    exact stageOffer_of_none (hparam _ (by decide)).le (hparam _ (by decide)).le (hparam _ (by decide)) (hparam _ (by decide))
  rw [← hu, hreconcile]
  refine ⟨hsame, ?_⟩
  rw [hpriority] at hfollows
  have hparams (j : ParamId) (hj : j ≠ pKeyPriority) : (fun q => u.param q j) = fun q => s.param q j :=
    funext fun q => hne q j hj
  unfold Given.setFollows at hfollows
  simp only [hne _ pLegato (by decide), hne _ pGlideRate (by decide), hne _ pReleaseWindow (by decide)] at hfollows
  rw [hu] at hfollows
  exact hfollows

end

/-- Settles O30: the reconcile of one changed parameter, stage by stage. -/
theorem structuralWritesClearOrReselect : Obligations.StructuralWritesClearOrReselect := by
  unfold Obligations.StructuralWritesClearOrReselect
  intro s l p i x ⟨hready, hs, hwindow, hcls, hmorph⟩ hx y perf command
  refine ⟨fun h => ?_, fun h => ?_, fun h => ?_⟩
  · by_cases hne : y = s.param p i
    · obtain ⟨t, hexec, hframe, hwritten⟩ := exec_paramSet_plain hready hmorph (.inr hne) hx
      exact ⟨t, hexec, hwritten, hframe⟩
    · obtain ⟨t, hexec, hframe, hwritten⟩ := exec_paramSet_struct hready hcls hmorph hx hne (reconcile_of_noWork hs h)
      have hset : s.setParam p i y = { s with params := (s.setParam p i y).params } := rfl
      generalize s.setParam p i y = w at *
      exact ⟨t, hexec, hwritten, by rw [hframe, hset]⟩
  · have hne : y ≠ s.param p i := by
      rcases h with ⟨-, h⟩ | ⟨-, hold, hnew⟩
      · exact h
      · omega
    obtain ⟨hqueue, hcleared⟩ := reconcile_of_clears hs hwindow h
    obtain ⟨t, hexec, hframe, hwritten⟩ := exec_paramSet_struct hready hcls hmorph hx hne rfl
    have hset : s.setParam p i y = { s with params := (s.setParam p i y).params } := rfl
    change t = { State.reconcile s.params[p] p (s.setParam p i y) with knobs := t.knobs, linkA := t.linkA, linkB := t.linkB } at hframe
    generalize State.reconcile s.params[p] p (s.setParam p i y) = w at *
    generalize s.setParam p i y = u at *
    unfold SameButQueue at hqueue
    refine ⟨t, hexec, hwritten, ?_, ?_⟩
    · rw [hframe, hqueue, hset]
    · rw [hframe]
      exact hcleared
  · obtain ⟨hsame, hfollows⟩ := reconcile_of_priority hs h
    obtain ⟨t, hexec, hframe, hwritten⟩ := exec_paramSet_struct hready hcls hmorph hx h.2.1 rfl
    have hset : s.setParam p i y = { s with params := (s.setParam p i y).params } := rfl
    change t = { State.reconcile s.params[p] p (s.setParam p i y) with knobs := t.knobs, linkA := t.linkA, linkB := t.linkB } at hframe
    generalize State.reconcile s.params[p] p (s.setParam p i y) = w at *
    generalize s.setParam p i y = u at *
    unfold SameButSet at hsame
    refine ⟨t, hexec, hwritten, ?_, ?_⟩
    · rw [hframe, hsame, hset]
    · rw [hframe]
      exact hfollows

end Sys2Proof.Machine
end

section
/-! PROOFS. STRUCT writes of the voice mask and of the budget: voices that no longer fit are taken from their notes (R62,
R63), and IDLE voices are offered to the deferred list (R65). -/

namespace Sys2Proof.Machine

/-! ### A voice taken from its note for a part (R62, R63) -/

/-- The voice released when it is GATED, or without its successor when it damps. -/
def Voice.ended (start : Stamp) (window : Nat) (x : Voice) : Voice :=
  match x.phase with
  | .gated n _ _ => { x with phase := .released n start window }
  | .damping n _ dp timer => { x with phase := .damping n none dp timer }
  | _ => x

theorem countsFor_ended (p : PartId) (start : Stamp) (window : Nat) (x : Voice) :
    (x.ended start window).countsFor p = false := by
  unfold Voice.ended
  split
  · rfl
  · rfl
  · next hgated hdamping =>
    cases hphase : x.phase with
    | gated n sus pulse => exact absurd hphase (hgated n sus pulse)
    | damping n su dp timer => exact absurd hphase (hdamping n su dp timer)
    | idle | released _ _ _ | tuning _ | offline _ =>
      simp [Voice.countsFor, Voice.gatedFor, hphase, VoicePhase.isGated, VoicePhase.successor?]

section
variable {s : State} {v : VoiceId} {p : PartId}

theorem gatedFor_iff {x : Voice} : x.gatedFor p = true ↔ x.phase.isGated = true ∧ x.part = p := by
  simp [Voice.gatedFor]

theorem countsFor_iff {x : Voice} : x.countsFor p = true ↔ x.gatedFor p = true ∨ x.successorOf p = true := by
  simp [Voice.countsFor, Voice.successorOf]

theorem successor_of_gated {x : Voice} (h : x.phase.isGated = true) : x.phase.successor? = none := by
  cases hphase : x.phase with
  | gated n sus pulse => rfl
  | _ => rw [hphase] at h; exact absurd h Bool.false_ne_true

theorem sameButPlayed_releaseAndLeave (v : VoiceId) (s : State) : SameButPlayed s (s.releaseAndLeave v) := by
  have hrelease : SameButPlayed s (s.release v) := by
    unfold State.release
    split <;> rfl
  exact hrelease.trans (sameButPerf_leaveSets v _).played

theorem voice_releaseAndLeave_self (h : (s.voice v).phase.isGated = true) : (s.releaseAndLeave v).voice v =
    (s.voice v).ended s.timestamp (s.param (s.voice v).part pReleaseWindow) := by
  rw [State.releaseAndLeave, (sameButPerf_leaveSets v _).voice]
  cases hphase : (s.voice v).phase with
  | gated n sus pulse => rw [State.release_of_gated hphase, State.setPhase, State.voice_setVoice_self, Voice.ended, hphase]
  | _ => rw [hphase] at h; exact absurd h Bool.false_ne_true

theorem voice_releaseAndLeave_ne {w : VoiceId} (hw : w ≠ v) : (s.releaseAndLeave v).voice w = s.voice w := by
  rw [State.releaseAndLeave, (sameButPerf_leaveSets v _).voice]
  unfold State.release
  split
  · exact State.voice_setVoice_ne hw _ s
  · rfl

theorem perfOf_release (v : VoiceId) (s : State) (p : PartId) : (s.release v).perfOf p = s.perfOf p := by
  unfold State.release
  split <;> rfl

theorem perfOf_releaseAndLeave (v : VoiceId) (s : State) (p : PartId) :
    (s.releaseAndLeave v).perfOf p = Given.leftSet (s.perfOf p) (· == v) := by
  rw [State.releaseAndLeave, perfOf_leaveSets, perfOf_release]

theorem notesTaken_releaseAndLeave (h : (s.voice v).phase.isGated = true) :
    Given.notesTaken s (s.releaseAndLeave v) (· == v) := by
  have hsu := successor_of_gated h
  refine notesTaken_single fun p => ?_
  rw [perfOf_releaseAndLeave, successorOf_of_none hsu, noteSuccessorOf_of_none hsu]
  simp only [Bool.false_eq_true, if_false]
  rw [← bound_leftSet (s.perfOf p) (· == v)]
  unfold Given.leftSet
  dsimp only
  split <;> rfl

theorem leftSet_of_notMem {perf : Perf} (h : v ∉ perf.monoSet) : Given.leftSet perf (· == v) = perf := by
  have hsame : perf.monoSet.filter (fun w => !(w == v)) = perf.monoSet :=
    List.filter_eq_self.mpr fun w hw => by
      have hne : w ≠ v := fun heq => h (heq ▸ hw)
      simp [hne]
  unfold Given.leftSet
  dsimp only
  rw [hsame, if_neg fun h => h.1 h.2]

end

/-! ### What taking voices of one part leaves (R62, R63) -/

/-- Voices that counted for part p may count no longer; of the other parts nothing changes, as long as none of their
mono sets holds a voice that counted for p. -/
structure EndedFor (p : PartId) (s t : State) : Prop where
  frame : SameButPlayed s t
  counts : ∀ v, (t.voice v).countsFor p = true → (s.voice v).countsFor p = true
  perf : ∀ q, q ≠ p → (∀ v ∈ (s.perfOf q).monoSet, (s.voice v).countsFor p = false) → t.perfOf q = s.perfOf q

theorem EndedFor.refl (p : PartId) (s : State) : EndedFor p s s := ⟨rfl, fun _ h => h, fun _ _ _ => rfl⟩

theorem EndedFor.trans {p : PartId} {s t u : State} (h : EndedFor p s t) (k : EndedFor p t u) : EndedFor p s u where
  frame := h.frame.trans k.frame
  counts v hv := h.counts v (k.counts v hv)
  perf q hq hset := by
    have ht := h.perf q hq hset
    refine (k.perf q hq fun v hv => ?_).trans ht
    rw [ht] at hv
    exact Bool.eq_false_iff.mpr fun hc => absurd (h.counts v hc) (Bool.eq_false_iff.mp (hset v hv))

section
variable {s : State} {v : VoiceId} {p : PartId}

theorem endedFor_releaseAndLeave (h : (s.voice v).gatedFor p = true) : EndedFor p s (s.releaseAndLeave v) where
  frame := sameButPlayed_releaseAndLeave v s
  counts w hw := by
    by_cases hv : w = v
    · subst hv
      exact countsFor_iff.mpr (.inl h)
    · rwa [voice_releaseAndLeave_ne hv] at hw
  perf q hq hset := by
    rw [perfOf_releaseAndLeave]
    exact leftSet_of_notMem fun hv => absurd (countsFor_iff.mpr (.inl h)) (Bool.eq_false_iff.mp (hset v hv))

theorem successorOf_unique {x : Voice} {q : PartId} (h : x.successorOf p = true) (hq : q ≠ p) : x.successorOf q = false := by
  obtain ⟨n, su, dp, timer, hphase, rfl⟩ := phase_of_successorOf h
  simp [Voice.successorOf, hphase, VoicePhase.successor?, Ne.symm hq]

theorem ended_of_successor {x : Voice} (h : x.successorOf p = true) (start : Stamp) (window : Nat) :
    x.withoutSuccessor = x.ended start window := by
  obtain ⟨n, su, dp, timer, hphase, -⟩ := phase_of_successorOf h
  rw [Voice.withoutSuccessor, Voice.ended, hphase]

theorem endedFor_cancelAndLeave (h : (s.voice v).successorOf p = true) : EndedFor p s (s.cancelAndLeave v) where
  frame := sameButPlayed_cancelAndLeave v s
  counts w hw := by
    by_cases hv : w = v
    · subst hv
      exact countsFor_iff.mpr (.inr h)
    · rwa [voice_cancelAndLeave_ne hv] at hw
  perf q hq hset := by
    have hkept : (s.cancelSuccessor v).perfOf q = s.perfOf q := by
      rw [perfOf_cancelSuccessor, successorOf_unique h hq]
      exact if_neg Bool.false_ne_true
    rw [State.cancelAndLeave, perfOf_leaveSets, hkept]
    exact leftSet_of_notMem fun hv => absurd (countsFor_iff.mpr (.inr h)) (Bool.eq_false_iff.mp (hset v hv))

/-- A voice that counts for part p is taken from its note. -/
def State.endFor (p : PartId) (s : State) (v : VoiceId) : State :=
  if (s.voice v).gatedFor p then s.releaseAndLeave v
  else if (s.voice v).successorOf p then s.cancelAndLeave v
  else s

theorem endedFor_endFor (p : PartId) (s : State) (v : VoiceId) : EndedFor p s (s.endFor p v) := by
  unfold State.endFor
  split_ifs with hgated hsuccessor
  · exact endedFor_releaseAndLeave hgated
  · exact endedFor_cancelAndLeave hsuccessor
  · exact .refl p s

theorem voice_endFor_self (p : PartId) (s : State) (v : VoiceId) : (s.endFor p v).voice v =
    if (s.voice v).countsFor p = true then (s.voice v).ended s.timestamp (s.param p pReleaseWindow) else s.voice v := by
  unfold State.endFor
  split_ifs with hgated hcounts hsuccessor hcounts hcounts
  · obtain ⟨hphase, hpart⟩ := gatedFor_iff.mp hgated
    rw [voice_releaseAndLeave_self hphase, hpart]
  · exact absurd (countsFor_iff.mpr (.inl hgated)) hcounts
  · rw [voice_cancelAndLeave_self]
    exact ended_of_successor hsuccessor _ _
  · exact absurd (countsFor_iff.mpr (.inr hsuccessor)) hcounts
  · exact absurd (countsFor_iff.mp hcounts) (not_or.mpr ⟨hgated, hsuccessor⟩)
  · rfl

theorem voice_endFor_ne {w : VoiceId} (hw : w ≠ v) : (s.endFor p v).voice w = s.voice w := by
  unfold State.endFor
  split_ifs
  · exact voice_releaseAndLeave_ne hw
  · exact voice_cancelAndLeave_ne hw s
  · rfl

theorem notesTaken_endFor (p : PartId) (s : State) (v : VoiceId) :
    Given.notesTaken s (s.endFor p v) fun w => w == v && (s.voice v).countsFor p := by
  unfold State.endFor
  split_ifs with hgated hsuccessor
  · exact notesTaken_congr (notesTaken_releaseAndLeave (gatedFor_iff.mp hgated).1) fun w => by
      rw [countsFor_iff.mpr (.inl hgated), Bool.and_true]
  · exact notesTaken_congr (notesTaken_cancelAndLeave v s) fun w => by
      rw [countsFor_iff.mpr (.inr hsuccessor), Bool.and_true]
  · refine notesTaken_congr (notesTaken_refl fun p => rfl) fun w => ?_
    rw [Bool.eq_false_iff.mpr fun h => not_or.mpr ⟨hgated, hsuccessor⟩ (countsFor_iff.mp h), Bool.and_false]

end

theorem SameButPlayed.param {s t : State} (h : SameButPlayed s t) (p : PartId) (i : ParamId) : t.param p i = s.param p i := by
  unfold SameButPlayed at h
  rw [h]
  rfl

theorem SameButPlayed.timestamp {s t : State} (h : SameButPlayed s t) : t.timestamp = s.timestamp := by
  unfold SameButPlayed at h
  rw [h]

/-- The voices of a list that count for part p are taken from their notes, one after the other. -/
theorem foldl_endFor (p : PartId) {vs : List VoiceId} (hnodup : vs.Nodup) (s : State) :
    EndedFor p s (vs.foldl (State.endFor p) s)
      ∧ (∀ v, (vs.foldl (State.endFor p) s).voice v = if vs.contains v && (s.voice v).countsFor p then
          (s.voice v).ended s.timestamp (s.param p pReleaseWindow) else s.voice v)
      ∧ Given.notesTaken s (vs.foldl (State.endFor p) s) fun v => vs.contains v && (s.voice v).countsFor p := by
  obtain ⟨hframe, hhand, htaken⟩ := foldl_takes (P := EndedFor p s) (out := Voice.countsFor p)
    (f := fun x => (if x.1.countsFor p = true then x.1.ended s.timestamp (s.param p pReleaseWindow) else x.1, x.2))
    (fun t v ht => ht.trans (endedFor_endFor p t v))
    (fun t v ht => Prod.ext ((voice_endFor_self p t v).trans (by rw [ht.frame.timestamp, ht.frame.param]; rfl))
      ((endedFor_endFor p t v).frame.glide v))
    (fun t v w ht hw => Prod.ext (voice_endFor_ne hw) ((endedFor_endFor p t v).frame.glide w))
    (fun t v _ => notesTaken_endFor p t v) hnodup (EndedFor.refl p s)
  refine ⟨hframe, fun v => (congrArg Prod.fst (hhand v)).trans ?_, htaken⟩
  by_cases hv : v ∈ vs
  · rw [if_pos hv, List.contains_iff_mem.mpr hv, Bool.true_and]
    rfl
  · rw [if_neg hv, show vs.contains v = false by simpa using hv, Bool.false_and, if_neg Bool.false_ne_true]
    rfl

/-! ### The mask stage (R62) -/

/-- The mask stage takes the voices outside the mask from the part's notes. -/
theorem maskStage_eq (p : PartId) (s : State) :
    s.maskStage p = (allVoices.filter fun v => !s.inMask p v).foldl (State.endFor p) s := by
  have hfold (vs : List VoiceId) (t : State) (ht : ∀ v, t.inMask p v = s.inMask p v) :
      vs.foldl (State.maskVoice p) t = (vs.filter fun v => !s.inMask p v).foldl (State.endFor p) t := by
    induction vs generalizing t with
    | nil => rfl
    | cons v vs ih =>
      have hstep (w : VoiceId) : (t.endFor p v).inMask p w = s.inMask p w := by
        rw [State.inMask, (endedFor_endFor p t v).frame.param, (endedFor_endFor p t v).frame.param]
        exact ht w
      rw [List.foldl_cons]
      cases hv : s.inMask p v with
      | true =>
        rw [List.filter_cons_of_neg (by simp [hv]), ← ih t ht]
        have hstay : t.maskVoice p v = t := if_pos ((ht v).trans hv)
        rw [hstay]
      | false =>
        rw [List.filter_cons_of_pos (by simp [hv]), List.foldl_cons, ← ih _ hstep]
        have hend : t.maskVoice p v = t.endFor p v := if_neg (by rw [ht v, hv]; exact Bool.false_ne_true)
        rw [hend]
  exact hfold allVoices s fun _ => rfl

theorem maskStage_ends (p : PartId) (s : State) : EndedFor p s (s.maskStage p)
    ∧ (∀ v, (s.maskStage p).voice v = if !s.inMask p v && (s.voice v).countsFor p then
        (s.voice v).ended s.timestamp (s.param p pReleaseWindow) else s.voice v)
    ∧ Given.notesTaken s (s.maskStage p) fun v => !s.inMask p v && (s.voice v).countsFor p := by
  have hcontains (v : VoiceId) : (allVoices.filter fun v => !s.inMask p v).contains v = !s.inMask p v := by
    rw [Bool.eq_iff_iff, List.contains_iff_mem, List.mem_filter]
    exact ⟨And.right, fun h => ⟨mem_allVoices v, h⟩⟩
  obtain ⟨hframe, hvoice, htaken⟩ := foldl_endFor p (nodup_allVoices.filter fun v => !s.inMask p v) s
  simp only [hcontains] at hvoice htaken
  rw [maskStage_eq]
  exact ⟨hframe, hvoice, htaken⟩

theorem settled_of_ended {s t : State} (hs : s.Settled) {window : Nat} (hwindow : window ≠ 0) {start : Stamp}
    {out : VoiceId → Bool} (h : ∀ v, t.voice v = if out v = true then (s.voice v).ended start window else s.voice v) :
    t.Settled := fun v => by
  rw [h]
  split
  · unfold Voice.ended
    split
    · simpa [VoicePhase.zeroWindow] using hwindow
    · rfl
    · exact hs v
  · exact hs v

theorem stageOffer_of_empty {s : State} (h : s.deferred = []) (old : Vector Nat 40) (p : PartId) :
    State.stageOffer old p s = s := by
  unfold State.stageOffer
  split
  · exact offerAll_of_empty h allVoices
  · rfl

theorem SameButPlayed.deferred {s t : State} (h : SameButPlayed s t) : t.deferred = s.deferred := by
  unfold SameButPlayed at h
  rw [h]

/-- A change of the voice mask, while no entry waits, is its mask stage and no more. -/
theorem reconcile_of_mask {s : State} {p : PartId} {i : ParamId} {y : Nat} (hs : s.Settled)
    (hwindow : s.param p pReleaseWindow ≠ 0) (h : Given.changesMask s p i y) :
    (s.setParam p i y).reconcile s.params[p] p = (s.setParam p i y).maskStage p := by
  obtain ⟨hi, hchange, hdeferred, -, -⟩ := h
  obtain ⟨u, hu⟩ : ∃ u, u = s.setParam p i y := ⟨_, rfl⟩
  have hne (j : ParamId) (hlo : j ≠ pMaskLo) (hhi : j ≠ pMaskHi) : u.param p j = s.param p j := by
    rw [hu]
    exact setParam_param_ne (by rcases hi with rfl | rfl <;> assumption)
  have hchanged : u.changed s.params[p] p i = true := by
    rw [State.changed, hu, State.param_setParam_self, bne_iff_ne]
    exact hchange
  have hsettled : u.Settled := by rw [hu]; exact hs
  have hempty : u.deferred = [] := by rw [hu]; exact hdeferred
  rw [← hu]
  obtain ⟨hended, hvoice, -⟩ := maskStage_ends p u
  have hmask : State.stageMask s.params[p] p u = u.maskStage p := if_pos <| by
    rw [Bool.or_eq_true]
    rcases hi with rfl | rfl
    · exact .inl hchanged
    · exact .inr hchanged
  have hparam (j : ParamId) (hlo : j ≠ pMaskLo) (hhi : j ≠ pMaskHi) : (u.maskStage p).param p j = s.param p j := by
    rw [hended.frame.param, hne j hlo hhi]
  have hmax := hparam pMaxVoices (by decide) (by decide)
  have hkept : (u.maskStage p).Settled :=
    settled_of_ended hsettled (by rw [hne _ (by decide) (by decide)]; exact hwindow) hvoice
  rw [reconcile_eq, stageMode_of_same (hne _ (by decide) (by decide)), hmask,
    stageBudget_of_fits (fun h => absurd hmax h.ne), keyStage_of_none (fun ⟨hold, hnew⟩ => ?_)
      (.inl (hparam _ (by decide) (by decide))), State.passZeroWindows_of_settled hkept]
  · exact stageOffer_of_empty (hended.frame.deferred.trans hempty) _ p
  · rw [hparam _ (by decide) (by decide)] at hnew
    have : s.param p pPartEnable = 1 := hold
    omega

end Sys2Proof.Machine
end

section
/-! PROOFS. The budget-lowered stage: releases in the order of STEAL_POLICY, then cancels from the newest binding (R63). -/

namespace Sys2Proof.Machine

/-! ### The order of STEAL_POLICY (R13, R63) -/

/-- The age of a voice's serial, counted from the serial counter. -/
def State.age (s : State) (v : VoiceId) : Nat := (s.serial - (s.voice v).serial).toNat

theorem isOlder_iff {s : State} {v w : VoiceId} (hv : s.age v ≤ 32767) (hw : s.age w ≤ 32767) :
    isOlder (s.voice v).serial (s.voice w).serial = true ↔ s.age w < s.age v := by
  unfold State.age at hv hw ⊢
  unfold isOlder
  generalize (s.voice v).serial = a at *
  generalize (s.voice w).serial = b at *
  generalize s.serial = c at *
  simp only [Bool.and_eq_true, decide_eq_true_eq, BitVec.toNat_sub] at *
  omega

theorem Voice.key_lt (x : Voice) : x.key < 128 := by
  unfold Voice.key
  cases x.phase.note? with
  | none => decide
  | some n => exact n.key.isLt

/-- A number that STEAL_POLICY of a part orders the voices by, the lower index first at a tie. -/
def State.stealRank (s : State) (p : PartId) (v : VoiceId) : Nat :=
  16 * (match s.param p pStealPolicy with
    | 0 => 65536 - s.age v
    | 1 => (s.voice v).velocity
    | 2 => (s.voice v).key
    | _ => 128 - (s.voice v).key) + v.val

theorem stealRank_inj {s : State} {p : PartId} {v w : VoiceId} (h : s.stealRank p v = s.stealRank p w) : v = w := by
  unfold State.stealRank at h
  have hv := v.isLt
  have hw := w.isLt
  exact Fin.ext (by omega)

theorem policy_cases (n : Nat) : n = 0 ∨ n = 1 ∨ n = 2 ∨ ∃ m, n = m + 3 := by
  obtain h | h | h | h : n = 0 ∨ n = 1 ∨ n = 2 ∨ 3 ≤ n := by omega
  · exact .inl h
  · exact .inr (.inl h)
  · exact .inr (.inr (.inl h))
  · exact .inr (.inr (.inr (Nat.exists_eq_add_of_le' h)))

theorem takesFirst_of_rank {s : State} {p : PartId} {v w : VoiceId} (h : s.stealRank p v < s.stealRank p w) :
    Given.takesFirst s p v w := by
  have hv := v.isLt
  have hw := w.isLt
  have hkv := (s.voice v).key_lt
  have hkw := (s.voice w).key_lt
  have hav : s.age v < 65536 := BitVec.isLt _
  have haw : s.age w < 65536 := BitVec.isLt _
  unfold State.stealRank at h
  unfold Given.takesFirst
  obtain hpolicy | hpolicy | hpolicy | ⟨m, hpolicy⟩ := policy_cases (s.param p pStealPolicy) <;> rw [hpolicy] at h ⊢
  · have hrank : 16 * (65536 - s.age v) + v.val < 16 * (65536 - s.age w) + w.val := h
    change s.age w < s.age v ∨ (s.age w = s.age v ∧ v.val < w.val)
    omega
  · have hrank : 16 * (s.voice v).velocity + v.val < 16 * (s.voice w).velocity + w.val := h
    change (s.voice v).velocity < (s.voice w).velocity ∨ ((s.voice v).velocity = (s.voice w).velocity ∧ v.val < w.val)
    omega
  · have hrank : 16 * (s.voice v).key + v.val < 16 * (s.voice w).key + w.val := h
    change (s.voice v).key < (s.voice w).key ∨ ((s.voice v).key = (s.voice w).key ∧ v.val < w.val)
    omega
  · have hrank : 16 * (128 - (s.voice v).key) + v.val < 16 * (128 - (s.voice w).key) + w.val := h
    change (s.voice w).key < (s.voice v).key ∨ ((s.voice v).key = (s.voice w).key ∧ v.val < w.val)
    omega

theorem first_or_tie {v w : VoiceId} {before tie : Prop} (hself : v = w → tie) (h : v = w ∨ before ∨ (tie ∧ v < w)) :
    before ∨ (tie ∧ v ≤ w) := by
  rcases h with heq | hbefore | ⟨htie, hlt⟩
  · exact .inr ⟨hself heq, heq.le⟩
  · exact .inl hbefore
  · exact .inr ⟨htie, hlt.le⟩

/-- The voice that goes first is the one that the policy prefers, where no age wraps. -/
theorem prefers_of_takesFirst {s : State} {p : PartId} {v w : VoiceId} (hv : s.age v ≤ 32767) (hw : s.age w ≤ 32767)
    (h : v = w ∨ Given.takesFirst s p v w) : Given.prefers s p v w := by
  have hvw := isOlder_iff hv hw
  have hwv := isOlder_iff hw hv
  unfold Given.takesFirst at h
  unfold Given.prefers
  obtain hpolicy | hpolicy | hpolicy | ⟨m, hpolicy⟩ := policy_cases (s.param p pStealPolicy) <;> rw [hpolicy] at h ⊢
  · have hfirst : v = w ∨ s.age w < s.age v ∨ (s.age w = s.age v ∧ v < w) := h
    change if w < v then isOlder (s.voice v).serial (s.voice w).serial = true
      else isOlder (s.voice w).serial (s.voice v).serial = false
    simp only [Fin.ext_iff, Fin.lt_def] at hfirst ⊢
    split
    · exact hvw.mpr (by omega)
    · refine Bool.eq_false_iff.mpr fun holder => ?_
      have := hwv.mp holder
      rcases hfirst with heq | hage | ⟨hage, -⟩
      · rw [Fin.ext heq] at this
        omega
      · omega
      · omega
  · exact first_or_tie (fun heq => by rw [heq]) h
  · exact first_or_tie (fun heq => by rw [heq]) h
  · exact first_or_tie (fun heq => by rw [heq]) h

/-- Where no age wraps, the voice picked goes before every other. -/
theorem takesFirst_of_pick {s : State} {p : PartId} {vs : List VoiceId} (hsorted : vs.Pairwise (· < ·))
    (hages : ∀ v ∈ vs, s.age v ≤ 32767) {v : VoiceId} (hpick : s.pickVictim p vs = some v) :
    ∀ w ∈ vs, w ≠ v → Given.takesFirst s p v w := by
  have hv := State.pickVictim_mem hpick
  obtain ⟨b, hb, hbest⟩ := vs.toFinset.exists_min_image (s.stealRank p) ⟨v, List.mem_toFinset.mpr hv⟩
  rw [List.mem_toFinset] at hb
  have hfirst (w : VoiceId) (hw : w ∈ vs) : b = w ∨ Given.takesFirst s p b w := by
    rcases (hbest w (List.mem_toFinset.mpr hw)).eq_or_lt with h | h
    · exact .inl (stealRank_inj h)
    · exact .inr (takesFirst_of_rank h)
  have hchoice := State.pickVictim_eq hsorted hb fun w hw => prefers_of_takesFirst (hages b hb) (hages w hw) (hfirst w hw)
  obtain rfl : b = v := Option.some.inj (hchoice.symm.trans hpick)
  exact fun w hw hne => (hfirst w hw).resolve_left (Ne.symm hne)

theorem pickVictim_none {s : State} {p : PartId} {vs : List VoiceId} (h : s.pickVictim p vs = none) : vs = [] := by
  unfold State.pickVictim at h
  obtain hpolicy | hpolicy | hpolicy | ⟨m, hpolicy⟩ := policy_cases (s.param p pStealPolicy) <;> rw [hpolicy] at h
  · exact chooseBy_eq_none.mp ((chooseOldest_eq _ vs).symm.trans h)
  · exact chooseBy_eq_none.mp ((chooseLowest_eq _ vs).symm.trans h)
  · exact chooseBy_eq_none.mp ((chooseLowest_eq _ vs).symm.trans h)
  · exact chooseBy_eq_none.mp ((chooseHighest_eq _ vs).symm.trans h)

/-! ### Steps taken until nothing is left to do -/

/-- A step repeated often enough reaches a state where it has nothing to do. -/
theorem repeatStep_reaches {f : State → State} {inv done : State → Prop} {measure : State → Nat}
    (hinv : ∀ u, inv u → ¬done u → inv (f u) ∧ measure (f u) < measure u) (hfixed : ∀ u, done u → f u = u)
    (hzero : ∀ u, measure u = 0 → done u) (n : Nat) {u : State} (hu : inv u) (hn : measure u ≤ n) :
    inv (repeatStep f n u) ∧ done (repeatStep f n u) := by
  induction n generalizing u with
  | zero => exact ⟨hu, hzero u (Nat.le_zero.mp hn)⟩
  | succ n ih =>
    by_cases hdone : done u
    · rw [repeatStep_of_fixed (hfixed u hdone)]
      exact ⟨hu, hdone⟩
    · obtain ⟨hstep, hless⟩ := hinv u hu hdone
      exact ih hstep (by omega)

/-! ### The load (R10, R63) -/

theorem load_le (s : State) (p : PartId) : s.load p ≤ 16 := (List.length_filter_le _ _).trans (by decide)

/-- One voice less counts for the part. -/
theorem load_of_one {s t : State} {p : PartId} {v : VoiceId} (hs : (s.voice v).countsFor p = true)
    (ht : (t.voice v).countsFor p = false) (hother : ∀ w, w ≠ v → t.voice w = s.voice w) : s.load p = t.load p + 1 := by
  have hsplit : (fun w => (s.voice w).countsFor p) =
      fun w => (t.voice w).countsFor p || (w == v && (s.voice w).countsFor p) := funext fun w => by
    by_cases hw : w = v
    · subst hw
      rw [hs, ht]
      simp
    · rw [hother w hw]
      simp [hw]
  have hone := length_filter_single v fun w => (s.voice w).countsFor p
  rw [State.load, hsplit, length_filter_or, hone, if_pos hs]
  · rfl
  · intro w hw
    obtain ⟨hw, -⟩ := (Bool.and_eq_true _ _).mp hw
    rw [beq_iff_eq.mp hw]
    exact ht

/-! ### The stage's states (R63) -/

/-- Voice v counted for part p and counts no longer. -/
def taken (p : PartId) (s t : State) (v : VoiceId) : Bool := (s.voice v).countsFor p && !(t.voice v).countsFor p

/-- What holds of a state t that the budget-lowered stage of part p passes through, which began at s. -/
structure Fitting (p : PartId) (s t : State) : Prop where
  ended : EndedFor p s t
  voice : ∀ v, t.voice v =
    if taken p s t v = true then (s.voice v).ended s.timestamp (s.param p pReleaseWindow) else s.voice v
  notes : Given.notesTaken s t (taken p s t)
  newest : (t.perfOf p).bound <+: (s.perfOf p).bound
  floor : s.param p pMaxVoices ≤ t.load p
  cancels : (∃ v, (s.voice v).successorOf p = true ∧ taken p s t v = true) → ∀ v, (t.voice v).gatedFor p = false
  order : (∀ v, (s.voice v).gatedFor p = true → s.age v ≤ 32767) → ∀ v w, (s.voice v).gatedFor p = true →
    taken p s t v = true → (t.voice w).gatedFor p = true → Given.takesFirst s p v w

section
variable {p : PartId} {s t : State}

theorem taken_self (s : State) (v : VoiceId) : taken p s s v = false := by simp [taken]

theorem taken_of_counts {v : VoiceId} (h : (t.voice v).countsFor p = true) : taken p s t v = false := by simp [taken, h]

theorem Fitting.refl (h : s.param p pMaxVoices ≤ s.load p) : Fitting p s s where
  ended := .refl p s
  voice v := by rw [taken_self, if_neg Bool.false_ne_true]
  notes := notesTaken_congr (notesTaken_refl fun _ => rfl) fun v => (taken_self s v).symm
  newest := List.prefix_rfl
  floor := h
  cancels := fun ⟨v, _, hv⟩ => by rw [taken_self] at hv; cases hv
  order _ v _ _ hv := by rw [taken_self] at hv; cases hv

/-- A voice that still counts is as it was. -/
theorem Fitting.same (h : Fitting p s t) {v : VoiceId} (hv : (t.voice v).countsFor p = true) : t.voice v = s.voice v := by
  rw [h.voice, taken_of_counts hv, if_neg Bool.false_ne_true]

theorem endFor_not_counts {v : VoiceId} (hv : (t.voice v).countsFor p = true) :
    ((t.endFor p v).voice v).countsFor p = false := by
  rw [voice_endFor_self, if_pos hv]
  exact countsFor_ended _ _ _ _

section
variable {v : VoiceId} (h : Fitting p s t) (hv : (t.voice v).countsFor p = true)
include h hv

/-- One voice more that counts no longer. -/
theorem taken_endFor (w : VoiceId) : taken p s (t.endFor p v) w = (taken p s t w || w == v) := by
  by_cases hw : w = v
  · subst hw
    have hs : (s.voice w).countsFor p = true := h.ended.counts w hv
    simp [taken, hs, endFor_not_counts hv]
  · have hne : (w == v) = false := by simp [hw]
    rw [taken, voice_endFor_ne hw, hne, Bool.or_false]
    rfl

/-- A voice that counts is taken, while the load is above the budget. -/
theorem Fitting.step (hload : s.param p pMaxVoices < t.load p)
    (hnewest : ((t.endFor p v).perfOf p).bound <+: (t.perfOf p).bound)
    (hcancels : (t.voice v).gatedFor p = true ∨ ∀ w, (t.voice w).gatedFor p = false)
    (hfirst : (∀ v, (s.voice v).gatedFor p = true → s.age v ≤ 32767) → (t.voice v).gatedFor p = true →
      ∀ w, (t.voice w).gatedFor p = true → w ≠ v → Given.takesFirst s p v w) : Fitting p s (t.endFor p v) := by
  have htaken := taken_endFor h hv
  have hout := endFor_not_counts hv
  have hgated (w : VoiceId) (hw : ((t.endFor p v).voice w).gatedFor p = true) :
      w ≠ v ∧ (t.voice w).gatedFor p = true := by
    have hne : w ≠ v := fun heq => by
      rw [heq] at hw
      rw [countsFor_iff.mpr (.inl hw)] at hout
      cases hout
    exact ⟨hne, by rwa [voice_endFor_ne hne] at hw⟩
  refine ⟨h.ended.trans (endedFor_endFor p t v), fun w => ?_, ?_, hnewest.trans h.newest, ?_, fun ⟨w, hw, hout⟩ x => ?_,
    fun hages w x hw hout hx => ?_⟩
  · rw [htaken]
    by_cases hw : w = v
    · subst hw
      rw [voice_endFor_self, if_pos hv, beq_self_eq_true, Bool.or_true, if_pos rfl, h.same hv, h.ended.frame.timestamp,
        h.ended.frame.param]
    · rw [voice_endFor_ne hw, h.voice, show (w == v) = false by simp [hw], Bool.or_false]
  · refine notesTaken_congr (notesTaken_trans h.notes (notesTaken_endFor p t v) fun w hw => ?_) fun w => ?_
    · obtain ⟨hw, -⟩ := (Bool.and_eq_true _ _).mp hw
      rw [beq_iff_eq.mp hw]
      exact ⟨taken_of_counts hv, by rw [h.same hv]⟩
    · rw [htaken, hv, Bool.and_true]
  · have := load_of_one hv hout fun w hw => voice_endFor_ne hw
    omega
  · refine Bool.eq_false_iff.mpr fun hx => ?_
    obtain ⟨-, hx⟩ := hgated x hx
    rw [htaken, Bool.or_eq_true] at hout
    rcases hcancels with hgatedv | hnone
    · rcases hout with hout | hout
      · rw [h.cancels ⟨w, hw, hout⟩ x] at hx
        cases hx
      · rw [beq_iff_eq.mp hout, ← h.same hv] at hw
        obtain ⟨n, su, dp, timer, hphase, -⟩ := phase_of_successorOf hw
        obtain ⟨hphase', -⟩ := gatedFor_iff.mp hgatedv
        rw [hphase] at hphase'
        cases hphase'
    · rw [hnone x] at hx
      cases hx
  · obtain ⟨hne, hstill⟩ := hgated x hx
    rw [htaken, Bool.or_eq_true] at hout
    rcases hout with hout | hout
    · exact h.order hages w x hw hout hstill
    · obtain rfl := beq_iff_eq.mp hout
      refine hfirst hages ?_ x hstill hne
      rw [h.same hv]
      exact hw

end

/-! ### The releases and the cancels (R63) -/

/-- A part's load fits its budget. -/
def Fits (p : PartId) (s : State) : Prop := s.load p ≤ s.param p pMaxVoices

/-- The records that a lowered budget finds: no mono set holds a voice that counts for the part, and the binding order
lists the part's successors, each once. -/
def OwnRecords (p : PartId) (s : State) : Prop :=
  (∀ q, ∀ v ∈ (s.perfOf q).monoSet, (s.voice v).countsFor p = false)
    ∧ (s.perfOf p).bound.Nodup ∧ ∀ v, v ∈ (s.perfOf p).bound ↔ (s.voice v).successorOf p = true

theorem endFor_of_gated {v : VoiceId} (h : (t.voice v).gatedFor p = true) : t.endFor p v = t.releaseAndLeave v := if_pos h

theorem endFor_of_successor {v : VoiceId} (h : (t.voice v).successorOf p = true) : t.endFor p v = t.cancelAndLeave v := by
  obtain ⟨n, su, dp, timer, hphase, -⟩ := phase_of_successorOf h
  rw [State.endFor, if_neg, if_pos h]
  simp [Voice.gatedFor, hphase, VoicePhase.isGated]

theorem SameButPlayed.serial (h : SameButPlayed s t) : t.serial = s.serial := by
  unfold SameButPlayed at h
  rw [h]

theorem Fitting.age (h : Fitting p s t) {v : VoiceId} (hv : (t.voice v).countsFor p = true) : t.age v = s.age v := by
  rw [State.age, State.age, h.ended.frame.serial, h.same hv]

theorem Fitting.takesFirst (h : Fitting p s t) {v w : VoiceId} (hv : (t.voice v).countsFor p = true)
    (hw : (t.voice w).countsFor p = true) (hfirst : Given.takesFirst t p v w) : Given.takesFirst s p v w := by
  unfold Given.takesFirst at hfirst ⊢
  rw [h.ended.frame.param] at hfirst
  simp only [h.ended.frame.serial, h.same hv, h.same hw] at hfirst
  exact hfirst

theorem fits_or_gated (p : PartId) (t : State) :
    (Fits p t ∨ ∀ v, (t.voice v).gatedFor p = false) ∨ (t.param p pMaxVoices < t.load p ∧ ∃ v, (t.voice v).gatedFor p = true) := by
  by_cases hfits : Fits p t
  · exact .inl (.inl hfits)
  · by_cases hgated : ∃ v, (t.voice v).gatedFor p = true
    · exact .inr ⟨Nat.lt_of_not_le hfits, hgated⟩
    · exact .inl (.inr fun v => Bool.eq_false_iff.mpr fun hv => hgated ⟨v, hv⟩)

theorem budgetRelease_of_done (h : Fits p t ∨ ∀ v, (t.voice v).gatedFor p = false) : t.budgetRelease p = t := by
  unfold State.budgetRelease
  rcases h with h | h
  · exact if_neg (Nat.not_lt.mpr h)
  · have hnone : (allVoices.filter fun v => (t.voice v).gatedFor p) = [] :=
      List.filter_eq_nil_iff.mpr fun v _ => by simp [h v]
    rw [hnone, State.pickVictim_nil]
    split <;> rfl

/-- One release: the voice that STEAL_POLICY takes first. -/
theorem Fitting.budgetRelease (h : Fitting p s t) (hload : t.param p pMaxVoices < t.load p)
    (hgated : ∃ v, (t.voice v).gatedFor p = true) : Fitting p s (t.budgetRelease p) ∧ (t.budgetRelease p).load p < t.load p := by
  obtain ⟨u, hu⟩ := hgated
  have hmem (v : VoiceId) : v ∈ (allVoices.filter fun v => (t.voice v).gatedFor p) ↔ (t.voice v).gatedFor p = true := by
    rw [List.mem_filter]
    exact ⟨And.right, fun h => ⟨mem_allVoices v, h⟩⟩
  obtain ⟨v, hpick⟩ : ∃ v, t.pickVictim p (allVoices.filter fun v => (t.voice v).gatedFor p) = some v :=
    Option.ne_none_iff_exists'.mp fun hnone => by
      have hu' := (hmem u).mpr hu
      rw [pickVictim_none hnone] at hu'
      cases hu'
  have hv := (hmem v).mp (State.pickVictim_mem hpick)
  have hcounts := countsFor_iff.mpr (.inl hv)
  have hstep : t.budgetRelease p = t.endFor p v := by
    rw [State.budgetRelease, if_pos hload, hpick, endFor_of_gated hv]
  rw [hstep]
  refine ⟨h.step hcounts (by rwa [h.ended.frame.param] at hload) ?_ (.inl hv) fun hages _ w hw hne => ?_, ?_⟩
  · rw [endFor_of_gated hv, perfOf_releaseAndLeave, bound_leftSet]
  · have hfirst := takesFirst_of_pick (pairwise_allVoices.filter _) (fun x hx => by
      have hx' := countsFor_iff.mpr (.inl ((hmem x).mp hx))
      rw [h.age hx']
      refine hages x ?_
      rw [← h.same hx']
      exact (hmem x).mp hx) hpick w ((hmem w).mpr hw) hne
    exact h.takesFirst hcounts (countsFor_iff.mpr (.inl hw)) hfirst
  · have := load_of_one hcounts (endFor_not_counts hcounts) fun w hw => voice_endFor_ne hw
    omega

/-- The binding order lists what still waits. -/
theorem Fitting.bound_iff (h : Fitting p s t) (hown : OwnRecords p s) (v : VoiceId) :
    v ∈ (t.perfOf p).bound ↔ (t.voice v).successorOf p = true := by
  obtain ⟨hperf, -⟩ := h.notes p
  have hbound : (t.perfOf p).bound = (s.perfOf p).bound.filter fun v => !(taken p s t v && (s.voice v).successorOf p) := by
    rw [hperf]
  rw [hbound, List.mem_filter, hown.2.2 v]
  constructor
  · rintro ⟨hs, hkept⟩
    have hnot : taken p s t v = false := by simpa [hs] using hkept
    rw [h.voice, hnot, if_neg Bool.false_ne_true]
    exact hs
  · intro ht
    have hcounts := countsFor_iff.mpr (.inr ht)
    rw [← h.same hcounts, taken_of_counts hcounts]
    exact ⟨ht, rfl⟩

theorem budgetCancel_of_fits (h : Fits p t) : t.budgetCancel p = t := if_neg (Nat.not_lt.mpr h)

theorem filter_ne_getLast {vs : List VoiceId} (hnodup : vs.Nodup) {v : VoiceId} (h : vs.getLast? = some v) :
    vs.filter (· != v) <+: vs := by
  obtain ⟨ws, rfl⟩ := List.getLast?_eq_some_iff.mp h
  have hv : v ∉ ws := fun hv => (List.nodup_append.mp hnodup).2.2 v hv v (by simp) rfl
  have hkept : ws.filter (· != v) = ws := List.filter_eq_self.mpr fun w hw => by
    have hne : w ≠ v := fun heq => hv (heq ▸ hw)
    simp [hne]
  rw [List.filter_append, hkept]
  exact List.prefix_append_right_inj ws |>.mpr (by simp)

/-- One cancel, when no GATED voice is left: the newest binding. -/
theorem Fitting.budgetCancel (h : Fitting p s t) (hown : OwnRecords p s) (hnone : ∀ v, (t.voice v).gatedFor p = false)
    (hload : t.param p pMaxVoices < t.load p) :
    (Fitting p s (t.budgetCancel p) ∧ ∀ v, ((t.budgetCancel p).voice v).gatedFor p = false)
      ∧ (t.budgetCancel p).load p < t.load p := by
  obtain ⟨u, hu⟩ : ∃ u, (t.voice u).countsFor p = true := by
    have hpos : 0 < t.load p := by omega
    obtain ⟨u, hu⟩ := List.exists_mem_of_length_pos hpos
    exact ⟨u, (List.mem_filter.mp hu).2⟩
  have hsu : (t.voice u).successorOf p = true :=
    (countsFor_iff.mp hu).resolve_left (by rw [hnone u]; exact Bool.false_ne_true)
  have hne : (t.perfOf p).bound ≠ [] := List.ne_nil_of_mem ((h.bound_iff hown u).mpr hsu)
  obtain ⟨v, hlast⟩ : ∃ v, (t.perfOf p).bound.getLast? = some v := ⟨_, List.getLast?_eq_some_getLast hne⟩
  have hv := (h.bound_iff hown v).mp (List.mem_of_getLast? hlast)
  have hcounts := countsFor_iff.mpr (.inr hv)
  have hstep : t.budgetCancel p = t.endFor p v := by
    rw [State.budgetCancel, if_pos hload, hlast, endFor_of_successor hv]
  rw [hstep]
  refine ⟨⟨h.step hcounts (by rwa [h.ended.frame.param] at hload) ?_ (.inr hnone) fun _ hgated => ?_, fun w => ?_⟩, ?_⟩
  · rw [endFor_of_successor hv, State.cancelAndLeave, perfOf_leaveSets, bound_leftSet, perfOf_cancelSuccessor, if_pos hv]
    exact filter_ne_getLast (h.newest.sublist.nodup hown.2.1) hlast
  · rw [hnone v] at hgated
    cases hgated
  · by_cases hw : w = v
    · subst hw
      exact Bool.eq_false_iff.mpr fun hg =>
        absurd (countsFor_iff.mpr (.inl hg)) (by rw [endFor_not_counts hcounts]; exact Bool.false_ne_true)
    · rw [voice_endFor_ne hw]
      exact hnone w
  · have := load_of_one hcounts (endFor_not_counts hcounts) fun w hw => voice_endFor_ne hw
    omega

/-- The budget-lowered stage ends where the load fits the budget. -/
theorem budgetStage_fits (hown : OwnRecords p s) (hload : s.param p pMaxVoices ≤ s.load p) :
    Fitting p s (s.budgetStage p) ∧ Fits p (s.budgetStage p) := by
  obtain ⟨hfitting, hdone⟩ := repeatStep_reaches (f := State.budgetRelease p) (inv := Fitting p s)
    (done := fun t => Fits p t ∨ ∀ v, (t.voice v).gatedFor p = false) (measure := fun t => t.load p)
    (fun t ht hdone => by
      obtain ⟨hlow, hgated⟩ := (fits_or_gated p t).resolve_left hdone
      exact ht.budgetRelease hlow hgated) (fun t => budgetRelease_of_done)
    (fun t ht => .inl (ht.le.trans (Nat.zero_le _))) 16 (Fitting.refl hload) (load_le s p)
  rw [State.budgetStage]
  generalize repeatStep (State.budgetRelease p) 16 s = u at *
  rcases hdone with hfits | hnone
  · rw [repeatStep_of_fixed (budgetCancel_of_fits hfits)]
    exact ⟨hfitting, hfits⟩
  · obtain ⟨⟨hfitting, -⟩, hfits⟩ := repeatStep_reaches (f := State.budgetCancel p)
      (inv := fun t => Fitting p s t ∧ ∀ v, (t.voice v).gatedFor p = false) (done := Fits p) (measure := fun t => t.load p)
      (fun t ht hdone => ht.1.budgetCancel hown ht.2 (Nat.lt_of_not_le hdone)) (fun t => budgetCancel_of_fits)
      (fun t ht => ht.le.trans (Nat.zero_le _)) 16 ⟨hfitting, hnone⟩ (load_le u p)
    exact ⟨hfitting, hfits⟩

end

end Sys2Proof.Machine
end

section
/-! PROOFS. STRUCT writes of the budget: what a lowered budget leaves (R63), and what raising MAX_VOICES or RESERVE offers
(R65). -/

namespace Sys2Proof.Machine

theorem param_of_params {s t : State} (h : t.params = s.params) (q : PartId) (j : ParamId) : t.param q j = s.param q j := by
  rw [State.param, h]
  rfl

theorem inMask_of_params {s t : State} (h : t.params = s.params) (q : PartId) (v : VoiceId) : t.inMask q v = s.inMask q v := by
  rw [State.inMask, State.inMask, param_of_params h, param_of_params h]

theorem SameButTaken.params {s t : State} (h : SameButTaken s t) : t.params = s.params := by
  unfold SameButTaken at h
  rw [h]

/-! ### A lowered budget (R63) -/

section
variable {s : State} {p : PartId} {y : Nat}

/-- MAX_VOICES lowered below the load is its own stage and no more. -/
theorem reconcile_of_lower (hs : s.Settled) (hwindow : s.param p pReleaseWindow ≠ 0)
    (h : Given.lowersBudget s p pMaxVoices y) :
    (s.setParam p pMaxVoices y).reconcile s.params[p] p = (s.setParam p pMaxVoices y).budgetStage p
      ∧ Fitting p (s.setParam p pMaxVoices y) ((s.setParam p pMaxVoices y).budgetStage p)
      ∧ Fits p ((s.setParam p pMaxVoices y).budgetStage p) := by
  obtain ⟨-, hlower, hload, -, hown⟩ := h
  have hvalue := State.param_setParam_self p pMaxVoices y s
  have hsettled : (s.setParam p pMaxVoices y).Settled := hs
  have hown' : OwnRecords p (s.setParam p pMaxVoices y) := hown
  obtain ⟨old, hold⟩ : ∃ old, old = s.params[p] := ⟨_, rfl⟩
  have holds (j : ParamId) : old[j] = s.param p j := by rw [hold]; rfl
  have hne (j : ParamId) (hj : j ≠ pMaxVoices) : (s.setParam p pMaxVoices y).param p j = old[j] :=
    (setParam_param_ne hj).trans (holds j).symm
  rw [← hold]
  have hload' : y < (s.setParam p pMaxVoices y).load p := hload
  generalize s.setParam p pMaxVoices y = u at *
  obtain ⟨hfitting, hfits⟩ := budgetStage_fits hown' (by omega)
  have hparam (j : ParamId) : (u.budgetStage p).param p j = u.param p j := hfitting.ended.frame.param p j
  have hstage : State.stageBudget old p u = u.budgetStage p := if_pos (by rw [hvalue, holds]; exact hlower)
  have hkept : (u.budgetStage p).Settled :=
    settled_of_ended hsettled (by rw [hne _ (by decide), holds]; exact hwindow) hfitting.voice
  refine ⟨?_, hfitting, hfits⟩
  rw [reconcile_eq, stageMode_of_same (hne _ (by decide)), stageMask_of_same (hne _ (by decide)) (hne _ (by decide)), hstage,
    keyStage_of_none (fun ⟨hon, hnew⟩ => ?_) (.inl ((hparam _).trans (hne _ (by decide)))),
    State.passZeroWindows_of_settled hkept]
  · refine stageOffer_of_none ?_ ((hparam _).trans (hne _ (by decide))).le ((hparam _).trans (hne _ (by decide)))
      ((hparam _).trans (hne _ (by decide)))
    rw [hparam, hvalue, holds]
    exact hlower.le
  · rw [hparam, hne _ (by decide)] at hnew
    omega

end

theorem leftSet_of_none {perf : Perf} {out : VoiceId → Bool} (h : ∀ v ∈ perf.monoSet, out v = false) :
    Given.leftSet perf out = perf := by
  have hsame : perf.monoSet.filter (fun v => !out v) = perf.monoSet :=
    List.filter_eq_self.mpr fun v hv => by rw [h v hv]; rfl
  unfold Given.leftSet
  dsimp only
  rw [hsame, if_neg fun h => h.1 h.2]

/-- The record of a part whose load was fitted. -/
theorem perfOf_of_fitting {p : PartId} {s t : State} (h : Fitting p s t) (hown : OwnRecords p s)
    (hcount : (s.perfOf p).counters.cancelled ≤ 65535) : t.perfOf p = { s.perfOf p with
      bound := (s.perfOf p).bound.take ((s.perfOf p).bound.filter fun v => !taken p s t v).length
      counters := { (s.perfOf p).counters with
        cancelled := min 65535 ((s.perfOf p).counters.cancelled + (allVoices.filter fun v =>
          taken p s t v && (s.voice v).phase.successor?.any fun su => su.part == p && su.kind == .note).length) } } := by
  obtain ⟨hperf, hcancelled⟩ := h.notes p
  have hset : Given.leftSet (s.perfOf p) (taken p s t) = s.perfOf p :=
    leftSet_of_none fun v hv => by rw [taken, hown.1 p v hv, Bool.false_and]
  have hbound : (s.perfOf p).bound.filter (fun v => !(taken p s t v && (s.voice v).successorOf p)) =
      (s.perfOf p).bound.filter fun v => !taken p s t v :=
    List.filter_congr fun v hv => by rw [(hown.2.2 v).mp hv, Bool.and_true]
  have hprefix : (s.perfOf p).bound.filter (fun v => !taken p s t v) =
      (s.perfOf p).bound.take ((s.perfOf p).bound.filter fun v => !taken p s t v).length := by
    refine List.prefix_iff_eq_take.mp ?_
    have := h.newest
    rwa [hperf, hbound] at this
  rw [hperf, hset, hcancelled hcount, hbound, ← hprefix]

/-! ### A raised budget (R65) -/

section
variable {u : State} {d : Deferred}

theorem eligible_iff (v : VoiceId) : u.eligible v d = true ↔ u.inMask d.part v = true ∧ u.load d.part < u.param d.part pMaxVoices := by
  simp [State.eligible]

theorem offer_of_refused (hdeferred : u.deferred = [d]) {v : VoiceId}
    (h : (u.voice v).phase = .idle → u.eligible v d = false) : u.offer v = u := by
  by_cases hidle : (u.voice v).phase = .idle
  · exact offer_of_none (takeFirst_eq_none fun x hx => by
      rw [hdeferred, List.mem_singleton] at hx
      rw [hx]
      exact h hidle)
  · exact if_neg hidle

theorem offerAll_of_refused (hdeferred : u.deferred = [d]) {vs : List VoiceId}
    (h : ∀ v ∈ vs, (u.voice v).phase = .idle → u.eligible v d = false) : u.offerAll vs = u := by
  induction vs with
  | nil => rfl
  | cons v vs ih =>
    rw [State.offerAll, List.foldl_cons, offer_of_refused hdeferred (h v List.mem_cons_self)]
    exact ih fun w hw => h w (List.mem_cons_of_mem _ hw)

/-- The first IDLE voice that can serve the entry sounds it. -/
theorem offerAll_of_served (hdeferred : u.deferred = [d]) {v : VoiceId} (hidle : (u.voice v).phase = .idle)
    (hserves : u.eligible v d = true) (hbefore : ∀ w, w < v → (u.voice w).phase = .idle → u.eligible w d = false) :
    u.offerAll allVoices =
      ({ u with deferred := [] }.soundIdle v d.part { key := d.key, velocity := d.velocity }).countSounded d.part := by
  obtain ⟨pre, post, hsplit⟩ := List.append_of_mem (mem_allVoices v)
  have hlow : ∀ w ∈ pre, w < v := fun w hw =>
    (List.pairwise_append.mp (hsplit ▸ pairwise_allVoices)).2.2 w hw v List.mem_cons_self
  have hpre : pre.foldl (fun s v => s.offer v) u = u := offerAll_of_refused hdeferred fun w hw => hbefore w (hlow w hw)
  have htake : takeFirst (u.eligible v) u.deferred = some (d, []) := by
    rw [hdeferred]
    exact if_pos hserves
  rw [State.offerAll, hsplit, List.foldl_append, hpre, List.foldl_cons, offer_of_some hidle htake]
  exact offerAll_of_empty rfl post

end

/-- MAX_VOICES or RESERVE raised is the offer stage and no more. -/
theorem reconcile_of_raise {s : State} {p : PartId} {i : ParamId} {y : Nat} {d : Deferred} (hs : s.Settled)
    (h : Given.raisesBudget s p i y d) :
    (s.setParam p i y).reconcile s.params[p] p = (s.setParam p i y).offerAll allVoices := by
  obtain ⟨hi, hraise, -⟩ := h
  have hvalue := State.param_setParam_self p i y s
  have hne (j : ParamId) (hmax : j ≠ pMaxVoices) (hreserve : j ≠ pReserve) : (s.setParam p i y).param p j = s.param p j :=
    setParam_param_ne (by rcases hi with rfl | rfl <;> assumption)
  have hmax : s.param p pMaxVoices ≤ (s.setParam p i y).param p pMaxVoices := by
    rcases hi with rfl | rfl
    · exact hraise.le.trans hvalue.ge
    · exact (setParam_param_ne (by decide)).ge
  have hsettled : (s.setParam p i y).Settled := hs
  have hoffers : s.param p pMaxVoices < (s.setParam p i y).param p pMaxVoices
      ∨ s.param p pReserve < (s.setParam p i y).param p pReserve := by
    rcases hi with rfl | rfl
    · exact .inl (hraise.trans_eq hvalue.symm)
    · exact .inr (hraise.trans_eq hvalue.symm)
  generalize s.setParam p i y = u at *
  rw [reconcile_eq, stageMode_of_same (hne _ (by decide) (by decide)),
    stageMask_of_same (hne _ (by decide) (by decide)) (hne _ (by decide) (by decide)),
    stageBudget_of_fits (fun h => absurd hmax (Nat.not_le.mpr h)),
    keyStage_of_none (fun ⟨hold, hnew⟩ => ?_) (.inl (hne _ (by decide) (by decide))),
    State.passZeroWindows_of_settled hsettled]
  · exact if_pos (hoffers.imp id .inl)
  · rw [hne _ (by decide) (by decide)] at hnew
    have : s.param p pPartEnable = 1 := hold
    omega

/-- A write whose reconcile takes notes of voices: the states before, between and after. -/
theorem frame_of_played {s u w t : State} (hset : u = { s with params := u.params }) (hframe : SameButPlayed u w)
    (ht : t = { w with knobs := t.knobs, linkA := t.linkA, linkB := t.linkB }) : t = { s with
      voices := t.voices, perf := t.perf, params := t.params, knobs := t.knobs, linkA := t.linkA, linkB := t.linkB } := by
  unfold SameButPlayed at hframe
  rw [ht, hframe, hset]

section
variable {s : State} {l : Link} {p : PartId} {i : ParamId} {x : Nat} (hready : s.ready l) (hcls : (descriptor i).cls = .struct)
  (hmorph : ∀ m ∈ s.slotOf p, ∀ e ∈ m.entries, e.index ≠ i) (hx : x < 65536)
include hready hcls hmorph hx

/-- The state that a PARAM_SET leaves, in terms of the state that the reconcile leaves. -/
theorem exec_paramSet_reconciled (hne : Given.clamped i x ≠ s.param p i) {u : State} (hu : u = s.setParam p i (Given.clamped i x))
    {w : State} (hw : u.reconcile s.params[p] p = w) : ∃ t, exec (.paramSet l ([byte p, byte i] ++ field16 x)) s = .next t
      ∧ t = { w with knobs := t.knobs, linkA := t.linkA, linkB := t.linkB }
      ∧ Given.paramWritten s t l p i x (Given.clamped i x) ∧ u = { s with params := u.params } := by
  rw [hu] at hw
  obtain ⟨t, hexec, hframe, hwritten⟩ := exec_paramSet_struct hready hcls hmorph hx hne hw
  exact ⟨t, hexec, hframe, hwritten, by rw [hu]; rfl⟩

variable (hs : s.Settled) (hwindow : s.param p pReleaseWindow ≠ 0)
include hs hwindow

/-- A change of the voice mask. -/
theorem exec_paramSet_mask (h : Given.changesMask s p i (Given.clamped i x)) :
    ∃ t, exec (.paramSet l ([byte p, byte i] ++ field16 x)) s = .next t
      ∧ Given.paramWritten s t l p i x (Given.clamped i x)
      ∧ (t = { s with
          voices := t.voices, perf := t.perf, params := t.params, knobs := t.knobs, linkA := t.linkA, linkB := t.linkB })
      ∧ (∀ v, t.voice v = if (!t.inMask p v && (s.voice v).countsFor p) = true then
          (s.voice v).ended s.timestamp (s.param p pReleaseWindow) else s.voice v)
      ∧ Given.notesTaken s t (fun v => !t.inMask p v && (s.voice v).countsFor p)
      ∧ ∀ q, q ≠ p → t.perfOf q = s.perfOf q := by
  obtain ⟨u, hu⟩ : ∃ u, u = s.setParam p i (Given.clamped i x) := ⟨_, rfl⟩
  have hsame : u.param p pReleaseWindow = s.param p pReleaseWindow := by
    rw [hu]
    exact setParam_param_ne (by rcases h.1 with rfl | rfl <;> decide)
  have hw : u.reconcile s.params[p] p = u.maskStage p := hu ▸ reconcile_of_mask hs hwindow h
  obtain ⟨t, hexec, hframe, hwritten, hset⟩ := exec_paramSet_reconciled hready hcls hmorph hx h.2.1 hu hw
  obtain ⟨-, -, -, -, hothers⟩ := h
  obtain ⟨hended, hvoice, hnotes⟩ := maskStage_ends p u
  generalize State.maskStage p u = w at *
  have hparams : t.params = u.params := by
    have hkept := hended.frame.taken.params
    rw [hframe]
    exact hkept
  have hmask (v : VoiceId) : t.inMask p v = u.inMask p v := inMask_of_params hparams p v
  have hv (v : VoiceId) : u.voice v = s.voice v := by rw [hset]; rfl
  have hperf (q : PartId) : u.perfOf q = s.perfOf q := by rw [hset]; rfl
  have htime : u.timestamp = s.timestamp := by rw [hset]
  have htv (v : VoiceId) : t.voice v = w.voice v := by rw [hframe]; rfl
  have htp (q : PartId) : t.perfOf q = w.perfOf q := by rw [hframe]; rfl
  refine ⟨t, hexec, hwritten, frame_of_played hset hended.frame hframe, fun v => ?_, ?_, fun q hq => ?_⟩
  · rw [htv, hvoice, hmask, hv, htime, hsame]
  · unfold Given.notesTaken at hnotes ⊢
    simp only [hmask, htp]
    simpa only [hperf, hv] using hnotes
  · rw [htp, hended.perf q hq fun v hv' => ?_, hperf]
    rw [hv]
    rw [hperf] at hv'
    exact hothers q hq v hv'

/-- MAX_VOICES lowered below the load. -/
theorem exec_paramSet_lower (h : Given.lowersBudget s p i (Given.clamped i x)) :
    ∃ t, exec (.paramSet l ([byte p, byte i] ++ field16 x)) s = .next t
      ∧ Given.paramWritten s t l p i x (Given.clamped i x)
      ∧ (t = { s with
          voices := t.voices, perf := t.perf, params := t.params, knobs := t.knobs, linkA := t.linkA, linkB := t.linkB })
      ∧ t.load p = Given.clamped i x
      ∧ (∀ v, t.voice v = if taken p s t v = true then
          (s.voice v).ended s.timestamp (s.param p pReleaseWindow) else s.voice v)
      ∧ ((∃ v, (s.voice v).successorOf p = true ∧ taken p s t v = true) → ∀ v, (t.voice v).gatedFor p = false)
      ∧ ((∀ v, (s.voice v).gatedFor p = true → s.age v ≤ 32767) → ∀ v w, (s.voice v).gatedFor p = true →
          taken p s t v = true → (t.voice w).gatedFor p = true → Given.takesFirst s p v w)
      ∧ t.perfOf p = { s.perfOf p with
          bound := (s.perfOf p).bound.take ((s.perfOf p).bound.filter fun v => !taken p s t v).length
          counters := { (s.perfOf p).counters with
            cancelled := min 65535 ((s.perfOf p).counters.cancelled + (allVoices.filter fun v =>
              taken p s t v && (s.voice v).phase.successor?.any fun su => su.part == p && su.kind == .note).length) } }
      ∧ (∀ v ∈ (t.perfOf p).bound, taken p s t v = false)
      ∧ ∀ q, q ≠ p → t.perfOf q = s.perfOf q := by
  obtain ⟨rfl, hlower, -, hcount, hsets, hnodup, hbound⟩ := id h
  obtain ⟨y, hy⟩ : ∃ y, y = Given.clamped pMaxVoices x := ⟨_, rfl⟩
  rw [← hy] at h hlower
  obtain ⟨hreconcile, hfitting, hfits⟩ := reconcile_of_lower hs hwindow h
  have hown : OwnRecords p (s.setParam p pMaxVoices y) := ⟨hsets, hnodup, hbound⟩
  have hsame (j : ParamId) (hj : j ≠ pMaxVoices) : (s.setParam p pMaxVoices y).param p j = s.param p j := setParam_param_ne hj
  have hvalue : (s.setParam p pMaxVoices y).param p pMaxVoices = y := State.param_setParam_self ..
  obtain ⟨u, hu⟩ : ∃ u, u = s.setParam p pMaxVoices y := ⟨_, rfl⟩
  rw [← hu] at hreconcile hfitting hfits hown hvalue
  rw [← hu] at hsame
  obtain ⟨t, hexec, hframe, hwritten, hset⟩ := exec_paramSet_reconciled hready hcls hmorph hx
    (by rw [← hy]; exact hlower.ne) (by rw [← hy]; exact hu) hreconcile
  rw [← hy] at hwritten ⊢
  generalize State.budgetStage p u = w at *
  have hv (v : VoiceId) : u.voice v = s.voice v := by rw [hset]; rfl
  have hperf (q : PartId) : u.perfOf q = s.perfOf q := by rw [hset]; rfl
  have htime : u.timestamp = s.timestamp := by rw [hset]
  have hserial : u.serial = s.serial := by rw [hset]
  have hage (v : VoiceId) : u.age v = s.age v := by rw [State.age, State.age, hserial, hv]
  have htv (v : VoiceId) : t.voice v = w.voice v := by rw [hframe]; rfl
  have htp (q : PartId) : t.perfOf q = w.perfOf q := by rw [hframe]; rfl
  have hload : t.load p = w.load p := by simp only [State.load, htv]
  have hout (v : VoiceId) : taken p u w v = taken p s t v := by rw [taken, taken, hv, htv]
  have hrecord := perfOf_of_fitting hfitting hown (by rw [hperf]; exact hcount)
  have horder := hfitting.order
  have hcancels := hfitting.cancels
  simp only [hout, hperf, hv, hage, ← htv] at hrecord horder hcancels
  refine ⟨t, hexec, hwritten, frame_of_played hset hfitting.ended.frame hframe, ?_, fun v => ?_, hcancels,
    fun hages v w' hg hv' hw' => ?_, (htp p).trans hrecord, fun v hv' => ?_, fun q hq => ?_⟩
  · have hfloor := hfitting.floor
    unfold Fits at hfits
    rw [hfitting.ended.frame.param] at hfits
    omega
  · rw [htv, hfitting.voice, hout, hv, htime, hsame _ (by decide)]
  · have hfirst := horder hages v w' hg hv' hw'
    unfold Given.takesFirst at hfirst ⊢
    simp only [hv, hserial, hsame _ (show pStealPolicy ≠ pMaxVoices by decide)] at hfirst
    exact hfirst
  · rw [htp] at hv'
    rw [← hout]
    exact taken_of_counts (countsFor_iff.mpr (.inr ((hfitting.bound_iff hown v).mp hv')))
  · rw [htp, hfitting.ended.perf q hq (hown.1 q), hperf]

omit hwindow in
/-- MAX_VOICES or RESERVE raised while one entry waits: the state that the offer stage leaves. -/
theorem exec_paramSet_raise {d : Deferred} (h : Given.raisesBudget s p i (Given.clamped i x) d) :
    ∃ t u, exec (.paramSet l ([byte p, byte i] ++ field16 x)) s = .next t
      ∧ Given.paramWritten s t l p i x (Given.clamped i x)
      ∧ t = { u.offerAll allVoices with knobs := t.knobs, linkA := t.linkA, linkB := t.linkB }
      ∧ u = { s with params := t.params } ∧ ∀ v, u.eligible v d = true ↔
        s.inMask d.part v = true ∧ s.load d.part < t.param d.part pMaxVoices := by
  obtain ⟨hi, hraise, -⟩ := id h
  obtain ⟨u, hu⟩ : ∃ u, u = s.setParam p i (Given.clamped i x) := ⟨_, rfl⟩
  have hmask (j : ParamId) (hj : j = pMaskLo ∨ j = pMaskHi) (q : PartId) : u.param q j = s.param q j := by
    rw [hu]
    exact State.param_setParam_ne
      (fun e => by rcases hi with rfl | rfl <;> rcases hj with rfl | rfl <;> exact absurd e.2 (by decide)) _ _
  have hw : u.reconcile s.params[p] p = u.offerAll allVoices := hu ▸ reconcile_of_raise hs h
  obtain ⟨t, hexec, hframe, hwritten, hset⟩ := exec_paramSet_reconciled hready hcls hmorph hx hraise.ne' hu hw
  have hparams : t.params = u.params := by
    have hkept := (sameButVoices_offerAll allVoices u).notes.params
    generalize u.offerAll allVoices = w at *
    rw [hframe]
    exact hkept
  refine ⟨t, u, hexec, hwritten, hframe, hparams ▸ hset, fun v => ?_⟩
  have hload : u.load d.part = s.load d.part := by rw [hset]; rfl
  rw [eligible_iff, State.inMask, hmask _ (.inl rfl), hmask _ (.inr rfl), hload, param_of_params hparams]
  rfl

end

/-- Settles O31: each write by its one stage of the reconcile. -/
theorem structuralWritesFitMaskAndBudget : Obligations.StructuralWritesFitMaskAndBudget := by
  unfold Obligations.StructuralWritesFitMaskAndBudget
  intro s l p i x ⟨hready, hs, hwindow, hcls, hmorph⟩ hx y perf command ends cancelled frame
  refine ⟨fun h => ?_, fun h => exec_paramSet_lower hready hcls hmorph hx hs hwindow h, fun d h => ?_⟩
  · obtain ⟨t, hexec, hwritten, hframe, hvoice, hnotes, hother⟩ := exec_paramSet_mask hready hcls hmorph hx hs hwindow h
    obtain ⟨hperf, hcancelled⟩ := hnotes p
    refine ⟨t, hexec, hwritten, hframe, hvoice, ?_, hother⟩
    rw [hperf, hcancelled h.2.2.2.1]
  · obtain ⟨t, u, hexec, hwritten, ht, hu, heligible⟩ := exec_paramSet_raise hready hcls hmorph hx hs h
    have hdeferred : u.deferred = [d] := by rw [hu]; exact h.2.2
    have hv (v : VoiceId) : u.voice v = s.voice v := by rw [hu]; rfl
    refine ⟨t, hexec, hwritten, fun hrefused => ?_, fun v hbelow hin hidle hbefore => ?_⟩
    · have hnone : u.offerAll allVoices = u :=
        offerAll_of_refused hdeferred fun v _ hidle => Bool.eq_false_iff.mpr fun he => by
          obtain ⟨hin, hlow⟩ := (heligible v).mp he
          rw [hv] at hidle
          exact hrefused.elim (fun hfull => absurd hlow (Nat.not_lt.mpr hfull)) fun hnone => hnone v hin hidle
      rw [hnone, hu] at ht
      refine ⟨?_, ?_, ?_⟩
      · rw [ht]
      · rw [ht]
      · rw [ht]
    · have hserved := offerAll_of_served (v := v) hdeferred (by rw [hv]; exact hidle) ((heligible v).mpr ⟨hin, hbelow⟩)
        fun w hw hidle' => Bool.eq_false_iff.mpr fun he => by
          rw [hv] at hidle'
          exact hbefore w hw ((heligible w).mp he).1 hidle'
      rw [hserved] at ht
      have htv (w : VoiceId) : t.voice w = if w = v then { u.voice v with
            phase := .gated { key := d.key, velocity := d.velocity } false none, part := d.part, serial := u.serial + 1
            clamped := false } else u.voice w := by
        rw [ht]
        exact State.voice_soundIdle { u with deferred := [] } _ v w _
      have htg (w : VoiceId) : t.glide w = if w = v then { position := 256 * d.key.val, target := none } else u.glide w := by
        rw [ht]
        exact State.glide_soundIdle { u with deferred := [] } d.part v w { key := d.key, velocity := d.velocity }
      have htp (q : PartId) : t.perfOf q = if q = d.part then { u.perfOf q with
          counters := { (u.perfOf q).counters with sounded := min 65535 ((u.perfOf q).counters.sounded + 1) } }
          else u.perfOf q := by
        rw [ht]
        exact State.perfOf_countWith (State.soundIdle v d.part { key := d.key, velocity := d.velocity } { u with deferred := [] })
          d.part q fun c => { c with sounded := incSat16 c.sounded }
      have hframe : t = { u with
          voices := t.voices, serial := u.serial + 1, deferred := [], perf := t.perf, knobs := t.knobs
          glides := t.glides, linkA := t.linkA, linkB := t.linkB } := by
        rw [ht]
        rfl
      rw [hu] at hframe
      refine ⟨hframe, ?_, fun w hw => ?_, ?_, fun w hw => ?_, ?_, fun q hq => ?_⟩
      · rw [htv, if_pos rfl, hu]
        rfl
      · rw [htv, if_neg hw, hu]
        rfl
      · rw [htg, if_pos rfl]
      · rw [htg, if_neg hw, hu]
        rfl
      · rw [htp, if_pos rfl, hu]
        rfl
      · rw [htp, if_neg hq, hu]
        rfl

end Sys2Proof.Machine
end

section
/-! PROOFS. Writes of one parameter by any writer, in a morph or not: what they do to the voice table, the slots, the
bindings and the links (R54 to R57, R60, R82, R111, R116). -/

namespace Sys2Proof.Machine

/-! ### A reconcile that opens no window of 0 (R20, R60) -/

/-- No window of 0 stands open, and a voice released for part p opens none. -/
def OpensNone (p : PartId) (s : State) : Prop := s.Settled ∧ s.param p pReleaseWindow ≠ 0

section
variable {p : PartId} {s : State}

theorem SameButVoices.param {s t : State} (h : SameButVoices s t) (q : PartId) (i : ParamId) : t.param q i = s.param q i :=
  param_of_params h.notes.params q i

theorem opensNone_allOffPart (h : OpensNone p s) : OpensNone p (s.allOffPart p) := by
  obtain ⟨hframe, hcleared⟩ := allOffPart_cleared s p
  exact ⟨settled_of_cleared h.1 h.2 hcleared, by rw [hframe.param]; exact h.2⟩

theorem opensNone_maskStage (h : OpensNone p s) : OpensNone p (s.maskStage p) := by
  obtain ⟨hended, hvoice, -⟩ := maskStage_ends p s
  exact ⟨settled_of_ended h.1 h.2 hvoice, by rw [hended.frame.param]; exact h.2⟩

theorem opensNone_endFor (h : OpensNone p s) (v : VoiceId) : OpensNone p (s.endFor p v) := by
  refine ⟨settled_of_ended (start := s.timestamp) (out := fun w => w == v && (s.voice v).countsFor p) h.1 h.2 fun w => ?_,
    by rw [(endedFor_endFor p s v).frame.param]; exact h.2⟩
  by_cases hw : w = v
  · subst hw
    rw [voice_endFor_self, beq_self_eq_true, Bool.true_and]
  · rw [voice_endFor_ne hw, show (w == v) = false by simp [hw], Bool.false_and, if_neg Bool.false_ne_true]

theorem opensNone_cancelAndLeave (h : OpensNone p s) (v : VoiceId) : OpensNone p (s.cancelAndLeave v) := by
  refine ⟨fun w => ?_, by rw [(sameButPlayed_cancelAndLeave v s).param]; exact h.2⟩
  by_cases hw : w = v
  · subst hw
    rw [voice_cancelAndLeave_self]
    unfold Voice.withoutSuccessor
    split
    · rfl
    · exact h.1 w
  · rw [voice_cancelAndLeave_ne hw]
    exact h.1 w

theorem opensNone_budgetRelease (h : OpensNone p s) : OpensNone p (s.budgetRelease p) := by
  unfold State.budgetRelease
  split
  · split
    · next v hpick =>
      rw [← endFor_of_gated (List.mem_filter.mp (State.pickVictim_mem hpick)).2]
      exact opensNone_endFor h v
    · exact h
  · exact h

theorem opensNone_budgetCancel (h : OpensNone p s) : OpensNone p (s.budgetCancel p) := by
  unfold State.budgetCancel
  split
  · split
    · next v _ => exact opensNone_cancelAndLeave h v
    · exact h
  · exact h

theorem opensNone_repeatStep {f : State → State} (hf : ∀ s, OpensNone p s → OpensNone p (f s)) (n : Nat)
    (h : OpensNone p s) : OpensNone p (repeatStep f n s) := by
  induction n generalizing s with
  | zero => exact h
  | succ n ih => exact ih (hf s h)

theorem opensNone_reselect (h : OpensNone p s) : OpensNone p (s.reselect p) :=
  ⟨(noNewWindow_reselect p).settled h.1, by rw [(sameButVoices_reselect p s).param]; exact h.2⟩

theorem opensNone_ite {t : State} {c : Prop} [Decidable c] (hs : OpensNone p s) (ht : OpensNone p t) :
    OpensNone p (if c then t else s) := by
  split
  · exact ht
  · exact hs

/-- A reconcile that opens no window of 0 writes the voices and what moves with them alone. -/
theorem sameButVoices_reconcile (h : OpensNone p s) (old : Vector Nat 40) : SameButVoices s (s.reconcile old p) := by
  have hmode : OpensNone p (State.stageMode old p s) := opensNone_ite h (opensNone_allOffPart h)
  have hmask : OpensNone p (State.stageMask old p (State.stageMode old p s)) := opensNone_ite hmode (opensNone_maskStage hmode)
  have hbudget := opensNone_ite (c := (State.stageMask old p (State.stageMode old p s)).param p pMaxVoices < old[pMaxVoices])
    hmask (opensNone_repeatStep (fun _ => opensNone_budgetCancel) 16
      (opensNone_repeatStep (fun _ => opensNone_budgetRelease) 16 hmask))
  change OpensNone p (State.stageBudget old p _) at hbudget
  have hkey : OpensNone p (State.keyStage old p (State.stageBudget old p (State.stageMask old p (State.stageMode old p s)))) := by
    have hclears := opensNone_allOffPart hbudget
    unfold State.keyStage
    have hfirst := opensNone_ite (c := old[pPartEnable] = 1 ∧ (State.stageBudget old p (State.stageMask old p
      (State.stageMode old p s))).param p pPartEnable = 0) hbudget hclears
    exact opensNone_ite hfirst (opensNone_reselect hfirst)
  rw [reconcile_eq, State.passZeroWindows_of_settled hkey.1]
  have hmode' : SameButVoices s (State.stageMode old p s) := .ite (sameButVoices_allOffPart s p)
  have hmask' := hmode'.trans (.ite (sameButVoices_maskStage p _) : SameButVoices _ (State.stageMask old p _))
  have hbudget' := hmask'.trans (.ite (sameButVoices_budgetStage p _) : SameButVoices _ (State.stageBudget old p _))
  exact (hbudget'.trans (sameButVoices_keyStage old p _)).trans (.ite (sameButVoices_offerAll allVoices _))

end

/-! ### The image after a write, and what the voices do at it (R56) -/

/-- The state after a value is written and, where it is structural and changes, reconciled. -/
def State.imageWritten (p : PartId) (i : ParamId) (x : Nat) (s : State) : State :=
  if isStruct i && x != s.params[p][i] then (s.setParam p i x).reconcile s.params[p] p else s.setParam p i x

theorem local_imageWritten (p : PartId) (i : ParamId) (x : Nat) : Local (State.imageWritten p i x) := fun e s => by
  have hset : (s.within e).setParam p i x = (s.setParam p i x).within e := rfl
  unfold State.imageWritten
  change (if isStruct i && x != s.params[p][i] then ((s.within e).setParam p i x).reconcile s.params[p] p
    else (s.within e).setParam p i x) = _
  rw [hset, local_reconcile]
  split <;> rfl

theorem sameButNotes_imageWritten (p : PartId) (i : ParamId) (x : Nat) (s : State) :
    SameButNotes (s.setParam p i x) (s.imageWritten p i x) := by
  unfold State.imageWritten
  split
  · exact sameButNotes_reconcile _ p _
  · exact .refl _

theorem Local.sameVoices {f : State → State} (h : Local f) (s e : State) :
    Given.sameVoices (f s) (f (s.within e)) := by
  rw [h e s]
  exact ⟨rfl, rfl, rfl, rfl, rfl, rfl, rfl, rfl, rfl⟩

/-- Where the value does not change, or has no stage, the voices stay. -/
theorem sameVoices_imageWritten {s : State} {p : PartId} {i : ParamId} {x : Nat}
    (h : isStruct i = false ∨ x = s.param p i) : Given.sameVoices s (s.imageWritten p i x) := by
  have htest : (isStruct i && x != s.params[p][i]) = false := by
    rcases h with h | h
    · rw [h, Bool.false_and]
    · rw [h]
      simp [State.param]
  rw [State.imageWritten, htest, if_neg Bool.false_ne_true]
  exact ⟨rfl, rfl, rfl, rfl, rfl, rfl, rfl, rfl, rfl⟩

/-- A write opens no window of 0 where none stands open and the part's window is above 0. -/
theorem sameTune_imageWritten {s : State} {p : PartId} {i : ParamId} {x : Nat} (hs : s.Settled)
    (hwindow : s.param p pReleaseWindow ≠ 0) : Given.sameTune s (s.imageWritten p i x) := by
  unfold State.imageWritten
  split
  · next htest =>
    have hi : i ≠ pReleaseWindow := fun h => by
      rw [h] at htest
      exact absurd ((Bool.and_eq_true _ _).mp htest).1 (by decide)
    have hopens : OpensNone p (s.setParam p i x) := ⟨hs, by rw [setParam_param_ne (Ne.symm hi)]; exact hwindow⟩
    have hframe := sameButVoices_reconcile hopens s.params[p]
    have hset : s.setParam p i x = { s with params := (s.setParam p i x).params } := rfl
    generalize State.reconcile s.params[p] p (s.setParam p i x) = w at *
    generalize s.setParam p i x = u at *
    unfold SameButVoices at hframe
    refine ⟨?_, ?_, ?_, ?_⟩ <;> rw [hframe, hset]
  · exact ⟨rfl, rfl, rfl, rfl⟩

/-! ### The slot of the part (R82) -/

theorem isMorphing_eq (s : State) (p : PartId) (i : ParamId) : s.isMorphing p i = (Given.entryOf s p i).isSome := by
  unfold State.isMorphing Given.entryOf
  cases s.slotOf p with
  | none => rfl
  | some m =>
    rw [Bool.eq_iff_iff, Option.any_some, List.any_eq_true, Option.bind_some, List.find?_isSome]

theorem State.takeAway_of_morphing {s : State} {p : PartId} {i : ParamId} {m : Morph} (hslot : s.slotOf p = some m)
    (h : s.isMorphing p i = true) : s.takeAway p i =
      s.setSlot p (some { m with entries := m.entries.filter fun e => e.index != i, taken := min 255 (m.taken + 1) }) := by
  unfold State.isMorphing at h
  rw [hslot] at h
  unfold State.takeAway
  rw [hslot]
  exact if_pos h

theorem slotOf_takeAway (s : State) (p : PartId) (i : ParamId) (q : PartId) :
    (s.takeAway p i).slotOf q = if q = p then Given.slotWithout s p i else s.slotOf q := by
  cases hmorphing : s.isMorphing p i with
  | false =>
    rw [State.takeAway_of_not hmorphing, Given.slotWithout, ← isMorphing_eq, hmorphing]
    split
    · next hq =>
      rw [hq]
      cases s.slotOf p <;> rfl
    · rfl
  | true =>
    obtain ⟨m, hslot⟩ : ∃ m, s.slotOf p = some m := by
      unfold State.isMorphing at hmorphing
      cases hslot : s.slotOf p with
      | none => rw [hslot] at hmorphing; cases hmorphing
      | some m => exact ⟨m, rfl⟩
    rw [State.takeAway_of_morphing hslot hmorphing, Given.slotWithout, ← isMorphing_eq, hmorphing, hslot]
    split
    · next hq => rw [hq, State.slotOf_setSlot_self]; rfl
    · next hq => rw [State.slotOf_setSlot_ne hq]

theorem slotOf_takeAway_self (s : State) (p : PartId) (i : ParamId) : (s.takeAway p i).slotOf p = Given.slotWithout s p i :=
  (slotOf_takeAway s p i p).trans (if_pos rfl)

theorem sameButSlots_takeAway (p : PartId) (i : ParamId) (s : State) :
    s.takeAway p i = { s with slots := (s.takeAway p i).slots } := by
  unfold State.takeAway
  split
  · split <;> rfl
  · rfl

/-- What a link hears when the chain of a slot has no entry left (R82, R85). -/
def chainTold (p : PartId) (slot : Option Morph) (stamp : Stamp) (l : Link) (u : LinkUnit) : LinkUnit :=
  match slot with
  | some m => u.told (m.entries.isEmpty && (l == m.origin || u.queue.mask.getLsbD 1))
      { kind := .applied, subject := p, value1 := 0, value2 := 256 * linkCode m.origin + m.taken, stamp }
  | none => u

/-- A chain without entries ends, and the links hear of it. -/
theorem endEmptyChain_effect (s : State) (p : PartId) :
    s.endEmptyChain p = { s with
      slots := (s.endEmptyChain p).slots, linkA := (s.endEmptyChain p).linkA, linkB := (s.endEmptyChain p).linkB }
    ∧ (∀ q, (s.endEmptyChain p).slotOf q =
        if q = p then (s.slotOf p).filter fun m => decide (m.entries ≠ []) else s.slotOf q)
    ∧ ∀ l, (s.endEmptyChain p).link l = chainTold p (s.slotOf p) s.timestamp l (s.link l) := by
  unfold State.endEmptyChain
  cases hslot : s.slotOf p with
  | none =>
    refine ⟨rfl, fun q => ?_, fun l => rfl⟩
    by_cases hq : q = p
    · rw [if_pos hq, hq]
      exact hslot
    · rw [if_neg hq]
  | some m =>
    by_cases hempty : m.entries = []
    · simp only [hempty, if_true]
      obtain ⟨t, ht⟩ : ∃ t, t = s.postApplied p m.origin 0 m.taken := ⟨_, rfl⟩
      have hframe : SameButLinks s t := ht ▸ sameButLinks_postAlso (· == m.origin) .applied p 0 (pair (linkCode m.origin) m.taken) s
      have hlink (l : Link) : t.link l = (s.link l).told ((l == m.origin) || (s.link l).queue.mask.getLsbD 1)
          { kind := .applied, subject := p, value1 := 0, value2 := 256 * linkCode m.origin + m.taken, stamp := s.timestamp } :=
        ht ▸ State.link_postAlso_told (· == m.origin) .applied p 0 (pair (linkCode m.origin) m.taken) s l
      rw [← ht]
      unfold SameButLinks at hframe
      refine ⟨by rw [hframe]; rfl, fun q => ?_, fun l => ?_⟩
      · by_cases hq : q = p
        · rw [if_pos hq, hq, State.slotOf_setSlot_self, Option.filter_some, hempty]
          rfl
        · rw [if_neg hq, State.slotOf_setSlot_ne hq, hframe]
          rfl
      · rw [State.setSlot_link, hlink, chainTold, hempty, List.isEmpty_nil, Bool.true_and]
    · simp only [hempty, if_false]
      refine ⟨trivial, fun q => ?_, fun l => ?_⟩
      · by_cases hq : q = p
        · rw [if_pos hq, hq, hslot, Option.filter_some, if_pos (by simpa using hempty)]
        · rw [if_neg hq]
      · have hfull : m.entries.isEmpty = false := by simpa using hempty
        rw [chainTold, hfull, Bool.false_and]
        rfl

/-! ### What a write leaves (R56, R57) -/

/-- What a write of x to parameter i of part p by a writer leaves. -/
structure Written (w : Writer) (p : PartId) (i : ParamId) (x : Nat) (s t : State) : Prop where
  frame : t = { s.imageWritten p i x with slots := t.slots, knobs := t.knobs, linkA := t.linkA, linkB := t.linkB }
  slot : t.slotOf p = if (Given.entryOf s p i).isSome then
    (Given.slotWithout s p i).filter fun m => decide (m.entries ≠ []) else s.slotOf p
  others : ∀ q, q ≠ p → t.slotOf q = s.slotOf q
  knob : ∀ k, t.knob k = (s.knob k).map (Given.told p (Given.only i x) (Given.reportedAt s k))
  link : ∀ l, t.link l =
    ((if (Given.entryOf s p i).isSome then chainTold p (Given.slotWithout s p i) s.timestamp l else id) (s.link l)).told
      ((s.link l).queue.mask.getLsbD 1 && w != .link l)
      { kind := .paramChanged, subject := p, value1 := 256 * w.code + i, value2 := x, stamp := s.timestamp }

theorem mask_chainTold (p : PartId) (slot : Option Morph) (stamp : Stamp) (l : Link) (u : LinkUnit) :
    (chainTold p slot stamp l u).queue.mask = u.queue.mask := by
  unfold chainTold
  split
  · exact mask_told _ _ u
  · rfl

theorem imageWritten_within (s : State) (p : PartId) (i : ParamId) (x : Nat) :
    s.imageWritten p i x = (s.imageWritten p i x).within s := (local_imageWritten p i x).self s

/-- A write after its entry was taken out of a morph, up to the bindings and the links. -/
theorem reconciled_takeAway (s : State) (p : PartId) (i : ParamId) (x : Nat) :
    (if isStruct i && x != s.params[p][i] then ((s.setParam p i x).takeAway p i).reconcile s.params[p] p
      else (s.setParam p i x).takeAway p i) =
      { s.imageWritten p i x with slots := ((s.setParam p i x).takeAway p i).slots } := by
  have hslots := sameButSlots_takeAway p i (s.setParam p i x)
  have hown : (s.setParam p i x).takeAway p i = (s.setParam p i x).within ((s.setParam p i x).takeAway p i) := by
    rw [hslots]
    rfl
  have hwithin := imageWritten_within s p i x
  unfold State.imageWritten at hwithin ⊢
  split
  · next htest =>
    rw [if_pos htest] at hwithin
    nth_rw 1 [hown]
    rw [local_reconcile]
    generalize State.reconcile s.params[p] p (s.setParam p i x) = r at *
    rw [hwithin, hslots]
    rfl
  · next htest =>
    exact hslots

theorem written_writeParam (w : Writer) (p : PartId) (i : ParamId) (x : Nat) (s : State) :
    Written w p i x s (s.writeParam w p i x) := by
  obtain ⟨b, hb⟩ : ∃ b : State, b = { s.imageWritten p i x with slots := ((s.setParam p i x).takeAway p i).slots } :=
    ⟨_, rfl⟩
  obtain ⟨c, hc⟩ : ∃ c, c = b.tellMap p i x := ⟨_, rfl⟩
  obtain ⟨d, hd⟩ : ∃ d, d = if s.isMorphing p i then c.endEmptyChain p else c := ⟨_, rfl⟩
  have hwrite : s.writeParam w p i x = d.postParamChanged w p i x := by
    rw [hd, hc, hb, ← reconciled_takeAway]
    rfl
  have hkept := sameButNotes_imageWritten p i x s
  have hwithin := imageWritten_within s p i x
  have hslotb (q : PartId) : b.slotOf q = if q = p then Given.slotWithout s p i else s.slotOf q := by
    rw [hb]
    exact slotOf_takeAway (s.setParam p i x) p i q
  have hlinkb (l : Link) : b.link l = s.link l := by rw [hb, hwithin]; cases l <;> rfl
  have hstampb : b.timestamp = s.timestamp := by rw [hb]; exact hkept.timestamp
  have hknobb (k : ControlId) : b.knob k = s.knob k := by rw [hb, hwithin]; rfl
  have hreported (k : ControlId) : Given.reportedAt b k = Given.reportedAt s k := by rw [hb, hwithin]; rfl
  have hcframe : c = { b with knobs := c.knobs } := by
    rw [hc]
    unfold State.tellMap
    generalize Vector.ofFn (b.toldKnob p i x) = ks
    rfl
  have hcknob (k : ControlId) : c.knob k = _ := hc ▸ State.knob_tellMap b p i x k
  obtain ⟨heframe, heslot, helink⟩ := endEmptyChain_effect c p
  have hcslot (q : PartId) : c.slotOf q = b.slotOf q := by rw [hcframe]; rfl
  have hclink (l : Link) : c.link l = b.link l := by rw [hcframe]; cases l <;> rfl
  have hcstamp : c.timestamp = b.timestamp := by rw [hcframe]
  have hdframe : d = { c with slots := d.slots, linkA := d.linkA, linkB := d.linkB } := by
    rw [hd]
    split
    · exact heframe
    · rfl
  have hdslot (q : PartId) : d.slotOf q = if q = p then (if (Given.entryOf s p i).isSome then
      (Given.slotWithout s p i).filter fun m => decide (m.entries ≠ []) else s.slotOf p) else s.slotOf q := by
    rw [hd, isMorphing_eq]
    split
    · rw [heslot, hcslot, hcslot, hslotb, hslotb, if_pos rfl]
      split <;> rfl
    · next hnot =>
      rw [hcslot, hslotb]
      split
      · rw [← slotOf_takeAway_self, State.takeAway_of_not (by rw [isMorphing_eq]; exact Bool.eq_false_iff.mpr hnot)]
      · rfl
  have hdlink (l : Link) : d.link l = (if (Given.entryOf s p i).isSome then
      chainTold p (Given.slotWithout s p i) s.timestamp l else id) (s.link l) := by
    rw [hd, isMorphing_eq]
    split
    · rw [helink, hcslot, hslotb, if_pos rfl, hclink, hlinkb, hcstamp, hstampb]
    · rw [hclink, hlinkb]
      rfl
  have hdstamp : d.timestamp = s.timestamp := by rw [hdframe, hcstamp, hstampb]
  have hmask (l : Link) : (d.link l).queue.mask = (s.link l).queue.mask := by
    rw [hdlink]
    split
    · exact mask_chainTold _ _ _ _ _
    · rfl
  have hpost : SameButLinks d (d.postParamChanged w p i x) := sameButLinks_postWhere _ _ _ _ _ d
  have hlink := State.link_postParamChanged d w p i x
  rw [hwrite]
  generalize d.postParamChanged w p i x = t at *
  have hslots : t.slots = d.slots := by
    unfold SameButLinks at hpost
    rw [hpost]
  have hknobs : t.knobs = c.knobs := by
    unfold SameButLinks at hpost
    rw [hpost, hdframe]
  refine ⟨?_, ?_, fun q hq => ?_, fun k => ?_, fun l => ?_⟩
  · unfold SameButLinks at hpost
    rw [hslots, hknobs, hpost, hdframe, hcframe, hb]
  · rw [State.slotOf, hslots]
    exact (hdslot p).trans (if_pos rfl)
  · rw [State.slotOf, hslots]
    exact (hdslot q).trans (if_neg hq)
  · rw [State.knob, hknobs]
    exact (hcknob k).trans (by rw [hknobb, hreported])
  · rw [hlink, hmask, hdlink, hdstamp]

/-! ### Writes of the panel, and PARAM_SET beside them (R111, R116) -/

theorem sameVoices_symm {s t : State} (h : Given.sameVoices s t) : Given.sameVoices t s := by
  obtain ⟨hv, hs, hd, hp, hg, hr, hm, hc, hf⟩ := h
  exact ⟨hv.symm, hs.symm, hd.symm, hp.symm, hg.symm, hr.symm, hm.symm, hc.symm, hf.symm⟩

theorem sameVoices_trans {s t u : State} (h : Given.sameVoices s t) (k : Given.sameVoices t u) :
    Given.sameVoices s u := by
  obtain ⟨hv, hs, hd, hp, hg, hr, hm, hc, hf⟩ := h
  obtain ⟨kv, ks, kd, kp, kg, kr, km, kc, kf⟩ := k
  exact ⟨kv.trans hv, ks.trans hs, kd.trans hd, kp.trans hp, kg.trans hg, kr.trans hr, km.trans hm, kc.trans hc,
    kf.trans hf⟩

theorem Written.sameVoices {w : Writer} {p : PartId} {i : ParamId} {x : Nat} {s t : State} (h : Written w p i x s t) :
    Given.sameVoices (s.imageWritten p i x) t := by
  have hframe := h.frame
  generalize s.imageWritten p i x = r at *
  rw [hframe]
  exact ⟨rfl, rfl, rfl, rfl, rfl, rfl, rfl, rfl, rfl⟩

theorem Written.params {w : Writer} {p : PartId} {i : ParamId} {x : Nat} {s t : State} (h : Written w p i x s t) :
    t.params = (s.setParam p i x).params := by
  have hframe := h.frame
  have hkept := (sameButNotes_imageWritten p i x s).params
  generalize s.imageWritten p i x = r at *
  rw [hframe]
  exact hkept

/-- A PARAM_SET of a value in range does to the voices what the write of that value does. -/
theorem exec_paramSet_sameVoices {s : State} {l : Link} (hready : s.ready l) (p : PartId) {i : ParamId} {y : Nat}
    (hrange : inRange i y) : ∃ u, exec (.paramSet l ([byte p, byte i] ++ field16 y)) s = .next u
      ∧ Given.sameVoices u (s.imageWritten p i y) := by
  obtain ⟨hmin, hmax⟩ := hrange
  have hclamp : clampParam i y = y := by
    unfold clampParam clampTo
    omega
  have hy : y < 65536 := lt_of_le_of_lt hmax ((show ∀ i : ParamId, (descriptor i).max < 65536 by decide) i)
  have hwork : Request.paramSet.service l ([byte p, byte i] ++ field16 y) (s.framed l ([byte p, byte i] ++ field16 y)) = _ :=
    paramSetService_byte l p i hy _
  rw [hclamp] at hwork
  have hwritten := written_writeParam (.link l) p i y (s.framed l ([byte p, byte i] ++ field16 y))
  have hlocal := (local_imageWritten p i y).sameVoices s (s.framed l ([byte p, byte i] ++ field16 y))
  rw [framed_within] at hlocal
  refine ⟨_, exec_request_of_running hready (r := .paramSet) (by decide) _, ?_⟩
  rw [hwork]
  have hsame := sameVoices_trans (sameVoices_symm hwritten.sameVoices) (sameVoices_symm hlocal)
  generalize State.writeParam (.link l) p i y (s.framed l ([byte p, byte i] ++ field16 y)) = u at *
  refine sameVoices_trans (t := u) ?_ hsame
  cases l <;> exact ⟨rfl, rfl, rfl, rfl, rfl, rfl, rfl, rfl, rfl⟩

/-- What the panel's write leaves, where the rest stands as a state leaves it that agrees on the image, the voices and
the slots. -/
theorem panelWrites_of {s t : State} {p : PartId} {i : ParamId} {y : Nat} (hparams : t.params = (s.setParam p i y).params)
    (hvoices : Given.sameVoices (s.imageWritten p i y) t)
    (hslot : t.slotOf p = if (Given.entryOf s p i).isSome then
      (Given.slotWithout s p i).filter fun m => decide (m.entries ≠ []) else s.slotOf p)
    (hothers : ∀ q, q ≠ p → t.slotOf q = s.slotOf q) : Given.panelWrites s t p i y := by
  refine ⟨?_, fun q j hne => ?_, hslot, hothers, fun h => ?_, fun hs hwindow => ?_, fun _ hrange l hready => ?_⟩
  · rw [param_of_params hparams, State.param_setParam_self]
  · rw [param_of_params hparams, State.param_setParam_ne hne]
  · exact sameVoices_trans (sameVoices_imageWritten (h.imp_left isStruct_eq_false)) hvoices
  · obtain ⟨hrun, hmeasurement, hcandidate, hfsel⟩ := sameTune_imageWritten (p := p) (i := i) (x := y) hs hwindow
    obtain ⟨-, -, -, -, -, hrun', hmeasurement', hcandidate', hfsel'⟩ := hvoices
    exact ⟨hrun'.trans hrun, hmeasurement'.trans hmeasurement, hcandidate'.trans hcandidate, hfsel'.trans hfsel⟩
  · obtain ⟨u, hexec, hsame⟩ := exec_paramSet_sameVoices hready p hrange
    exact ⟨u, hexec, sameVoices_trans hsame hvoices⟩

/-- What the links hear of a write by the panel. -/
theorem panelTold_eq (s : State) (p : PartId) (i : ParamId) (y : Nat) (l : Link) (u : LinkUnit) :
    Given.panelTold s p i y l u =
      ((if (Given.entryOf s p i).isSome then chainTold p (Given.slotWithout s p i) s.timestamp l else id) u).told
        (u.queue.mask.getLsbD 1) (Given.panelWrote s p i y) := by
  unfold Given.panelTold chainTold
  cases (Given.entryOf s p i).isSome <;> cases Given.slotWithout s p i <;> rfl

end Sys2Proof.Machine
end

section
/-! PROOFS. Moves of a bound control (R103 to R111, R119). -/

namespace Sys2Proof.Machine

/-! ### A take by the panel (R111) -/

/-- The records of the panel and the links alone differ. -/
def SameButScan (s t : State) : Prop :=
  t = { s with
    controls := t.controls, switches := t.switches, scanner := t.scanner, linkA := t.linkA, linkB := t.linkB }

theorem SameButScan.trans {s t u : State} (h : SameButScan s t) (k : SameButScan t u) : SameButScan s u := by
  unfold SameButScan at *
  rw [k, h]

theorem SameButLinks.scan {s t : State} (h : SameButLinks s t) : SameButScan s t := by
  unfold SameButLinks at h
  unfold SameButScan
  exact h.trans (by rw [h])

/-- The voices, the image, the slots, the bindings and the links alone differ. -/
def SameButWrites (s t : State) : Prop :=
  t = { s with
    voices := t.voices, serial := t.serial, deferred := t.deferred, perf := t.perf, glides := t.glides, run := t.run
    measurement := t.measurement, candidate := t.candidate, fsel := t.fsel, params := t.params, slots := t.slots
    knobs := t.knobs, linkA := t.linkA, linkB := t.linkB }

theorem sameButWrites_imageWritten (p : PartId) (i : ParamId) (x : Nat) (s : State) :
    SameButWrites s (s.imageWritten p i x) := by
  have hkept := sameButNotes_imageWritten p i x s
  have hglobals := hkept.globals
  have hstamp := hkept.timestamp
  have hwithin := imageWritten_within s p i x
  unfold SameButWrites
  rw [hwithin]
  generalize s.imageWritten p i x = r at *
  unfold State.within
  rw [hglobals, hstamp]
  rfl

theorem Written.writes {w : Writer} {p : PartId} {i : ParamId} {x : Nat} {s t : State} (h : Written w p i x s t) :
    SameButWrites s t := by
  have himage := sameButWrites_imageWritten p i x s
  have hframe := h.frame
  generalize s.imageWritten p i x = r at *
  unfold SameButWrites at *
  rw [hframe, himage]

/-- The panel writes where the value changes or a morph moves the parameter. -/
def State.takes (s : State) (p : PartId) (i : ParamId) (y : Nat) : Bool := y != s.param p i || (Given.entryOf s p i).isSome

theorem State.take_of_takes {s : State} {p : PartId} {i : ParamId} {y : Nat} (h : s.takes p i y = true) :
    s.take p i y = s.writeParam .panel p i y := by
  unfold State.takes at h
  rw [← isMorphing_eq] at h
  refine if_neg fun hn => ?_
  obtain ⟨hvalue, hmorphing⟩ := hn
  rw [hvalue, hmorphing, Bool.or_false, bne_self_eq_false] at h
  exact absurd h Bool.false_ne_true

theorem State.take_of_not {s : State} {p : PartId} {i : ParamId} {y : Nat} (h : s.takes p i y = false) :
    s.take p i y = s ∧ y = s.param p i := by
  unfold State.takes at h
  rw [← isMorphing_eq, Bool.or_eq_false_iff, bne_eq_false_iff_eq] at h
  exact ⟨if_pos ⟨h.1.symm, h.2⟩, h.1⟩

/-- What a write y of the panel does from a state s' that stands at s but for the panel's records and the links. -/
structure PanelWritten (s s' : State) (p : PartId) (i : ParamId) (y : Nat) (w : State) : Prop where
  frame : SameButWrites s' w
  writes : Given.panelWrites s w p i y
  knob : ∀ c, w.knob c = (s.knob c).map (Given.told p (Given.only i y) (Given.reportedAt s' c))
  link : ∀ l, w.link l = Given.panelTold s p i y l (s'.link l)

theorem panelWritten_writeParam {s s' : State} (h : SameButScan s s') (p : PartId) (i : ParamId) (y : Nat) :
    PanelWritten s s' p i y (s'.writeParam .panel p i y) := by
  have hw := written_writeParam .panel p i y s'
  have hwithin : s' = s.within s' := by
    unfold SameButScan at h
    rw [h]
    rfl
  have hlocal : s'.imageWritten p i y = (s.imageWritten p i y).within s' :=
    (congrArg (State.imageWritten p i y) hwithin).trans (local_imageWritten p i y s' s)
  have hvoices := hw.sameVoices
  have hparams := hw.params
  have hslot := hw.slot
  have hothers := hw.others
  have hknob := hw.knob
  have hlink := hw.link
  have hentry : Given.entryOf s' p i = Given.entryOf s p i := by
    unfold SameButScan at h
    rw [h]
    rfl
  have hwithout : Given.slotWithout s' p i = Given.slotWithout s p i := by
    unfold SameButScan at h
    rw [h]
    rfl
  have hslots (q : PartId) : s'.slotOf q = s.slotOf q := by
    unfold SameButScan at h
    rw [h]
    rfl
  have hknobs (c : ControlId) : s'.knob c = s.knob c := by
    unfold SameButScan at h
    rw [h]
    rfl
  have hstamp : s'.timestamp = s.timestamp := by
    unfold SameButScan at h
    rw [h]
  have hset : (s'.setParam p i y).params = (s.setParam p i y).params := by
    unfold SameButScan at h
    rw [h]
    rfl
  rw [hlocal] at hvoices
  rw [hentry, hwithout, hslots] at hslot
  simp only [hslots] at hothers
  refine ⟨hw.writes, panelWrites_of (hparams.trans hset) hvoices hslot hothers, fun c => ?_, fun l => ?_⟩
  · rw [hknob, hknobs]
  · rw [hlink, panelTold_eq, hentry, hwithout, hstamp]
    have hpanel : (Writer.panel != Writer.link l) = true := by cases l <;> rfl
    rw [hpanel, Bool.and_true]
    rfl

theorem PanelWritten.param {s s' w : State} {p : PartId} {i : ParamId} {y : Nat} (h : PanelWritten s s' p i y w) :
    w.param p i = y := h.writes.1

/-- What a take of y by the panel does from a state s' that stands at s but for the panel's records and the links. -/
structure PanelTook (s s' : State) (p : PartId) (i : ParamId) (y : Nat) (w : State) : Prop where
  frame : SameButWrites s' w
  written : s.takes p i y = true → Given.panelWrites s w p i y
  unwritten : s.takes p i y = false → w.params = s.params ∧ w.slots = s.slots ∧ Given.sameVoices s w
  param : w.param p i = y
  knob : ∀ c, w.knob c = (s.knob c).map fun b =>
    if s.takes p i y then Given.told p (Given.only i y) (Given.reportedAt s' c) b else b
  link : ∀ l, w.link l = (if s.takes p i y then Given.panelTold s p i y l else id) (s'.link l)

theorem panelTook_take {s s' : State} (h : SameButScan s s') (p : PartId) (i : ParamId) (y : Nat) :
    PanelTook s s' p i y (s'.take p i y) := by
  have htakes : s'.takes p i y = s.takes p i y := by
    unfold SameButScan at h
    rw [h]
    rfl
  cases hcase : s.takes p i y with
  | true =>
    rw [State.take_of_takes (htakes.trans hcase)]
    obtain ⟨hframe, hwrites, hknob, hlink⟩ := panelWritten_writeParam h p i y
    refine ⟨hframe, fun _ => hwrites, fun hn => ?_, hwrites.1, fun c => ?_, fun l => ?_⟩
    · rw [hcase] at hn
      cases hn
    · simp only [hcase, if_true]
      exact hknob c
    · rw [hcase]
      exact hlink l
  | false =>
    obtain ⟨hsame, hvalue⟩ := State.take_of_not (htakes.trans hcase)
    rw [hsame]
    refine ⟨rfl, fun hn => ?_, fun _ => ?_, hvalue.symm, fun c => ?_, fun l => ?_⟩
    · rw [hcase] at hn
      cases hn
    · unfold SameButScan at h
      rw [h]
      exact ⟨rfl, rfl, rfl, rfl, rfl, rfl, rfl, rfl, rfl, rfl, rfl⟩
    · simp only [hcase, if_neg Bool.false_ne_true, Option.map_id']
      unfold SameButScan at h
      rw [h]
      rfl
    · rw [hcase]
      rfl

/-! ### A move in each pickup state (R107 to R110) -/

theorem pickupFor_self (mode : KnobMode) (x : Nat) : Given.pickupFor mode x x = .live := by
  cases mode <;> simp [Given.pickupFor]

theorem told_live {p : PartId} {i : ParamId} {y reported : Nat} {b : KnobBinding} (hp : b.part = p) (hi : b.index = i)
    (hy : y = Given.knobPosition i reported) :
    Given.told p (Given.only i y) reported b = { b with pickup := .live } := by
  simp only [Given.told, Given.only, hp, hi, if_true, hy, pickupFor_self]

theorem State.catchReference_eq (s : State) (p : PartId) (i : ParamId) :
    s.catchReference p i = ((Given.entryOf s p i).map MorphEntry.target).getD (s.param p i) := by
  unfold State.catchReference Given.entryOf
  cases (s.slotOf p).bind fun m => m.entries.find? fun e => e.index == i <;> rfl

/-- What a take of y leaves that may end in a binding that goes LIVE. -/
def State.takeLive (k : ControlId) (b : KnobBinding) (y : Nat) (live : Bool) (s : State) : State :=
  if live && b.pickup != .live then (s.take b.part b.index y).goLive k b else s.take b.part b.index y

/-- What a move of a bound control does, read from its pickup state (R107 to R110). -/
theorem State.controlMove_of_bound {s : State} {k : ControlId} {b : KnobBinding} (h : s.knob k = some b) (p0 p1 : Nat) :
    s.controlMove k p0 p1 =
      match b.pickup with
      | .live => s.takeLive k b (knobValue b.index p1) true
      | .catchUp => if s.catchReference b.part b.index ≤ knobValue b.index p1 then
          s.takeLive k b (knobValue b.index p1) true else s
      | .catchDown => if knobValue b.index p1 ≤ s.catchReference b.part b.index then
          s.takeLive k b (knobValue b.index p1) true else s
      | .scale =>
        let y := scaleValue b.index (s.param b.part b.index) p0 p1
        s.takeLive k b y (y == knobValue b.index p1) := by
  unfold State.controlMove State.takeLive
  simp only [h]
  cases hpickup : b.pickup with
  | live => rfl
  | catchUp => simp only [catches, decide_eq_true_eq]; rfl
  | catchDown => simp only [catches, decide_eq_true_eq]; rfl
  | scale =>
    simp only [Bool.and_eq_true, beq_iff_eq]
    by_cases hlive : scaleValue b.index (s.param b.part b.index) p0 p1 = knobValue b.index p1
    · rw [if_pos hlive, if_pos ⟨hlive, rfl⟩]
    · rw [if_neg hlive, if_neg fun hn => hlive hn.1]

/-- CONTROL_TAKEN (R119). -/
def takenNotice (s : State) (k : ControlId) (b : KnobBinding) (y : Nat) : Notice :=
  { kind := .controlTaken, subject := k, value1 := 256 * b.part.val + b.index.val, value2 := y, stamp := s.timestamp }

theorem SameButWrites.timestamp {s t : State} (h : SameButWrites s t) : t.timestamp = s.timestamp := by
  unfold SameButWrites at h
  rw [h]

/-- A binding that goes LIVE, and what the links hear of it. -/
theorem goLive_effect (s : State) (k : ControlId) (b : KnobBinding) :
    s.goLive k b = { s with knobs := (s.goLive k b).knobs, linkA := (s.goLive k b).linkA, linkB := (s.goLive k b).linkB }
    ∧ (s.goLive k b).knob k = some { b with pickup := .live } ∧ (∀ c, c ≠ k → (s.goLive k b).knob c = s.knob c)
    ∧ ∀ l, (s.goLive k b).link l =
      (s.link l).told ((s.link l).queue.mask.getLsbD 2) (takenNotice s k b (s.param b.part b.index)) := by
  have hpost := sameButLinks_post .controlTaken k (pair b.part b.index) (s.param b.part b.index)
    (s.setKnob k (some { b with pickup := .live }))
  have hlink := State.link_post .controlTaken k (pair b.part b.index) (s.param b.part b.index)
  have hdef : s.goLive k b = (s.setKnob k (some { b with pickup := .live })).post .controlTaken k (pair b.part b.index)
    (s.param b.part b.index) := rfl
  have hknob (c : ControlId) : (s.goLive k b).knob c = (s.setKnob k (some { b with pickup := .live })).knob c := by
    rw [hdef]
    unfold SameButLinks at hpost
    rw [hpost]
    rfl
  refine ⟨?_, (hknob k).trans (State.knob_setKnob_self k _ s), fun c hc => (hknob c).trans (State.knob_setKnob_ne hc _ s),
    fun l => ?_⟩
  · rw [hdef]
    unfold SameButLinks at hpost
    generalize State.post _ _ _ _ _ = t at *
    rw [hpost]
    rfl
  · rw [hdef, hlink]
    cases l <;> rfl

/-- What a take of y leaves that may end in a binding that goes LIVE, from a state s' that stands at s but for the
panel's records and the links. -/
structure TookLive (s s' : State) (k : ControlId) (b : KnobBinding) (y : Nat) (live : Bool) (w : State) : Prop where
  frame : SameButWrites s' w
  written : s.takes b.part b.index y = true → Given.panelWrites s w b.part b.index y
  unwritten : s.takes b.part b.index y = false → w.params = s.params ∧ w.slots = s.slots ∧ Given.sameVoices s w
  others : ∀ c, c ≠ k → w.knob c = (s.knob c).map fun a =>
    if s.takes b.part b.index y then Given.told b.part (Given.only b.index y) (Given.reportedAt s' c) a else a
  own : w.knob k = some (if live then { b with pickup := .live } else
    if s.takes b.part b.index y then Given.told b.part (Given.only b.index y) (Given.reportedAt s' k) b else b)
  link : ∀ l, w.link l =
    let u := (if s.takes b.part b.index y then Given.panelTold s b.part b.index y l else id) (s'.link l)
    u.told (u.queue.mask.getLsbD 2 && (live && b.pickup != .live)) (takenNotice s k b y)

theorem tookLive_takeLive {s s' : State} {k : ControlId} {b : KnobBinding} (h : SameButScan s s') (hb : s.knob k = some b)
    {y : Nat} {live : Bool}
    (hlive : live = true → b.pickup = .live → y = Given.knobPosition b.index (Given.reportedAt s' k)) :
    TookLive s s' k b y live (s'.takeLive k b y live) := by
  obtain ⟨hframe, hwritten, hunwritten, hparam, hknob, hlink⟩ := panelTook_take h b.part b.index y
  have hstamp : s'.timestamp = s.timestamp := by
    unfold SameButScan at h
    rw [h]
  unfold State.takeLive
  generalize s'.take b.part b.index y = w at *
  cases hgoes : live && b.pickup != .live with
  | false =>
    rw [if_neg Bool.false_ne_true]
    refine ⟨hframe, hwritten, hunwritten, fun c _ => hknob c, ?_, fun l => ?_⟩
    · rw [hknob, hb, Option.map_some]
      cases live with
      | false => rfl
      | true =>
        rw [Bool.true_and, bne_eq_false_iff_eq] at hgoes
        rw [if_pos rfl]
        split
        · rw [told_live rfl rfl (hlive rfl hgoes)]
        · rw [← hgoes]
    · dsimp only
      rw [hlink, hgoes, Bool.and_false]
      rfl
  | true =>
    rw [if_pos rfl]
    obtain ⟨hgframe, hown, hothers, hglink⟩ := goLive_effect w k b
    have hwstamp : w.timestamp = s.timestamp := hframe.timestamp.trans hstamp
    generalize w.goLive k b = t at *
    refine ⟨?_, fun hw => ?_, fun hn => ?_, fun c hc => ?_, ?_, fun l => ?_⟩
    · unfold SameButWrites at *
      rw [hgframe, hframe]
    · rw [hgframe]
      exact hwritten hw
    · rw [hgframe]
      exact hunwritten hn
    · rw [hothers c hc, hknob]
    · rw [hown, if_pos (Bool.and_eq_true _ _ ▸ hgoes).1]
    · dsimp only
      rw [hglink, hlink, hparam, hgoes, Bool.and_true, takenNotice, hwstamp]
      rfl

theorem SameButScan.panelWrites {s w t : State} {p : PartId} {i : ParamId} {y : Nat} (h : SameButScan w t)
    (hw : Given.panelWrites s w p i y) : Given.panelWrites s t p i y := by
  unfold SameButScan at h
  rw [h]
  exact hw

/-! ### The whole conversion (R91, R98) -/

/-- The state that a move event hands to the control map. -/
structure Moves (s s' : State) (k : ControlId) (c : Control) (p1 : Nat) (set : Option Bool) : Prop where
  scan : SameButScan s s'
  switches : s'.switches = s.switches
  scanner : s'.scanner = s.scanner
  control : s'.control k = c
  others : ∀ d, d ≠ k → s'.control d = s.control d
  link : ∀ l, s'.link l = Given.noisyTold s k p1 set (s.link l)

theorem moves_tellNoisy (s : State) (k : ControlId) {c : Control} {p1 : Nat} (set : Option Bool) (hc : c.reportedOr0 = p1) :
    Moves s ((s.setControl k c).tellNoisy k set) k c p1 set := by
  have htell := sameButLinks_tellNoisy k set (s.setControl k c)
  have hlink := State.link_tellNoisy k set (s.setControl k c)
  rw [State.control_setControl_self, hc] at hlink
  have hcontrol := htell.control
  generalize (s.setControl k c).tellNoisy k set = s' at *
  refine ⟨?_, ?_, ?_, ?_, fun d hd => ?_, fun l => ?_⟩
  · exact (show SameButScan s (s.setControl k c) from rfl).trans htell.scan
  · unfold SameButLinks at htell
    rw [htell]
    rfl
  · unfold SameButLinks at htell
    rw [htell]
    rfl
  · exact (hcontrol k).trans (State.control_setControl_self k c s)
  · exact (hcontrol d).trans (State.control_setControl_ne hd c s)
  · rw [hlink, State.setControl_link]
    rfl

/-- What a conversion leaves after the control map, whose writes it holds. -/
structure MovedOn (s w t : State) (address : Fin 8) (input : Fin 16) (c : Control) (x : Seeded) (p1 : Nat) : Prop where
  frame : t = { s with
    voices := t.voices, serial := t.serial, deferred := t.deferred, perf := t.perf, glides := t.glides
    run := t.run, measurement := t.measurement, candidate := t.candidate, fsel := t.fsel
    params := t.params, slots := t.slots, controls := t.controls, knobs := t.knobs, scanner := t.scanner
    linkA := t.linkA, linkB := t.linkB }
  round : Given.roundGoesOn s t address input
  control : t.control (controlAt address input) = c
  writes : SameButScan w t
  link : ∀ l, t.link l =
    (w.link l).told ((w.link l).queue.mask.getLsbD 2) (Given.movedNotice s (controlAt address input) x p1)

theorem movedOn_of {s s' w : State} {address : Fin 8} {input : Fin 16} {c : Control} {x : Seeded} {p1 : Nat}
    {set : Option Bool} (h : Moves s s' (controlAt address input) c p1 set) (hw : SameButWrites s' w) :
    MovedOn s w ((w.post .controlMoved (controlAt address input) p1 x.reported).advanceRound address input)
      address input c x p1 := by
  have hpost := sameButLinks_post .controlMoved (controlAt address input) p1 x.reported w
  have hlink := State.link_post .controlMoved (controlAt address input) p1 x.reported
  have hstamp : w.timestamp = s.timestamp := by
    have hscan := h.scan
    unfold SameButScan at hscan
    rw [hw.timestamp, hscan]
  have hlinkw (l : Link) := hlink l w
  generalize w.post .controlMoved (controlAt address input) p1 x.reported = u at *
  have hcontrols : u.controls = s'.controls := by
    unfold SameButLinks at hpost
    unfold SameButWrites at hw
    rw [hpost, hw]
  have hscanner : u.scanner = s'.scanner := by
    unfold SameButLinks at hpost
    unfold SameButWrites at hw
    rw [hpost, hw]
  have hcontrol (d : ControlId) : u.control d = s'.control d := by rw [State.control, State.control, hcontrols]
  refine ⟨?_, roundGoesOn_advanceRound (hscanner.trans h.scanner) fun d hd => (hcontrol d).trans (h.others d hd),
    (hcontrol _).trans h.control, ?_, fun l => ?_⟩
  · have hscan := h.scan
    have hswitches := h.switches
    unfold SameButLinks at hpost
    unfold SameButWrites at hw
    unfold SameButScan at hscan
    rw [hpost, hw, hscan, hswitches]
    rfl
  · unfold SameButLinks at hpost
    rw [hpost]
    rfl
  · rw [State.link_advanceRound, hlinkw, Given.movedNotice, hstamp]
    rfl

/-- Settles O40, from the pickup state of the binding. -/
theorem boundMovesTakeTheParameter : Obligations.BoundMovesTakeTheParameter := by
  unfold Obligations.BoundMovesTakeTheParameter
  intro s address input r x filtered b hfilter hmove k p i p1 v kv entry reference noisy moved taken control unwritten
    stays takes
  obtain ⟨⟨⟨hround, hseed⟩, hfar⟩, hknob⟩ := hmove
  have hexec := exec_controlConversion r hround
  rw [State.conversion_of_far hseed hfilter (lt_distance_iff.mpr hfar)] at hexec
  have hmoves := moves_tellNoisy s k (Given.guarded s (s.control k) x.reported p1).2.2
    (show (Given.movedControl s (s.control k) x filtered).reportedOr0 = p1 from rfl)
  change exec (.controlConversion r) s = .next (State.advanceRound address input (State.post .controlMoved k p1 x.reported
    (State.controlMove k x.reported p1 ((s.setControl k (Given.movedControl s (s.control k) x filtered)).tellNoisy k
      (Given.guarded s (s.control k) x.reported p1).2.2)))) at hexec
  generalize (s.setControl k (Given.movedControl s (s.control k) x filtered)).tellNoisy k
    (Given.guarded s (s.control k) x.reported p1).2.2 = s' at *
  obtain ⟨hscan, -, -, hcontrol, hothers, hlink⟩ := id hmoves
  have hreported : Given.reportedAt s' k = p1 := by
    rw [Given.reportedAt, hcontrol]
    rfl
  have hreportedOf {c : ControlId} (hc : c ≠ k) : Given.reportedAt s' c = Given.reportedAt s c := by
    rw [Given.reportedAt, Given.reportedAt, hothers c hc]
  have hstays (h : s'.controlMove k x.reported p1 = s') : stays := by
    rw [h] at hexec
    obtain ⟨hframe, hgoes, hown, hwrites, htold⟩ := movedOn_of (x := x) hmoves (w := s') rfl
    refine ⟨_, hexec, ⟨hframe, hgoes, hown⟩, ?_, ?_, fun l => ?_⟩
    · have hstate := hscan.trans hwrites
      unfold SameButScan at hstate
      generalize State.advanceRound _ _ _ = t at *
      rw [hstate]
      exact ⟨rfl, rfl, rfl, rfl, rfl, rfl, rfl, rfl, rfl, rfl, rfl⟩
    · have hstate := hscan.trans hwrites
      unfold SameButScan at hstate
      generalize State.advanceRound _ _ _ = t at *
      rw [hstate]
    · rw [htold, hlink]
  have htakes (y : Nat) (live : Bool) (h : s'.controlMove k x.reported p1 = s'.takeLive k b y live)
      (hlive : live = true → b.pickup = .live → y = kv) : takes y live := by
    rw [h] at hexec
    have htook := tookLive_takeLive (s' := s') (y := y) (live := live) hscan hknob
      (fun hl hp => (hlive hl hp).trans (by rw [hreported]))
    generalize s'.takeLive k b y live = w at *
    obtain ⟨hwframe, hwritten, hunwritten, hwothers, hwown, hwlink⟩ := htook
    obtain ⟨hframe, hgoes, hown, hwrites, htold⟩ := movedOn_of (x := x) hmoves (w := w) hwframe
    generalize State.advanceRound address input _ = t at *
    have hknobs (c : ControlId) : t.knob c = w.knob c := by
      unfold SameButScan at hwrites
      rw [hwrites]
      rfl
    refine ⟨t, hexec, ⟨hframe, hgoes, hown⟩, fun hw => hwrites.panelWrites (hwritten hw), fun hn => ?_, fun c hc => ?_,
      ?_, fun l => ?_⟩
    · unfold SameButScan at hwrites
      rw [hwrites]
      exact hunwritten hn
    · rw [hknobs, hwothers c hc, hreportedOf hc]
      rfl
    · rw [hknobs, hwown, hreported]
      rfl
    · rw [htold, hwlink, hlink]
      rfl
  have hreference : s'.catchReference p i = reference := by
    unfold SameButScan at hscan
    rw [hscan]
    exact State.catchReference_eq s p i
  have hmodel := State.controlMove_of_bound (s := s') (k := k) (b := b) (by
    unfold SameButScan at hscan
    rw [hscan]
    exact hknob) x.reported p1
  have hparam : s'.param p i = v := by
    unfold SameButScan at hscan
    rw [hscan]
    rfl
  rw [hparam, hreference] at hmodel
  change match b.pickup with
    | .live => takes kv true
    | .catchUp => if reference ≤ kv then takes kv true else stays
    | .catchDown => if kv ≤ reference then takes kv true else stays
    | .scale => takes (scaleValue i v x.reported p1) (scaleValue i v x.reported p1 == kv)
  cases hpickup : b.pickup with
  | live =>
    simp only [hpickup] at hmodel ⊢
    exact htakes kv true hmodel fun _ _ => rfl
  | catchUp =>
    simp only [hpickup] at hmodel ⊢
    split
    · next hcaught => exact htakes kv true (hmodel.trans (if_pos hcaught)) fun _ _ => rfl
    · next hcaught => exact hstays (hmodel.trans (if_neg hcaught))
  | catchDown =>
    simp only [hpickup] at hmodel ⊢
    split
    · next hcaught => exact htakes kv true (hmodel.trans (if_pos hcaught)) fun _ _ => rfl
    · next hcaught => exact hstays (hmodel.trans (if_neg hcaught))
  | scale =>
    simp only [hpickup] at hmodel ⊢
    exact htakes _ _ hmodel fun _ hlive => by rw [hpickup] at hlive; cases hlive

end Sys2Proof.Machine
end

section
/-! PROOFS. Samples of the switches, and what a switch event does (R86, R95 to R98, R115 to R118). -/

namespace Sys2Proof.Machine

/-! ### Hold flags (R44, R117) -/

/-- The hold flags are the same. -/
def SameHolds (s t : State) : Prop := ∀ p, (t.perfOf p).hold = (s.perfOf p).hold

theorem SameHolds.trans {s t u : State} (h : SameHolds s t) (k : SameHolds t u) : SameHolds s u :=
  fun p => (k p).trans (h p)

theorem SameHolds.foldl {α : Type} {f : State → α → State} (h : ∀ s a, SameHolds s (f s a)) (as : List α) (s : State) :
    SameHolds s (as.foldl f s) := by
  induction as generalizing s with
  | nil => exact fun _ => rfl
  | cons a as ih => exact (h s a).trans (ih _)

theorem sameHolds_setPerf {s : State} {p : PartId} {x : Perf} (h : x.hold = (s.perfOf p).hold) :
    SameHolds s (s.setPerf p x) := fun q => by
  by_cases hq : q = p
  · rw [hq, State.perfOf_setPerf_self, h]
  · rw [State.perfOf_setPerf_ne hq]

theorem sameHolds_release (v : VoiceId) (s : State) : SameHolds s (s.release v) :=
  fun p => congrArg Perf.hold (perfOf_release v s p)

theorem sameHolds_cancelSuccessor (v : VoiceId) (s : State) : SameHolds s (s.cancelSuccessor v) := fun p => by
  rw [perfOf_cancelSuccessor]
  split <;> rfl

theorem sameHolds_followVoice (p : PartId) (e : HeldKey) (s : State) (v : VoiceId) : SameHolds s (s.followVoice p e v) := by
  have hglide (t : State) (k : Key) (h : SameHolds s t) : SameHolds s (t.turnGlide v k) := by
    unfold State.turnGlide
    split <;> exact h
  unfold State.followVoice
  split
  · split <;> exact hglide _ _ fun _ => rfl
  · split <;> exact fun _ => rfl
  · exact fun _ => rfl

theorem sameHolds_reselect (p : PartId) (s : State) : SameHolds s (s.reselect p) := by
  unfold State.reselect
  split
  · split
    · exact fun _ => rfl
    · next e _ _ =>
      exact (sameHolds_setPerf (x := { s.perfOf p with selected := some e.key }) rfl).trans
        (SameHolds.foldl (sameHolds_followVoice p e) _ _)
  · exact fun _ => rfl

theorem sameHolds_dissolve (p : PartId) (s : State) : SameHolds s (s.dissolve p) := by
  refine (SameHolds.foldl (fun s v => ?_) _ s).trans (sameHolds_setPerf rfl)
  split
  · exact sameHolds_release v s
  · split
    · exact sameHolds_cancelSuccessor v s
    · exact fun _ => rfl
  · exact fun _ => rfl

theorem sameHolds_holdOff (p : PartId) (s : State) : SameHolds s (s.holdOff p) := by
  unfold State.holdOff State.keepHeld
  split
  · refine SameHolds.foldl (fun s v => ?_) _ s
    split
    · exact sameHolds_release v s
    · exact fun _ => rfl
  · dsimp only
    split
    · exact fun _ => rfl
    · split
      · exact sameHolds_dissolve p s
      · exact (sameHolds_setPerf (x := { s.perfOf p with
          held := (s.perfOf p).held.filter fun e => !e.sustained }) rfl).trans (sameHolds_reselect p _)

theorem hold_setHold (on : Bool) (p q : PartId) (s : State) :
    ((s.setHold on p).perfOf q).hold = if q = p then on else (s.perfOf q).hold := by
  have hset : ((s.setPerf p { s.perfOf p with hold := on }).perfOf q).hold = if q = p then on else (s.perfOf q).hold := by
    rw [State.perfOf_setPerf_hold]
    split <;> rfl
  unfold State.setHold
  split
  · next h =>
    split
    · next hq => rw [hq, h]
    · rfl
  · dsimp only
    split
    · exact hset
    · exact (sameHolds_holdOff p _ q).trans hset

/-- The step of a toggle of several parts. -/
def State.toggleHold (s : State) (p : PartId) : State := s.setHold (!(s.perfOf p).hold) p

theorem hold_foldl_toggleHold {ps : List PartId} (hps : ps.Nodup) (s : State) (q : PartId) :
    ((ps.foldl State.toggleHold s).perfOf q).hold = ((s.perfOf q).hold != decide (q ∈ ps)) := by
  induction ps generalizing s with
  | nil => simp
  | cons p ps ih =>
    obtain ⟨hp, hps⟩ := List.nodup_cons.mp hps
    rw [List.foldl_cons, ih hps, State.toggleHold, hold_setHold]
    by_cases hq : q = p
    · subst hq
      simp [hp]
    · simp [hq]

theorem hold_toggleHolds (mask : BitVec 4) (s : State) (q : PartId) :
    ((s.toggleHolds mask).perfOf q).hold = ((s.perfOf q).hold != mask.getLsbD q.val) := by
  have hpass := ((givesNothingNew_passZeroWindows ((partsOf mask).foldl State.toggleHold s)).held q).2.1
  change (((partsOf mask).foldl State.toggleHold s).passZeroWindows.perfOf q).hold = _
  rw [hpass, hold_foldl_toggleHold (nodup_partsOf mask)]
  have hmem : decide (q ∈ partsOf mask) = mask.getLsbD q.val := by
    rw [Bool.eq_iff_iff, decide_eq_true_eq, mem_partsOf]
  rw [hmem]

/-- Flags that all stand the other way are set by a toggle. -/
theorem foldl_toggleHold_of_all {ps : List PartId} (hps : ps.Nodup) {on : Bool} {s : State}
    (h : ∀ p ∈ ps, (s.perfOf p).hold = !on) :
    ps.foldl State.toggleHold s = ps.foldl (fun s p => s.setHold on p) s := by
  induction ps generalizing s with
  | nil => rfl
  | cons p ps ih =>
    obtain ⟨hp, hps⟩ := List.nodup_cons.mp hps
    have hstep : s.toggleHold p = s.setHold on p := by rw [State.toggleHold, h p List.mem_cons_self, Bool.not_not]
    rw [List.foldl_cons, List.foldl_cons, hstep]
    refine ih hps fun q hq => ?_
    rw [hold_setHold, if_neg fun hqp : q = p => hp (hqp ▸ hq)]
    exact h q (List.mem_cons_of_mem p hq)

theorem toggleHolds_of_all {mask : BitVec 4} {on : Bool} {s : State}
    (h : ∀ p : PartId, mask.getLsbD p.val = true → (s.perfOf p).hold = !on) : s.toggleHolds mask = s.setHolds on mask :=
  congrArg State.passZeroWindows (foldl_toggleHold_of_all (nodup_partsOf mask) fun p hp => h p (mem_partsOf.mp hp))

theorem sameButNotes_toggleHolds (mask : BitVec 4) (s : State) : SameButNotes s (s.toggleHolds mask) :=
  (SameButVoices.foldl (fun s p => sameButVoices_setHold _ p s) _ s).notes.trans (sameButNotes_passZeroWindows _)

end Sys2Proof.Machine
end

section
/-! PROOFS. The samples at a settled address, and what the one switch that changes does (R86, R95 to R98). -/

namespace Sys2Proof.Machine

/-! ### One sample (R95, R96) -/

theorem sampleSwitch_fst (s : State) (level : Bool) (x : Option SwitchSeed) :
    (sampleSwitch (s.global gDebounceCount) level x).1 = Given.sampled s level x := by
  unfold sampleSwitch Given.sampled
  cases x with
  | none => rfl
  | some x =>
    by_cases h : level = x.closed
    · simp [h]
    · have h' : ¬x.closed = level := fun hx => h hx.symm
      simp only [if_neg h, h', false_or]
      exact apply_ite Prod.fst _ _ _

/-- A sample raises no event. -/
def silentAt (s : State) (level : Bool) (x : Option SwitchSeed) : Prop :=
  (sampleSwitch (s.global gDebounceCount) level x).2 = none

theorem silentAt_of_quiet (s : State) {level : Bool} {x : Option SwitchSeed} (h : ∀ y ∈ x, y.closed = level) :
    silentAt s level x := by
  cases x with
  | none => rfl
  | some x => simp [silentAt, sampleSwitch, h x rfl]

theorem sampled_of_quiet (s : State) {level : Bool} {x : Option SwitchSeed} (h : ∀ y ∈ x, y.closed = level) :
    Given.sampled s level x = { closed := level, candidate := none } := by
  cases x with
  | none => rfl
  | some x => simp [Given.sampled, h x rfl]

/-- The run that a sample of a level that is not the state makes (R96). -/
def SwitchSeed.runAt (level : Bool) (x : SwitchSeed) : Nat :=
  (x.candidate.map fun c => if c.closed = level then c.run + 1 else 1).getD 1

theorem sampleSwitch_of_differs {s : State} {level : Bool} {x : SwitchSeed} (hx : x.closed = !level) :
    sampleSwitch (s.global gDebounceCount) level (some x) =
      if s.global gDebounceCount ≤ x.runAt level then ({ closed := level, candidate := none }, some level)
      else ({ x with candidate := some { closed := level, run := x.runAt level } }, none) := by
  have hne : ¬level = x.closed := by rw [hx]; simp
  cases hcandidate : x.candidate <;>
    simp only [sampleSwitch, SwitchSeed.runAt, if_neg hne, hcandidate, Option.map_none, Option.map_some, Option.getD_none,
      Option.getD_some]

/-! ### The samples of an address (R86) -/

theorem switchAt_inj {address c d : Fin 8} (h : switchAt address c = switchAt address d) : c = d := by
  have := congrArg Fin.val h
  simp only [switchAt] at this
  exact Fin.ext (by omega)

/-- The sample of one column of an address. -/
def State.sampleAt (address : Fin 8) (columns : BitVec 8) (s : State) (c : Fin 8) : State :=
  s.sample (switchAt address c) (columns.getLsbD c.val)

/-- The switch records, bindings, scanner and the globals that a sample reads stay. -/
structure SampleKeeps (s t : State) : Prop where
  scanner : t.scanner = s.scanner
  globals : t.globals = s.globals
  switches : t.switches = s.switches

theorem SampleKeeps.trans {s t u : State} (h : SampleKeeps s t) (k : SampleKeeps t u) : SampleKeeps s u :=
  ⟨k.scanner.trans h.scanner, k.globals.trans h.globals, k.switches.trans h.switches⟩

theorem SameButNotes.sampleKeeps {s t : State} (h : SameButNotes s t) : SampleKeeps s t := by
  unfold SameButNotes at h
  rw [h]
  exact ⟨rfl, rfl, rfl⟩

theorem SameButWrites.sampleKeeps {s t : State} (h : SameButWrites s t) : SampleKeeps s t := by
  unfold SameButWrites at h
  rw [h]
  exact ⟨rfl, rfl, rfl⟩

theorem sampleKeeps_switchAction (a : SwitchAction) (press : Bool) (s : State) : SampleKeeps s (s.switchAction a press) := by
  have hrefl : SampleKeeps s s := ⟨rfl, rfl, rfl⟩
  cases a with
  | none => exact hrefl
  | report => exact hrefl
  | stepParam p i =>
    cases press with
    | false => exact hrefl
    | true => exact (written_writeParam .panel p i _ s).writes.sampleKeeps
  | hold mask kind =>
    cases kind with
    | momentary => exact (sameButNotes_setHolds press mask s).sampleKeeps
    | latched =>
      cases press with
      | false => exact hrefl
      | true => exact (sameButNotes_toggleHolds mask s).sampleKeeps
  | allOff mask =>
    cases press with
    | false => exact hrefl
    | true => exact (sameButNotes_allOff mask s).sampleKeeps

theorem sampleKeeps_post (k : NoticeKind) (a b c : Nat) (s : State) : SampleKeeps s (s.post k a b c) :=
  (sameButNotes_post k a b c s).sampleKeeps

/-- The state with the record that a sample of a switch leaves. -/
def State.withSampled (i : SwitchId) (level : Bool) (s : State) : State :=
  { s with switches := s.switches.set i (some (Given.sampled s level s.switches[i])) }

theorem switches_withSampled_self (i : SwitchId) (level : Bool) (s : State) :
    (s.withSampled i level).switches[i] = some (Given.sampled s level s.switches[i]) := Vector.getElem_set_self _

theorem switches_withSampled_ne {i j : SwitchId} (h : j ≠ i) (level : Bool) (s : State) :
    (s.withSampled i level).switches[j] = s.switches[j] := 
  Vector.getElem_set_ne i.isLt j.isLt fun hv => h (Fin.ext hv.symm)

/-- A sample writes the record of its own switch. -/
theorem sample_switches (i : SwitchId) (level : Bool) (s : State) :
    SampleKeeps (s.withSampled i level) (s.sample i level) := by
  unfold State.withSampled State.sample
  rw [← sampleSwitch_fst]
  dsimp only
  split
  · exact (sampleKeeps_switchAction _ _ _).trans (sampleKeeps_post _ _ _ _ _)
  · exact ⟨rfl, rfl, rfl⟩

/-- A sample that raises no event writes that record and nothing else. -/
theorem sample_of_silent {i : SwitchId} {level : Bool} {s : State} (h : silentAt s level s.switches[i]) :
    s.sample i level = s.withSampled i level := by
  unfold State.withSampled State.sample
  rw [← sampleSwitch_fst]
  unfold silentAt at h
  simp only [h]

/-- A sample that raises an event. -/
theorem sample_of_event {i : SwitchId} {level press : Bool} {s : State}
    (h : (sampleSwitch (s.global gDebounceCount) level s.switches[i]).2 = some press) :
    s.sample i level = (State.switchAction s.switchActions[i] press
      (s.withSampled i level)).post .switchChanged i (bit press)
        s.scanner.roundNumber.toNat := by
  unfold State.withSampled State.sample
  rw [← sampleSwitch_fst]
  simp only [h]

/-- The switch records alone differ. -/
def SameButSwitches (s t : State) : Prop := t = { s with switches := t.switches }

theorem SameButSwitches.trans {s t u : State} (h : SameButSwitches s t) (k : SameButSwitches t u) : SameButSwitches s u := by
  unfold SameButSwitches at *
  rw [k, h]

/-- The state after the samples of some columns of an address, by its switch records. -/
structure SampledAt (address : Fin 8) (columns : BitVec 8) (cs : List (Fin 8)) (s t : State) : Prop where
  scanner : t.scanner = s.scanner
  globals : t.globals = s.globals
  others : ∀ i : SwitchId, (∀ c ∈ cs, i ≠ switchAt address c) → t.switches[i] = s.switches[i]
  own : ∀ c ∈ cs, t.switches[switchAt address c] = some (Given.sampled s (columns.getLsbD c.val) s.switches[switchAt address c])

theorem sampled_of_globals {s t : State} (h : t.globals = s.globals) : Given.sampled t = Given.sampled s := by
  unfold Given.sampled State.global
  rw [h]

section
variable (address : Fin 8) (columns : BitVec 8)

/-- A sample reads its own switch and the globals alone, and writes none of the other switches. -/
theorem sampleAt_keeps (c : Fin 8) (s : State) : (s.sampleAt address columns c).globals = s.globals
    ∧ ∀ {d : Fin 8}, d ≠ c → (s.sampleAt address columns c).switches[switchAt address d] = s.switches[switchAt address d] := by
  obtain ⟨-, hglobals, hswitches⟩ := sample_switches (switchAt address c) (columns.getLsbD c.val) s
  refine ⟨hglobals, fun hd => ?_⟩
  simp only [State.sampleAt, hswitches]
  exact switches_withSampled_ne (fun h => hd (switchAt_inj h)) _ s

variable {address columns} in
theorem silentAt_sampleAt {s : State} {c d : Fin 8} {level : Bool} (hd : d ≠ c)
    (h : silentAt s level s.switches[switchAt address d]) :
    silentAt (s.sampleAt address columns c) level (s.sampleAt address columns c).switches[switchAt address d] := by
  obtain ⟨hglobals, hother⟩ := sampleAt_keeps address columns c s
  unfold silentAt State.global at *
  rw [hglobals, hother hd]
  exact h

theorem sampledAt_foldl {cs : List (Fin 8)} (hcs : cs.Nodup) (s : State) :
    SampledAt address columns cs s (cs.foldl (State.sampleAt address columns) s) := by
  induction cs generalizing s with
  | nil => exact ⟨rfl, rfl, fun _ _ => rfl, fun _ h => absurd h List.not_mem_nil⟩
  | cons c cs ih =>
    obtain ⟨hc, hcs⟩ := List.nodup_cons.mp hcs
    obtain ⟨kscanner, kglobals, kswitches⟩ := sample_switches (switchAt address c) (columns.getLsbD c.val) s
    change (s.sampleAt address columns c).scanner = s.scanner at kscanner
    change (s.sampleAt address columns c).globals = s.globals at kglobals
    change (s.sampleAt address columns c).switches = _ at kswitches
    obtain ⟨hscanner, hglobals, hothers, hown⟩ := ih hcs (s.sampleAt address columns c)
    rw [List.foldl_cons]
    generalize s.sampleAt address columns c = u at *
    generalize cs.foldl (State.sampleAt address columns) u = t at *
    have hswitch (i : SwitchId) (hi : i ≠ switchAt address c) : u.switches[i] = s.switches[i] := by
      simp only [kswitches]
      exact switches_withSampled_ne hi _ s
    refine ⟨hscanner.trans kscanner, hglobals.trans kglobals, fun i hi => ?_, fun d hd => ?_⟩
    · rw [hothers i fun d hd => hi d (List.mem_cons_of_mem c hd), hswitch i (hi c List.mem_cons_self)]
    · rcases List.mem_cons.mp hd with rfl | hd
      · rw [hothers _ fun e he hsame => hc (by rw [switchAt_inj hsame]; exact he)]
        simp only [kswitches]
        exact switches_withSampled_self _ _ s
      · rw [hown d hd, sampled_of_globals kglobals, hswitch _ fun hsame => hc (by rw [← switchAt_inj hsame]; exact hd)]

/-- Samples that raise no event write their switch records alone. -/
theorem foldl_sampleAt_of_silent {cs : List (Fin 8)} (hcs : cs.Nodup) {s : State}
    (h : ∀ c ∈ cs, silentAt s (columns.getLsbD c.val) s.switches[switchAt address c]) :
    SameButSwitches s (cs.foldl (State.sampleAt address columns) s) := by
  induction cs generalizing s with
  | nil => rfl
  | cons c cs ih =>
    obtain ⟨hc, hcs⟩ := List.nodup_cons.mp hcs
    have hstep : s.sampleAt address columns c = _ := sample_of_silent (h c List.mem_cons_self)
    refine SameButSwitches.trans (t := s.sampleAt address columns c) (by rw [hstep]; rfl) (ih hcs fun d hd => ?_)
    exact silentAt_sampleAt (ne_of_mem_of_not_mem hd hc) (h d (List.mem_cons_of_mem c hd))

/-- Samples of which one raises an event: the event acts amid the records of the samples before it. -/
theorem foldl_sampleAt_of_event {cs : List (Fin 8)} (hcs : cs.Nodup) {s : State} {c : Fin 8} (hc : c ∈ cs) {press : Bool}
    (hothers : ∀ d ∈ cs, d ≠ c → silentAt s (columns.getLsbD d.val) s.switches[switchAt address d])
    (hevent : (sampleSwitch (s.global gDebounceCount) (columns.getLsbD c.val) s.switches[switchAt address c]).2 = some press) :
    ∃ x, SameButSwitches s x ∧ SameButSwitches
      ((x.switchAction s.switchActions[switchAt address c] press).post .switchChanged (switchAt address c) (bit press)
        s.scanner.roundNumber.toNat) (cs.foldl (State.sampleAt address columns) s) := by
  induction cs generalizing s with
  | nil => exact absurd hc List.not_mem_nil
  | cons d cs ih =>
    obtain ⟨hd, hcs⟩ := List.nodup_cons.mp hcs
    rw [List.foldl_cons]
    by_cases hdc : d = c
    · subst hdc
      have hstep : s.sampleAt address columns d = _ := sample_of_event hevent
      refine ⟨s.withSampled (switchAt address d) (columns.getLsbD d.val), rfl, ?_⟩
      rw [← hstep]
      refine foldl_sampleAt_of_silent address columns hcs fun e he => ?_
      have hne := ne_of_mem_of_not_mem he hd
      exact silentAt_sampleAt hne (hothers e (List.mem_cons_of_mem d he) hne)
    · have hsilent := hothers d List.mem_cons_self hdc
      have hstep : s.sampleAt address columns d = _ := sample_of_silent hsilent
      have hc : c ∈ cs := (List.mem_cons.mp hc).resolve_left fun h => hdc h.symm
      have hsame : SameButSwitches s (s.sampleAt address columns d) := by rw [hstep]; rfl
      obtain ⟨hglobals, hother⟩ := sampleAt_keeps address columns d s
      obtain ⟨x, hx, hfold⟩ := ih hcs hc (s := s.sampleAt address columns d)
        (fun e he hne => silentAt_sampleAt (ne_of_mem_of_not_mem he hd) (hothers e (List.mem_cons_of_mem d he) hne))
        (by rw [State.global, hglobals, hother (ne_of_mem_of_not_mem hc hd)]; exact hevent)
      refine ⟨x, hsame.trans hx, ?_⟩
      rw [hstep] at hfold ⊢
      exact hfold

end

/-- The scanner after the samples of an address: conversions begin with input 0. -/
def State.converting (s : State) (address : Fin 8) : Scanner :=
  { s.scanner with round := some { address, phase := .converting 0 } }

/-- The state after a settled address, by the state after its samples. -/
structure Settles (s w t : State) (address : Fin 8) (columns : BitVec 8) : Prop where
  scan : t = { w with scanner := s.converting address }
  scanner : t.scanner = s.converting address
  others : ∀ i : SwitchId, (∀ c, i ≠ switchAt address c) → t.switches[i] = s.switches[i]
  own : ∀ c, t.switches[switchAt address c] = some (Given.sampled s (columns.getLsbD c.val) s.switches[switchAt address c])

theorem exec_scanAddressSettled {s : State} {address : Fin 8} (columns : BitVec 8)
    (h : s.scanner.round = some { address, phase := .settling }) : ∃ t, exec (.scanAddressSettled columns) s = .next t
      ∧ Settles s ((List.finRange 8).foldl (State.sampleAt address columns) s) t address columns := by
  have hstep : State.sampleAt address columns = fun s c => s.sample (switchAt address c) (columns.getLsbD c.val) := rfl
  have hexec : exec (.scanAddressSettled columns) s = execScanAddressSettled columns s := rfl
  simp only [execScanAddressSettled, h, ← hstep] at hexec
  obtain ⟨hscanner, hglobals, hothers, hown⟩ := sampledAt_foldl address columns (List.nodup_finRange 8) s
  generalize (List.finRange 8).foldl (State.sampleAt address columns) s = w at *
  refine ⟨_, hexec, ?_, ?_, fun i hi => hothers i fun c _ => hi c, fun c => hown c (List.mem_finRange c)⟩
  · rw [hscanner]
    rfl
  · rw [hscanner]
    rfl

/-! ### The event of one switch (R96 to R98) -/

/-- SWITCH_CHANGED (R98). -/
def switchNotice (s : State) (i : SwitchId) (press : Bool) : Notice :=
  { kind := .switchChanged, subject := i, value1 := bit press, value2 := s.scanner.roundNumber.toNat, stamp := s.timestamp }

/-- The switch records, the scanner and the links alone differ. -/
def SameButSampled (s t : State) : Prop :=
  t = { s with switches := t.switches, scanner := t.scanner, linkA := t.linkA, linkB := t.linkB }

theorem SameButSampled.scan {s t : State} (h : SameButSampled s t) : SameButScan s t := by
  unfold SameButSampled at h
  unfold SameButScan
  rw [h]

/-- What the event of one switch leaves, by the state y that its binding left. -/
structure Switched (s y t : State) (i : SwitchId) (press : Bool) : Prop where
  frame : SameButSampled y t
  link : y.timestamp = s.timestamp → ∀ l, t.link l = (y.link l).told ((y.link l).queue.mask.getLsbD 2) (switchNotice s i press)

section
variable {s : State} {address c : Fin 8} {columns : BitVec 8} {x : SwitchSeed} {run : Nat}

theorem silentAt_others (h : Given.bouncing s address columns c x run) (d : Fin 8) (hd : d ≠ c) :
    silentAt s (columns.getLsbD d.val) s.switches[switchAt address d] := by
  obtain ⟨-, -, -, hothers, -⟩ := h
  exact silentAt_of_quiet s (hothers d hd)

theorem sampled_others (h : Given.bouncing s address columns c x run) (d : Fin 8) (hd : d ≠ c) :
    Given.sampled s (columns.getLsbD d.val) s.switches[switchAt address d] =
      { closed := columns.getLsbD d.val, candidate := none } := by
  obtain ⟨-, -, -, hothers, -⟩ := h
  exact sampled_of_quiet s (hothers d hd)

theorem sample_of_bouncing (h : Given.bouncing s address columns c x run) :
    sampleSwitch (s.global gDebounceCount) (columns.getLsbD c.val) s.switches[switchAt address c] =
      if s.global gDebounceCount ≤ run then ({ closed := columns.getLsbD c.val, candidate := none }, some (columns.getLsbD c.val))
      else ({ x with candidate := some { closed := columns.getLsbD c.val, run } }, none) := by
  obtain ⟨-, hx, hclosed, -, hrun⟩ := h
  have hrunAt : run = x.runAt (columns.getLsbD c.val) := by
    rw [hrun, SwitchSeed.runAt, hclosed]
    cases x.candidate <;> simp
  rw [hx, hrunAt]
  exact sampleSwitch_of_differs hclosed

/-- The switch at column c raises the event, and its binding acts amid the switch records of the samples. -/
theorem exec_switching (h : Given.switching s address columns c x run) : ∃ w t, SameButSwitches s w
    ∧ exec (.scanAddressSettled columns) s = .next t
    ∧ t.scanner = s.converting address ∧ (∀ i : SwitchId, (∀ c, i ≠ switchAt address c) → t.switches[i] = s.switches[i])
    ∧ t.switches[switchAt address c] = some { closed := columns.getLsbD c.val, candidate := none }
    ∧ (∀ d, d ≠ c → t.switches[switchAt address d] = some { closed := columns.getLsbD d.val, candidate := none })
    ∧ Switched s (w.switchAction s.switchActions[switchAt address c] (columns.getLsbD c.val)) t (switchAt address c)
        (columns.getLsbD c.val) := by
  obtain ⟨hbounce, hreached⟩ := h
  have hsample := sample_of_bouncing hbounce
  rw [if_pos hreached] at hsample
  obtain ⟨t, hexec, hscan, hscanner, hothers, hown⟩ := exec_scanAddressSettled columns hbounce.1
  obtain ⟨w, hw, hfold⟩ := foldl_sampleAt_of_event address columns (List.nodup_finRange 8) (s := s) (List.mem_finRange c)
    (fun d _ => silentAt_others hbounce d) (congrArg Prod.snd hsample)
  refine ⟨w, t, hw, hexec, hscanner, hothers, ?_, fun d hd => ?_, ?_⟩
  · rw [hown, ← sampleSwitch_fst, hsample]
  · rw [hown, sampled_others hbounce d hd]
  · generalize (List.finRange 8).foldl (State.sampleAt address columns) s = v at *
    generalize w.switchAction s.switchActions[switchAt address c] (columns.getLsbD c.val) = y at *
    have hpost := sameButLinks_post .switchChanged (switchAt address c) (bit (columns.getLsbD c.val))
      s.scanner.roundNumber.toNat y
    have hlink := State.link_post .switchChanged (switchAt address c) (bit (columns.getLsbD c.val))
      s.scanner.roundNumber.toNat
    have hlinky (l : Link) := hlink l y
    generalize State.post .switchChanged (switchAt address c) (bit (columns.getLsbD c.val)) s.scanner.roundNumber.toNat y = z at *
    have htz (l : Link) : t.link l = z.link l := by
      unfold SameButSwitches at hfold
      rw [hscan, hfold]
      rfl
    refine ⟨?_, fun hstamp l => ?_⟩
    · unfold SameButSwitches at hfold
      unfold SameButLinks at hpost
      unfold SameButSampled
      rw [hscan, hfold, hpost]
    · rw [htz, hlinky, hstamp, State.subscribed]
      rfl

end

/-- An event that works on the voices does what a request of the same work does, and its links hear SWITCH_CHANGED. -/
theorem Switched.acts {f : State → State} (hf : Local f) (hstays : ∀ s, SameButNotes s (f s)) {s w t : State}
    {i : SwitchId} {press : Bool} (hw : SameButSwitches s w) (h : Switched s (f w) t i press) {scanner : Scanner}
    (hscanner : t.scanner = scanner) {r : Request} (hr : r ≠ .resetDevice) {l : Link} {payload : List Byte}
    (hwork : ∀ s, (r.service l payload s).1 = f s) (hready : s.ready l) :
    ∃ u, exec (commandOf l payload r) s = .next u
      ∧ t = { u with switches := t.switches, scanner, linkA := t.linkA, linkB := t.linkB }
      ∧ ∀ k, t.link k = (s.link k).told ((s.link k).queue.mask.getLsbD 2) (switchNotice s i press) := by
  obtain ⟨hscan, hlink⟩ := h
  have hwithin : w = s.within w := by
    unfold SameButSwitches at hw
    rw [hw]
    rfl
  have hfw : f w = (f s).within w := (congrArg f hwithin).trans (hf w s)
  have hframed : f (s.framed l payload) = (f s).within (s.framed l payload) := by
    rw [← hf, framed_within]
  have hexec := exec_request_of_running hready hr payload
  rw [hwork, hframed] at hexec
  have hwl (k : Link) : (f w).link k = s.link k := by
    rw [hfw]
    unfold SameButSwitches at hw
    rw [hw]
    cases k <;> rfl
  have hstamp : (f w).timestamp = s.timestamp := by
    rw [(hstays w).timestamp]
    unfold SameButSwitches at hw
    rw [hw]
  refine ⟨_, hexec, ?_, fun k => ?_⟩
  · rw [hfw] at hscan
    generalize f s = v at *
    unfold SameButSampled at hscan
    unfold SameButSwitches at hw
    rw [← hscanner, hscan, hw]
    cases l <;> rfl
  · rw [hlink hstamp, hwl]

section
variable {s w t : State} {i : SwitchId} {press : Bool} {scanner : Scanner} {mask : BitVec 4} {l : Link}

theorem Switched.holds {on : Bool} (hw : SameButSwitches s w) (h : Switched s (w.setHolds on mask) t i press)
    (hscanner : t.scanner = scanner) (hmask : mask ≠ 0) (hready : s.ready l) :
    ∃ u, exec (.hold l [byte mask.toNat, byte (bit on)]) s = .next u
      ∧ t = { u with switches := t.switches, scanner, linkA := t.linkA, linkB := t.linkB }
      ∧ ∀ k, t.link k = (s.link k).told ((s.link k).queue.mask.getLsbD 2) (switchNotice s i press) :=
  h.acts (local_setHolds on mask) (sameButNotes_setHolds on mask) hw hscanner (r := .hold) (by decide)
    (fun s => by simp only [Request.service, holdService_byte l (partMask?_byte hmask) (flag?_byte on)]) hready

theorem Switched.silences (hw : SameButSwitches s w) (h : Switched s (w.allOff mask) t i press)
    (hscanner : t.scanner = scanner) (hmask : mask ≠ 0) (hready : s.ready l) :
    ∃ u, exec (.allOff l [byte mask.toNat]) s = .next u
      ∧ t = { u with switches := t.switches, scanner, linkA := t.linkA, linkB := t.linkB }
      ∧ ∀ k, t.link k = (s.link k).told ((s.link k).queue.mask.getLsbD 2) (switchNotice s i press) :=
  h.acts (local_allOff mask) (sameButNotes_allOff mask) hw hscanner (r := .allOff) (by decide)
    (fun s => by simp only [Request.service, allOffService, partMask?_byte hmask]) hready

end

theorem switchAction_of_rests {a : SwitchAction} {press : Bool} (h : Given.restsAt a press) (s : State) :
    s.switchAction a press = s := by
  unfold Given.restsAt at h
  cases a with
  | none => rfl
  | report => rfl
  | stepParam p i => rw [show press = false from h]; rfl
  | hold mask kind =>
    cases kind with
    | momentary => exact absurd h id
    | latched => rw [show press = false from h]; rfl
  | allOff mask => rw [show press = false from h]; rfl

/-- What the event of one switch leaves whose binding does nothing. -/
theorem Switched.rests {s w t : State} {i : SwitchId} {press : Bool} (hw : SameButSwitches s w)
    (h : Switched s w t i press) {scanner : Scanner} (hscanner : t.scanner = scanner) :
    t = { s with switches := t.switches, scanner, linkA := t.linkA, linkB := t.linkB }
      ∧ ∀ l, t.link l = (s.link l).told ((s.link l).queue.mask.getLsbD 2) (switchNotice s i press) := by
  obtain ⟨hscan, hlink⟩ := h
  unfold SameButSwitches at hw
  refine ⟨?_, fun l => ?_⟩
  · unfold SameButSampled at hscan
    rw [← hscanner, hscan, hw]
  · rw [hlink (by rw [hw]), hw]
    cases l <;> rfl

/-- What the event of one switch leaves whose binding writes y (R116). -/
theorem Switched.steps {s w t : State} {i : SwitchId} {press : Bool} {p : PartId} {j : ParamId} {y : Nat}
    (hw : SameButSwitches s w) (h : Switched s (w.writeParam .panel p j y) t i press) {scanner : Scanner}
    (hscanner : t.scanner = scanner) :
    t = { s with
      voices := t.voices, serial := t.serial, deferred := t.deferred, perf := t.perf, glides := t.glides
      run := t.run, measurement := t.measurement, candidate := t.candidate, fsel := t.fsel
      params := t.params, slots := t.slots, knobs := t.knobs, switches := t.switches, scanner
      linkA := t.linkA, linkB := t.linkB }
    ∧ Given.panelWrites s t p j y
    ∧ (∀ k, t.knob k = (s.knob k).map (Given.told p (Given.only j y) (Given.reportedAt s k)))
    ∧ ∀ l, t.link l = (Given.panelTold s p j y l (s.link l)).told
        ((Given.panelTold s p j y l (s.link l)).queue.mask.getLsbD 2) (switchNotice s i press) := by
  have hsame : SameButScan s w := by
    unfold SameButSwitches at hw
    unfold SameButScan
    rw [hw]
  obtain ⟨hframe, hwrites, hknob, hlink⟩ := panelWritten_writeParam hsame p j y
  obtain ⟨hsampled, htold⟩ := h
  have hreported (k : ControlId) : Given.reportedAt w k = Given.reportedAt s k := by
    unfold SameButSwitches at hw
    rw [hw]
    rfl
  have hwlink (l : Link) : w.link l = s.link l := by
    unfold SameButSwitches at hw
    rw [hw]
    cases l <;> rfl
  have hstamp : (w.writeParam .panel p j y).timestamp = s.timestamp := by
    rw [hframe.timestamp]
    unfold SameButSwitches at hw
    rw [hw]
  generalize w.writeParam .panel p j y = v at *
  refine ⟨?_, hsampled.scan.panelWrites hwrites, fun k => ?_, fun l => ?_⟩
  · unfold SameButSampled at hsampled
    unfold SameButWrites at hframe
    unfold SameButSwitches at hw
    rw [← hscanner, hsampled, hframe, hw]
  · have htv : t.knob k = v.knob k := by
      unfold SameButSampled at hsampled
      rw [hsampled]
      rfl
    rw [htv, hknob, hreported]
  · rw [htold hstamp, hlink, hwlink]

/-- Settles O38: the records of all eight switches, the samples without an event, and the event of one switch by its
binding. -/
theorem settledAddressSamplesSwitches : Obligations.SettledAddressSamplesSwitches := by
  unfold Obligations.SettledAddressSamplesSwitches
  intro s address columns
  dsimp only
  refine ⟨fun h => ?_, fun h => ?_, fun c x run => ⟨fun h hrun => ?_, fun h => ?_⟩⟩
  · obtain ⟨t, hexec, -, hscanner, hothers, hown⟩ := exec_scanAddressSettled columns h
    exact ⟨t, hexec, ⟨hscanner, hothers⟩, hown⟩
  · obtain ⟨hround, hquiet⟩ := h
    obtain ⟨t, hexec, hscan, hscanner, hothers, hown⟩ := exec_scanAddressSettled columns hround
    have hfold := foldl_sampleAt_of_silent address columns (List.nodup_finRange 8) (s := s)
      fun c _ => silentAt_of_quiet s (hquiet c)
    generalize (List.finRange 8).foldl (State.sampleAt address columns) s = w at *
    refine ⟨t, hexec, ?_, ⟨hscanner, hothers⟩, fun c => ?_⟩
    · unfold SameButSwitches at hfold
      rw [hscan, hfold]
      rfl
    · rw [hown, sampled_of_quiet s (hquiet c)]
  · have hsample := sample_of_bouncing h
    rw [if_neg (Nat.not_le.mpr hrun)] at hsample
    obtain ⟨t, hexec, hscan, hscanner, hothers, hown⟩ := exec_scanAddressSettled columns h.1
    have hfold := foldl_sampleAt_of_silent address columns (List.nodup_finRange 8) (s := s) fun d _ => by
      by_cases hd : d = c
      · rw [hd]
        exact congrArg Prod.snd hsample
      · exact silentAt_others h d hd
    generalize (List.finRange 8).foldl (State.sampleAt address columns) s = w at *
    refine ⟨t, hexec, ?_, ⟨hscanner, hothers⟩, ?_, fun d hd => ?_⟩
    · unfold SameButSwitches at hfold
      rw [hscan, hfold]
      rfl
    · rw [hown, ← sampleSwitch_fst, hsample]
    · rw [hown, sampled_others h d hd]
  · obtain ⟨w, t, hw, hexec, hscanner, hothers, hown, hquiet, hswitched⟩ := exec_switching h
    refine ⟨t, hexec, ⟨⟨hscanner, hothers⟩, hown, hquiet⟩, fun hrests => ?_, fun p j haction hpress => ?_,
      fun mask haction hmask l hready => ?_, fun mask haction hpress => ⟨fun p => ?_, fun on hmask hall l hready => ?_⟩,
      fun mask haction hpress hmask l hready => ?_⟩
    · rw [switchAction_of_rests hrests] at hswitched
      exact hswitched.rests hw hscanner
    · have haction' : w.switchAction s.switchActions[switchAt address c] (columns.getLsbD c.val) =
          w.writeParam .panel p j (stepValue j (s.param p j)) := by
        unfold SameButSwitches at hw
        rw [haction, hpress, hw]
        rfl
      rw [haction'] at hswitched
      exact hswitched.steps hw hscanner
    · rw [haction] at hswitched
      exact Switched.holds hw hswitched hscanner hmask hready
    · rw [haction, hpress] at hswitched
      obtain ⟨hframe, -⟩ := hswitched
      have hhold := hold_toggleHolds mask w p
      change SameButSampled (w.toggleHolds mask) t at hframe
      generalize w.toggleHolds mask = v at *
      unfold SameButSampled at hframe
      unfold SameButSwitches at hw
      rw [hframe]
      refine hhold.trans ?_
      rw [hw]
      rfl
    · have htoggle : w.toggleHolds mask = w.setHolds on mask := toggleHolds_of_all fun p hp => by
        unfold SameButSwitches at hw
        rw [hw]
        exact hall p hp
      rw [haction, hpress] at hswitched
      change Switched s (w.toggleHolds mask) t _ true at hswitched
      rw [htoggle] at hswitched
      rw [hpress]
      exact Switched.holds hw hswitched hscanner hmask hready
    · rw [haction, hpress] at hswitched
      rw [hpress]
      exact Switched.silences hw hswitched hscanner hmask hready

end Sys2Proof.Machine
end

section
/-! PROOFS. A reconcile that clears its part, whatever else it does to the part's voices (R61 to R64). -/

namespace Sys2Proof.Machine

/-! ### What clearing a part makes of its records (R25) -/

/-- A record after its part was cleared: the notes that waited are counted cancelled, and the successors leave the
binding order. -/
def Perf.clearedBy (count : Nat) (waits : VoiceId → Bool) (x : Perf) : Perf :=
  { x with
    held := [], selected := none, monoSet := [], wanted := none
    counters := { x.counters with cancelled := min 65535 (x.counters.cancelled + count) }
    bound := x.bound.filter fun v => !waits v }

/-- The record that clearing part p leaves. -/
def State.clearedPerf (s : State) (p : PartId) : Perf :=
  (s.perfOf p).clearedBy (s.deferredOf p + s.noteSuccessorsOf p) fun v => (s.voice v).successorOf p

/-- The voice that clearing part p leaves. -/
def State.clearedVoice (s : State) (p : PartId) (v : VoiceId) : Voice :=
  (s.voice v).cleared (· == p) s.timestamp fun q => s.param q pReleaseWindow

theorem partCleared_iff {s t : State} {p : PartId} : Given.partCleared s t p ↔
    t.serial = s.serial ∧ t.glides = s.glides ∧ t.deferred = (s.deferred.filter fun d => !(d.part == p))
    ∧ (∀ v, t.voice v = s.clearedVoice p v) ∧ t.perfOf p = s.clearedPerf p ∧ ∀ q, q ≠ p → t.perfOf q = s.perfOf q := by
  have hself : (s.perfOf p).clearedBy (s.deferredOf p + s.noteSuccessorsOf p) (fun v => (s.voice v).successorOf p) =
      { s.perfOf p with
        held := [], selected := none, monoSet := [], wanted := none
        counters := { (s.perfOf p).counters with
          cancelled := min 65535 ((s.perfOf p).counters.cancelled + s.deferredOf p + s.noteSuccessorsOf p) }
        bound := (s.perfOf p).bound.filter fun v => !(s.voice v).successorOf p } := by
    rw [Perf.clearedBy, Nat.add_assoc]
  refine and_congr_right fun _ => and_congr_right fun _ => and_congr_right fun _ => and_congr Iff.rfl ?_
  constructor
  · intro h
    refine ⟨(h p).trans ?_, fun q hq => (h q).trans ?_⟩
    · rw [State.clearedPerf, hself]
      simp
    · simp [hq]
  · rintro ⟨hp, hne⟩ q
    by_cases hq : q = p
    · subst hq
      rw [hp, State.clearedPerf, hself]
      simp
    · rw [hne q hq]
      simp [hq]

/-- Clearing part p makes the same of two states. -/
structure ClearsLike (p : PartId) (s u : State) : Prop where
  serial : u.serial = s.serial
  glides : u.glides = s.glides
  timestamp : u.timestamp = s.timestamp
  params : u.params = s.params
  deferred : (u.deferred.filter fun d => !(d.part == p)) = s.deferred.filter fun d => !(d.part == p)
  voice : ∀ v, u.clearedVoice p v = s.clearedVoice p v
  own : u.clearedPerf p = s.clearedPerf p
  others : ∀ q, q ≠ p → u.perfOf q = s.perfOf q

theorem ClearsLike.refl (p : PartId) (s : State) : ClearsLike p s s :=
  ⟨rfl, rfl, rfl, rfl, rfl, fun _ => rfl, rfl, fun _ _ => rfl⟩

theorem ClearsLike.trans {p : PartId} {s u w : State} (h : ClearsLike p s u) (k : ClearsLike p u w) : ClearsLike p s w where
  serial := k.serial.trans h.serial
  glides := k.glides.trans h.glides
  timestamp := k.timestamp.trans h.timestamp
  params := k.params.trans h.params
  deferred := k.deferred.trans h.deferred
  voice v := (k.voice v).trans (h.voice v)
  own := k.own.trans h.own
  others q hq := (k.others q hq).trans (h.others q hq)

theorem ClearsLike.cleared {p : PartId} {s u t : State} (h : ClearsLike p s u) (k : Given.partCleared u t p) :
    Given.partCleared s t p := by
  obtain ⟨hserial, hglides, hdeferred, hvoice, hown, hothers⟩ := partCleared_iff.mp k
  exact partCleared_iff.mpr ⟨hserial.trans h.serial, hglides.trans h.glides, hdeferred.trans h.deferred,
    fun v => (hvoice v).trans (h.voice v), hown.trans h.own, fun q hq => (hothers q hq).trans (h.others q hq)⟩

/-! ### A voice taken from its note before (R62, R63) -/

theorem cleared_ended {p : PartId} {x : Voice} (h : x.countsFor p = true) (start : Stamp) (window : PartId → Nat) :
    (x.ended start (window p)).cleared (· == p) start window = x.cleared (· == p) start window := by
  rcases countsFor_iff.mp h with h | h
  · obtain ⟨hgated, hpart⟩ := gatedFor_iff.mp h
    cases hphase : x.phase with
    | gated n sus pulse => simp [Voice.ended, Voice.cleared, hphase, hpart]
    | _ => rw [hphase] at hgated; exact absurd hgated Bool.false_ne_true
  · obtain ⟨n, su, dp, timer, hphase, hpart⟩ := phase_of_successorOf h
    simp [Voice.ended, Voice.cleared, hphase, hpart]

theorem successor_ended (start : Stamp) (window : Nat) (x : Voice) (h : x.phase.isGated = true ∨ ∃ p, x.successorOf p = true) :
    (x.ended start window).phase.successor? = none := by
  rcases h with h | ⟨p, h⟩
  · cases hphase : x.phase with
    | gated n sus pulse => rw [Voice.ended, hphase]; rfl
    | _ => rw [hphase] at h; exact absurd h Bool.false_ne_true
  · obtain ⟨n, su, dp, timer, hphase, -⟩ := phase_of_successorOf h
    rw [Voice.ended, hphase]
    rfl

theorem clearedBy_leftSet (count : Nat) (waits : VoiceId → Bool) (out : VoiceId → Bool) (x : Perf) :
    (Given.leftSet x out).clearedBy count waits = x.clearedBy count waits := by
  unfold Given.leftSet
  dsimp only
  split <;> rfl

theorem clearedBy_cancelledOn {count : Nat} {note : Bool} {f g : VoiceId → Bool} {v : VoiceId} (hv : g v = true)
    (hne : ∀ w, w ≠ v → f w = g w) (x : Perf) :
    (x.cancelledOn v note).clearedBy count f = x.clearedBy (count + if note then 1 else 0) g := by
  unfold Perf.clearedBy Perf.cancelledOn
  have hbound : ((x.bound.filter (· != v)).filter fun w => !f w) = x.bound.filter fun w => !g w := by
    rw [List.filter_filter]
    refine List.filter_congr fun w _ => ?_
    by_cases hw : w = v
    · subst hw
      simp [hv]
    · simp [hw, hne w hw]
  rw [hbound]
  cases note with
  | false => rfl
  | true =>
    have hcount : min 65535 (min 65535 (x.counters.cancelled + 1) + count) =
        min 65535 (x.counters.cancelled + (count + 1)) := by omega
    simp only [if_true, hcount]

theorem noteSuccessorsOf_congr {s t : State} (h : ∀ v, t.voice v = s.voice v) (p : PartId) :
    t.noteSuccessorsOf p = s.noteSuccessorsOf p := by
  unfold State.noteSuccessorsOf
  simp only [h]

/-- A voice taken from its note leaves one note fewer to wait for, where it was one. -/
theorem noteSuccessorsOf_endFor {p : PartId} {s : State} {v : VoiceId} (h : (s.voice v).countsFor p = true) :
    s.noteSuccessorsOf p = (s.endFor p v).noteSuccessorsOf p + if (s.voice v).noteSuccessorOf p then 1 else 0 := by
  have hself := voice_endFor_self p s v
  rw [if_pos h] at hself
  have hnone := successor_ended s.timestamp (s.param p pReleaseWindow) (s.voice v)
    ((countsFor_iff.mp h).imp (fun hg => (gatedFor_iff.mp hg).1) fun hs => ⟨p, hs⟩)
  have hset := State.noteSuccessorsOf_setVoice v ((s.voice v).ended s.timestamp (s.param p pReleaseWindow)) s p
  rw [Voice.waits_of_successor_none hnone] at hset
  rw [noteSuccessorsOf_congr (t := s.endFor p v)
    (s := s.setVoice v ((s.voice v).ended s.timestamp (s.param p pReleaseWindow))) (fun w => ?_)]
  · exact hset.symm
  · by_cases hw : w = v
    · subst hw
      rw [hself, State.voice_setVoice_self]
    · rw [voice_endFor_ne hw, State.voice_setVoice_ne hw]

theorem State.endFor_of_not {p : PartId} {s : State} {v : VoiceId} (h : (s.voice v).countsFor p = false) : s.endFor p v = s := by
  have hnot : ¬((s.voice v).gatedFor p = true ∨ (s.voice v).successorOf p = true) := fun hc =>
    absurd (countsFor_iff.mpr hc) (by rw [h]; exact Bool.false_ne_true)
  rw [State.endFor, if_neg fun hg => hnot (.inl hg), if_neg fun hs => hnot (.inr hs)]

theorem noteSuccessorOf_of_gated {p : PartId} {x : Voice} (h : x.gatedFor p = true) (q : PartId) : x.noteSuccessorOf q = false :=
  noteSuccessorOf_of_none (successor_of_gated (gatedFor_iff.mp h).1) q

/-- The part's own records while its voices are taken from their notes. -/
theorem clearedPerf_endFor {p : PartId} {s : State} {v : VoiceId} (h : (s.voice v).countsFor p = true) :
    (s.endFor p v).clearedPerf p = s.clearedPerf p := by
  have hnotes := noteSuccessorsOf_endFor h
  have hdeferred : (s.endFor p v).deferredOf p = s.deferredOf p := by
    rw [State.deferredOf, State.deferredOf, (endedFor_endFor p s v).frame.deferred]
  have hself := voice_endFor_self p s v
  rw [if_pos h] at hself
  have hsu : ((s.endFor p v).voice v).successorOf p = false := by
    rw [hself]
    exact successorOf_of_none (successor_ended _ _ _ ((countsFor_iff.mp h).imp
      (fun hg => (gatedFor_iff.mp hg).1) fun hs => ⟨p, hs⟩)) p
  have hother (w : VoiceId) (hw : w ≠ v) : ((s.endFor p v).voice w).successorOf p = (s.voice w).successorOf p := by
    rw [voice_endFor_ne hw]
  unfold State.clearedPerf
  rw [hdeferred]
  rcases countsFor_iff.mp h with hgated | hsuccessor
  · rw [noteSuccessorOf_of_gated hgated, if_neg Bool.false_ne_true, Nat.add_zero] at hnotes
    have hwaits : (fun w => ((s.endFor p v).voice w).successorOf p) = fun w => (s.voice w).successorOf p := by
      funext w
      by_cases hw : w = v
      · subst hw
        rw [hsu, successorOf_of_none (successor_of_gated (gatedFor_iff.mp hgated).1)]
      · exact hother w hw
    rw [hwaits, ← hnotes, endFor_of_gated hgated, perfOf_releaseAndLeave, clearedBy_leftSet]
  · have hperf : (s.endFor p v).perfOf p =
        Given.leftSet ((s.perfOf p).cancelledOn v ((s.voice v).noteSuccessorOf p)) (· == v) := by
      rw [endFor_of_successor hsuccessor, State.cancelAndLeave, perfOf_leaveSets, perfOf_cancelSuccessor, if_pos hsuccessor]
    rw [hperf, clearedBy_leftSet, clearedBy_cancelledOn hsuccessor hother, hnotes, Nat.add_assoc]

/-- Part p's records while some of its voices were taken from their notes: clearing it makes the same of them. -/
def Partly (p : PartId) (s u : State) : Prop := ClearsLike p s u ∧ Given.ownRecords u p

theorem Partly.endFor {p : PartId} {s u : State} (h : Partly p s u) (v : VoiceId) : Partly p s (u.endFor p v) := by
  cases hcounts : (u.voice v).countsFor p with
  | false =>
    rw [State.endFor_of_not hcounts]
    exact h
  | true =>
    obtain ⟨hlike, hnodup, hbound, hsets⟩ := h
    have hended := endedFor_endFor p u v
    have hframe := hended.frame
    have hothers (q : PartId) (hq : q ≠ p) : (u.endFor p v).perfOf q = u.perfOf q := hended.perf q hq (hsets q hq)
    have hperf := clearedPerf_endFor hcounts
    have hself := voice_endFor_self p u v
    rw [if_pos hcounts] at hself
    have hvoice (w : VoiceId) : (u.endFor p v).clearedVoice p w = u.clearedVoice p w := by
      rw [State.clearedVoice, hframe.timestamp, show (fun q => (u.endFor p v).param q pReleaseWindow) = fun q =>
        u.param q pReleaseWindow from funext fun q => hframe.param q _]
      by_cases hw : w = v
      · subst hw
        rw [hself]
        exact cleared_ended hcounts u.timestamp fun q => u.param q pReleaseWindow
      · rw [voice_endFor_ne hw]
        rfl
    have hnone : ((u.endFor p v).voice v).successorOf p = false := by
      rw [hself]
      exact successorOf_of_none (successor_ended _ _ _ ((countsFor_iff.mp hcounts).imp
        (fun hg => (gatedFor_iff.mp hg).1) fun hs => ⟨p, hs⟩)) p
    have hkept : ((u.endFor p v).perfOf p).bound = (u.perfOf p).bound.filter fun w => !(w == v && (u.voice v).successorOf p) := by
      rcases countsFor_iff.mp hcounts with hgated | hsuccessor
      · have hsu := successorOf_of_none (successor_of_gated (gatedFor_iff.mp hgated).1) p
        rw [endFor_of_gated hgated, perfOf_releaseAndLeave, bound_leftSet, hsu]
        simp
      · rw [endFor_of_successor hsuccessor, State.cancelAndLeave, perfOf_leaveSets, bound_leftSet, perfOf_cancelSuccessor,
          if_pos hsuccessor, hsuccessor]
        exact List.filter_congr fun w _ => by rw [Bool.and_true]; rfl
    refine ⟨hlike.trans ⟨hframe.serial, ?_, hframe.timestamp, ?_, ?_, hvoice, hperf, hothers⟩, ?_, fun w => ?_, fun q hq w hw => ?_⟩
    · unfold SameButPlayed at hframe
      rw [hframe]
    · unfold SameButPlayed at hframe
      rw [hframe]
    · rw [hframe.deferred]
    · rw [hkept]
      exact hnodup.filter _
    · rw [hkept, List.mem_filter, hbound]
      by_cases hw : w = v
      · subst hw
        rw [hnone]
        simp
      · rw [voice_endFor_ne hw]
        simp [hw]
    · rw [hothers q hq] at hw
      exact Bool.eq_false_iff.mpr fun hc => absurd (hended.counts w hc) (Bool.eq_false_iff.mp (hsets q hq w hw))

theorem Partly.foldl {p : PartId} {s : State} (vs : List VoiceId) {u : State} (h : Partly p s u) :
    Partly p s (vs.foldl (State.endFor p) u) := by
  induction vs generalizing u with
  | nil => exact h
  | cons v vs ih => exact ih (h.endFor v)

theorem Partly.repeatStep {p : PartId} {s : State} {f : State → State} (hf : ∀ u, Partly p s u → Partly p s (f u)) (n : Nat)
    {u : State} (h : Partly p s u) : Partly p s (repeatStep f n u) := by
  induction n generalizing u with
  | zero => exact h
  | succ n ih => exact ih (hf u h)

theorem Partly.budgetRelease {p : PartId} {s u : State} (h : Partly p s u) : Partly p s (u.budgetRelease p) := by
  unfold State.budgetRelease
  split
  · split
    · next v hpick =>
      have hgated : (u.voice v).gatedFor p = true := (List.mem_filter.mp (State.pickVictim_mem hpick)).2
      rw [← endFor_of_gated hgated]
      exact h.endFor v
    · exact h
  · exact h

theorem Partly.budgetCancel {p : PartId} {s u : State} (h : Partly p s u) : Partly p s (u.budgetCancel p) := by
  unfold State.budgetCancel
  split
  · split
    · next v hlast =>
      obtain ⟨-, -, hbound, -⟩ := id h
      rw [← endFor_of_successor ((hbound v).mp (List.mem_of_getLast? hlast))]
      exact h.endFor v
    · exact h
  · exact h

theorem Partly.stages {p : PartId} {s u : State} (h : Partly p s u) (old : Vector Nat 40) :
    Partly p s (State.stageBudget old p (State.stageMask old p u)) := by
  have hmask : Partly p s (State.stageMask old p u) := by
    unfold State.stageMask
    split
    · rw [maskStage_eq]
      exact h.foldl _
    · exact h
  generalize State.stageMask old p u = w at *
  unfold State.stageBudget
  split
  · exact Partly.repeatStep (fun _ => Partly.budgetCancel) 16 (Partly.repeatStep (fun _ => Partly.budgetRelease) 16 hmask)
  · exact hmask

/-! ### A part cleared before, or at the end of the stages (R61, R64) -/

theorem held_of_cleared {p : PartId} {s t : State} (h : Given.partCleared s t p) : (t.perfOf p).held = [] := by
  obtain ⟨-, -, -, -, hown, -⟩ := partCleared_iff.mp h
  rw [hown]
  rfl

theorem counts_of_cleared {p : PartId} {s t : State} (h : Given.partCleared s t p) (v : VoiceId) :
    (t.voice v).countsFor p = false := by
  obtain ⟨-, -, -, hvoice, -, -⟩ := partCleared_iff.mp h
  obtain ⟨hgated, hsuccessor⟩ := Voice.cleared_of_named (named := (· == p)) (p := p) (by simp) s.timestamp
    (fun q => s.param q pReleaseWindow) (s.voice v)
  rw [hvoice]
  exact Bool.eq_false_iff.mpr fun hc => (countsFor_iff.mp hc).elim
    (fun hg => absurd hg (by rw [State.clearedVoice, hgated]; exact Bool.false_ne_true))
    fun hs => absurd hs (by rw [State.clearedVoice, hsuccessor]; exact Bool.false_ne_true)

/-- Clearing a part again makes the same of it. -/
theorem clearsLike_of_cleared {p : PartId} {s t : State} (hframe : SameButQueue s t) (h : Given.partCleared s t p) :
    ClearsLike p s t := by
  obtain ⟨hserial, hglides, hdeferred, hvoice, hown, hothers⟩ := partCleared_iff.mp h
  have hwindow : (fun q => t.param q pReleaseWindow) = fun q => s.param q pReleaseWindow := funext fun q => hframe.param q _
  have hsuccessor (v : VoiceId) : (t.voice v).successorOf p = false := Bool.eq_false_iff.mpr fun hs =>
    absurd (countsFor_iff.mpr (.inr hs)) (by rw [counts_of_cleared h]; exact Bool.false_ne_true)
  refine ⟨hserial, hglides, hframe.timestamp, ?_, ?_, fun v => ?_, ?_, hothers⟩
  · unfold SameButQueue at hframe
    rw [hframe]
  · rw [hdeferred, List.filter_filter]
    exact List.filter_congr fun d _ => Bool.and_self _
  · rw [State.clearedVoice, hvoice, hframe.timestamp, hwindow, State.clearedVoice, Voice.cleared_cleared]
    simp only [Bool.or_self]
  · have hnodeferred : t.deferredOf p = 0 := by
      rw [State.deferredOf, hdeferred, List.filter_filter, List.length_eq_zero_iff, List.filter_eq_nil_iff]
      intro d _
      cases d.part == p <;> simp
    have hnonotes : t.noteSuccessorsOf p = 0 := by
      rw [State.noteSuccessorsOf, List.length_eq_zero_iff, List.filter_eq_nil_iff]
      exact fun v _ hn => absurd (successorOf_of_note hn) (by rw [hsuccessor]; exact Bool.false_ne_true)
    have hcount (n : Nat) : min 65535 (min 65535 n) = min 65535 n := by omega
    rw [State.clearedPerf, hnodeferred, hnonotes, hown, State.clearedPerf]
    simp only [Perf.clearedBy, hsuccessor, Bool.not_false, Nat.add_zero, hcount, List.filter_true]

section
variable {p : PartId} {s : State} {old : Vector Nat 40}

/-- The stages before the key stage have nothing to do for a part whose voices count no longer. -/
theorem stages_of_cleared (h : ∀ v, (s.voice v).countsFor p = false) :
    State.stageBudget old p (State.stageMask old p s) = s := by
  have hmask : State.stageMask old p s = s := by
    unfold State.stageMask
    split
    · rw [maskStage_eq]
      generalize allVoices.filter _ = vs
      induction vs with
      | nil => rfl
      | cons v vs ih => rw [List.foldl_cons, State.endFor_of_not (h v), ih]
    · rfl
  have hload : s.load p = 0 := by
    rw [State.load, List.length_eq_zero_iff, List.filter_eq_nil_iff]
    exact fun v _ hc => absurd hc (by rw [h]; exact Bool.false_ne_true)
  rw [hmask]
  exact stageBudget_of_fits fun _ => hload.trans_le (Nat.zero_le _)

theorem keyStage_of_disabling (henable : old[pPartEnable] = 1 ∧ s.param p pPartEnable = 0) :
    s.keyStage old p = s.allOffPart p := by
  rw [keyStage_of_disabled henable]
  split
  · exact reselect_of_empty (held_of_cleared (allOffPart_cleared s p).2)
  · rfl

theorem keyStage_of_cleared (hheld : (s.perfOf p).held = []) :
    s.keyStage old p = if old[pPartEnable] = 1 ∧ s.param p pPartEnable = 0 then s.allOffPart p else s := by
  split
  · next henable => exact keyStage_of_disabling henable
  · next henable => exact keyStage_of_none henable (.inr (.inr hheld))

/-- What the stages up to the key stage leave, where VOICE_MODE changes or PART_ENABLE goes from 1 to 0. -/
theorem stages_clear (hown : Given.ownRecords s p)
    (h : s.param p pVoiceMode ≠ old[pVoiceMode] ∨ (old[pPartEnable] = 1 ∧ s.param p pPartEnable = 0)) :
    ∃ t, State.keyStage old p (State.stageBudget old p (State.stageMask old p (State.stageMode old p s))) = t
      ∧ t.params = s.params ∧ Given.partCleared s t p := by
  have hall (u : State) : (u.allOffPart p).params = u.params := by
    have hframe := (allOffPart_cleared u p).1
    unfold SameButQueue at hframe
    rw [hframe]
  by_cases hmode : s.param p pVoiceMode = old[pVoiceMode]
  · rw [stageMode_of_same hmode]
    obtain ⟨hlike, -⟩ := Partly.stages (old := old) (⟨ClearsLike.refl p s, hown⟩ : Partly p s s)
    generalize State.stageBudget old p (State.stageMask old p s) = u at *
    have henable := h.resolve_left fun hne => hne hmode
    rw [← param_of_params hlike.params] at henable
    exact ⟨_, keyStage_of_disabling henable, (hall u).trans hlike.params, hlike.cleared (allOffPart_cleared u p).2⟩
  · have hstage : State.stageMode old p s = s.allOffPart p := if_pos (by rw [State.changed, bne_iff_ne]; exact hmode)
    obtain ⟨hframe, hcleared⟩ := allOffPart_cleared s p
    rw [hstage, stages_of_cleared (counts_of_cleared hcleared), keyStage_of_cleared (held_of_cleared hcleared)]
    refine ⟨_, rfl, ?_, ?_⟩
    · split
      · exact (hall _).trans (hall s)
      · exact hall s
    · split
      · exact (clearsLike_of_cleared hframe hcleared).cleared (allOffPart_cleared _ p).2
      · exact hcleared

/-- A reconcile that clears its part does no more, as long as no entry of another part can be served. -/
theorem reconcile_clears (hs : s.Settled) (hwindow : s.param p pReleaseWindow ≠ 0) (hown : Given.ownRecords s p)
    (h : s.param p pVoiceMode ≠ old[pVoiceMode] ∨ (old[pPartEnable] = 1 ∧ s.param p pPartEnable = 0))
    (hoffer : (∀ d ∈ s.deferred, d.part = p) ∨ (s.param p pMaxVoices ≤ old[pMaxVoices] ∧ s.param p pReserve ≤ old[pReserve]
      ∧ s.param p pMaskLo = old[pMaskLo] ∧ s.param p pMaskHi = old[pMaskHi])) :
    Given.partCleared s (s.reconcile old p) p := by
  obtain ⟨t, hstages, hparams, hcleared⟩ := stages_clear (old := old) hown h
  have hlast : State.stageOffer old p t.passZeroWindows = t := by
    rw [State.passZeroWindows_of_settled (settled_of_cleared hs hwindow hcleared)]
    rcases hoffer with hdeferred | ⟨hmax, hreserve, hlo, hhi⟩
    · refine stageOffer_of_empty ?_ old p
      obtain ⟨-, -, hrest, -⟩ := partCleared_iff.mp hcleared
      rw [hrest, List.filter_eq_nil_iff]
      intro d hd
      simp [hdeferred d hd]
    · have hparam := param_of_params hparams p
      exact stageOffer_of_none ((hparam _).trans_le hmax) ((hparam _).trans_le hreserve) ((hparam _).trans hlo)
        ((hparam _).trans hhi)
  rw [reconcile_eq, hstages, hlast]
  exact hcleared

end

end Sys2Proof.Machine
end

section
/-! PROOFS. The structural entries of an APPLY (R60, R69, R70). -/

namespace Sys2Proof.Machine

/-! ### The present entries of a staging buffer (R69) -/

theorem mem_presentEntries {st : Vector (Option Nat) 40} {e : ParamId × Nat} : e ∈ presentEntries st ↔ st[e.1] = some e.2 := by
  unfold presentEntries
  rw [List.mem_filterMap]
  constructor
  · rintro ⟨i, -, hi⟩
    obtain ⟨x, hx, rfl⟩ := Option.map_eq_some_iff.mp hi
    exact hx
  · exact fun h => ⟨e.1, List.mem_finRange _, Option.map_eq_some_iff.mpr ⟨e.2, h, rfl⟩⟩

theorem nodup_presentEntries (st : Vector (Option Nat) 40) : ((presentEntries st).map Prod.fst).Nodup := by
  have hfst : (presentEntries st).map Prod.fst = (List.finRange 40).filter fun i => st[i].isSome := by
    unfold presentEntries
    rw [List.map_filterMap]
    generalize List.finRange 40 = is
    induction is with
    | nil => rfl
    | cons i is ih =>
      rw [List.filterMap_cons, List.filter_cons, ih]
      cases st[i] <;> rfl
  rw [hfst]
  exact (List.nodup_finRange 40).filter _

/-- The present entries that a test picks. -/
def entriesOf (keep : ParamId → Bool) (st : Vector (Option Nat) 40) : List (ParamId × Nat) :=
  (presentEntries st).filter fun e => keep e.1

section
variable {keep : ParamId → Bool} {st : Vector (Option Nat) 40}

theorem mem_entriesOf {e : ParamId × Nat} : e ∈ entriesOf keep st ↔ st[e.1] = some e.2 ∧ keep e.1 = true := by
  rw [entriesOf, List.mem_filter, mem_presentEntries]

theorem nodup_entriesOf : ((entriesOf keep st).map Prod.fst).Nodup :=
  (nodup_presentEntries st).sublist (List.filter_sublist.map _)

theorem valueIn_entriesOf (i : ParamId) : valueIn (entriesOf keep st) i = if keep i then st[i] else none := by
  cases hvalue : if keep i then st[i] else none with
  | some x =>
    split at hvalue
    · next hkeep => exact valueIn_of_mem (e := (i, x)) nodup_entriesOf (mem_entriesOf.mpr ⟨hvalue, hkeep⟩)
    · cases hvalue
  | none =>
    refine valueIn_eq_none fun hi => ?_
    obtain ⟨e, he, rfl⟩ := List.mem_map.mp hi
    obtain ⟨hst, hkeep⟩ := mem_entriesOf.mp he
    rw [if_pos hkeep, hst] at hvalue
    cases hvalue

theorem entriesOf_true : entriesOf (fun _ => true) st = presentEntries st := List.filter_true _

theorem valueIn_presentEntries (i : ParamId) : valueIn (presentEntries st) i = st[i] := by
  rw [← entriesOf_true, valueIn_entriesOf, if_pos rfl]

end

/-! ### Their writes, with one reconcile (R60, R70) -/

theorem isStruct_iff {i : ParamId} : isStruct i = true ↔ (descriptor i).cls = .struct := by simp [isStruct]

theorem params_ext {s t : State} (h : ∀ q i, t.param q i = s.param q i) : t.params = s.params :=
  Vector.ext fun q hq => Vector.ext fun i hi => h ⟨q, hq⟩ ⟨i, hi⟩

theorem State.applyStruct_eq (p : PartId) (es : List (ParamId × Nat)) (s : State) : s.applyStruct p es =
    if es.any fun e => e.2 != s.params[p][e.1] then (s.setParams p es).reconcile s.params[p] p else s.setParams p es := rfl

theorem local_setParams (p : PartId) (es : List (ParamId × Nat)) : Local (State.setParams p es) :=
  Local.foldl (step := fun s (e : ParamId × Nat) => s.setParam p e.1 e.2) (fun _ _ _ => rfl) es

theorem local_applyStruct (p : PartId) (es : List (ParamId × Nat)) : Local (State.applyStruct p es) := fun e s => by
  have hset : (s.within e).setParams p es = (s.setParams p es).within e := local_setParams p es e s
  rw [State.applyStruct_eq, State.applyStruct_eq, hset]
  change (if es.any fun e => e.2 != s.params[p][e.1] then ((s.setParams p es).within e).reconcile s.params[p] p else _) = _
  rw [local_reconcile]
  split <;> rfl

theorem sameButNotes_applyStruct (p : PartId) (es : List (ParamId × Nat)) (s : State) :
    SameButNotes (s.setParams p es) (s.applyStruct p es) := by
  rw [State.applyStruct_eq]
  split
  · exact sameButNotes_reconcile _ p _
  · exact .refl _

theorem SameButParams.sameVoices {s t : State} (h : SameButParams s t) : Given.sameVoices s t := by
  unfold SameButParams at h
  rw [h]
  exact ⟨rfl, rfl, rfl, rfl, rfl, rfl, rfl, rfl, rfl⟩

/-- The state after an APPLY's structural entries. -/
def State.structApplied (s : State) (l : Link) (p : PartId) : State :=
  s.applyStruct p (entriesOf isStruct (s.link l).staging)

section
variable {s : State} {l : Link} {p : PartId}

/-- The image that the structural entries leave. -/
theorem param_structSet (q : PartId) (i : ParamId) :
    (s.setParams p (entriesOf isStruct (s.link l).staging)).param q i =
      if q = p ∧ (descriptor i).cls = .struct then ((s.link l).staging[i]).getD (s.param q i) else s.param q i := by
  rw [param_setParams nodup_entriesOf, valueIn_entriesOf]
  by_cases hq : q = p
  · by_cases hi : (descriptor i).cls = .struct
    · rw [if_pos hq, if_pos (isStruct_iff.mpr hi), if_pos ⟨hq, hi⟩]
    · rw [if_pos hq, if_neg fun h => hi (isStruct_iff.mp h), if_neg fun h => hi h.2]
      rfl
  · rw [if_neg hq, if_neg fun h => hq h.1]

theorem param_structApplied (q : PartId) (i : ParamId) : (s.structApplied l p).param q i =
    if q = p ∧ (descriptor i).cls = .struct then ((s.link l).staging[i]).getD (s.param q i) else s.param q i := by
  rw [← param_structSet, State.structApplied, param_of_params (sameButNotes_applyStruct _ _ s).params]

/-- A staged structural value. -/
def structWritten (s : State) (l : Link) (i : ParamId) (y : Nat) : Prop :=
  (s.link l).staging[i] = some y ∧ (descriptor i).cls = .struct

/-- A staged structural value that changes its parameter. -/
def structChanged (s : State) (l : Link) (p : PartId) (i : ParamId) (y : Nat) : Prop :=
  structWritten s l i y ∧ y ≠ s.param p i

theorem structSet_cases (i : ParamId) :
    (s.setParams p (entriesOf isStruct (s.link l).staging)).param p i = s.param p i
      ∨ structChanged s l p i ((s.setParams p (entriesOf isStruct (s.link l).staging)).param p i) := by
  by_cases hsame : (s.setParams p (entriesOf isStruct (s.link l).staging)).param p i = s.param p i
  · exact .inl hsame
  · refine .inr ⟨?_, hsame⟩
    rw [param_structSet] at hsame ⊢
    split at hsame
    · next hi =>
      rw [if_pos hi]
      cases hst : (s.link l).staging[i] with
      | none => rw [hst] at hsame; exact absurd rfl hsame
      | some y => exact ⟨hst, hi.2⟩
    · exact absurd rfl hsame

theorem structSet_of_changed {i : ParamId} {y : Nat} (h : structWritten s l i y) :
    (s.setParams p (entriesOf isStruct (s.link l).staging)).param p i = y := by
  rw [param_structSet, if_pos ⟨rfl, h.2⟩, h.1]
  rfl

theorem structApplied_of_same (h : ∀ i y, ¬structChanged s l p i y) :
    s.structApplied l p = s.setParams p (entriesOf isStruct (s.link l).staging) := by
  rw [State.structApplied, State.applyStruct_eq, if_neg]
  rw [List.any_eq_true]
  rintro ⟨e, he, hne⟩
  obtain ⟨hst, hi⟩ := mem_entriesOf.mp he
  exact h e.1 e.2 ⟨⟨hst, isStruct_iff.mp hi⟩, bne_iff_ne.mp hne⟩

theorem structApplied_of_changed {i : ParamId} {y : Nat} (h : structChanged s l p i y) : s.structApplied l p =
    (s.setParams p (entriesOf isStruct (s.link l).staging)).reconcile s.params[p] p := by
  rw [State.structApplied, State.applyStruct_eq, if_pos]
  rw [List.any_eq_true]
  exact ⟨(i, y), mem_entriesOf.mpr ⟨h.1.1, isStruct_iff.mpr h.1.2⟩, bne_iff_ne.mpr h.2⟩

theorem exists_changed (s : State) (l : Link) (p : PartId) :
    (∃ i y, structChanged s l p i y) ∨ ∀ i y, ¬structChanged s l p i y := by
  by_cases h : ∃ i y, structChanged s l p i y
  · exact .inl h
  · exact .inr fun i y hc => h ⟨i, y, hc⟩

theorem sameVoices_structSet : Given.sameVoices s (s.setParams p (entriesOf isStruct (s.link l).staging)) :=
  (sameButParams_setParams p _ s).sameVoices

theorem settled_structSet (hs : s.Settled) : (s.setParams p (entriesOf isStruct (s.link l).staging)).Settled := by
  have hvoices := (sameVoices_structSet (s := s) (l := l) (p := p)).1
  generalize s.setParams p (entriesOf isStruct (s.link l).staging) = u at *
  intro v
  rw [State.voice, hvoices]
  exact hs v

theorem window_structSet (q : PartId) :
    (s.setParams p (entriesOf isStruct (s.link l).staging)).param q pReleaseWindow = s.param q pReleaseWindow := by
  rw [param_structSet, if_neg fun h => absurd h.2 (by decide)]

/-- Where no stage has work for any change, the voices stay. -/
theorem structApplied_of_noStage (hs : s.Settled) (h : ∀ i y, structChanged s l p i y → Given.noStage s p i y) :
    Given.sameVoices s (s.structApplied l p) := by
  have hsame := sameVoices_structSet (s := s) (l := l) (p := p)
  have hsettled := settled_structSet (l := l) (p := p) hs
  rcases exists_changed s l p with ⟨i, y, hc⟩ | hnone
  · have hstages (j : ParamId) := (structSet_cases (s := s) (l := l) (p := p) j).elim .inl fun hj => h j _ hj
    rw [structApplied_of_changed hc]
    generalize s.setParams p (entriesOf isStruct (s.link l).staging) = u at *
    obtain ⟨hvoices, -, -, hperf, -⟩ := id hsame
    rw [reconcile_of_noStage hvoices hperf hstages, State.passZeroWindows_of_settled hsettled]
    exact hsame
  · rw [structApplied_of_same hnone]
    exact hsame

/-- A single change does what the write of its value does. -/
theorem structApplied_of_single {i : ParamId} {y : Nat} (hc : structChanged s l p i y)
    (hsingle : ∀ j z, structChanged s l p j z → j = i) : s.structApplied l p = s.imageWritten p i y := by
  have hset : s.setParams p (entriesOf isStruct (s.link l).staging) = s.setParam p i y := by
    have hparams : (s.setParams p (entriesOf isStruct (s.link l).staging)).params = (s.setParam p i y).params :=
      params_ext fun q j => by
        by_cases hq : q = p
        · subst hq
          by_cases hj : j = i
          · subst hj
            rw [structSet_of_changed hc.1, State.param_setParam_self]
          · rw [State.param_setParam_ne fun h => hj h.2]
            exact (structSet_cases j).resolve_right fun hcj => hj (hsingle j _ hcj)
        · rw [State.param_setParam_ne fun h => hq h.1, param_structSet, if_neg fun h => hq h.1]
    have hframe := sameButParams_setParams p (entriesOf isStruct (s.link l).staging) s
    unfold SameButParams at hframe
    rw [hframe, hparams]
    rfl
  rw [structApplied_of_changed hc, hset, State.imageWritten, if_pos]
  rw [isStruct_iff.mpr hc.1.2, Bool.true_and]
  exact bne_iff_ne.mpr hc.2

/-- The run and the measurement stand unless a window of 0 passes. -/
theorem sameTune_structApplied (hs : s.Settled) (hwindow : s.param p pReleaseWindow ≠ 0) :
    Given.sameTune s (s.structApplied l p) := by
  obtain ⟨-, -, -, -, -, hsame⟩ := sameVoices_structSet (s := s) (l := l) (p := p)
  have hopens : OpensNone p (s.setParams p (entriesOf isStruct (s.link l).staging)) :=
    ⟨settled_structSet hs, by rw [window_structSet]; exact hwindow⟩
  rcases exists_changed s l p with ⟨i, y, hc⟩ | hnone
  · rw [structApplied_of_changed hc]
    have hframe := sameButVoices_reconcile hopens s.params[p]
    generalize State.reconcile s.params[p] p _ = w at *
    generalize s.setParams p (entriesOf isStruct (s.link l).staging) = u at *
    unfold SameButVoices at hframe
    rw [hframe]
    exact hsame
  · rw [structApplied_of_same hnone]
    exact hsame

/-- A part that a change clears, whatever else changes with it. -/
theorem cleared_structApplied {i : ParamId} {y : Nat} (hc : structChanged s l p i y) (hclears : Given.clearsPart s p i y)
    (hs : s.Settled) (hwindow : s.param p pReleaseWindow ≠ 0) (hown : Given.ownRecords s p)
    (hoffer : (∀ d ∈ s.deferred, d.part = p) ∨ ∀ j z, structChanged s l p j z → ¬Given.mayOffer s p j z) :
    Given.partCleared s (s.structApplied l p) p := by
  have hframe := sameButParams_setParams p (entriesOf isStruct (s.link l).staging) s
  have hsettled := settled_structSet (l := l) (p := p) hs
  have hkept := window_structSet (s := s) (l := l) (p := p)
  have hcases := structSet_cases (s := s) (l := l) (p := p)
  have hvalue := structSet_of_changed (p := p) hc.1
  rw [structApplied_of_changed hc]
  generalize s.setParams p (entriesOf isStruct (s.link l).staging) = u at *
  unfold SameButParams at hframe
  have hclear : u.param p pVoiceMode ≠ s.params[p][pVoiceMode] ∨ (s.params[p][pPartEnable] = 1 ∧ u.param p pPartEnable = 0) := by
    rcases hclears with ⟨rfl, hne⟩ | ⟨rfl, hold, hnew⟩
    · exact .inl fun h => hne (hvalue.symm.trans h)
    · exact .inr ⟨hold, hvalue.trans hnew⟩
  have hbelow (j : ParamId) (hj : j = pMaxVoices ∨ j = pReserve)
      (h : ∀ j z, structChanged s l p j z → ¬Given.mayOffer s p j z) : u.param p j ≤ s.param p j :=
    (hcases j).elim le_of_eq fun hcj => Nat.le_of_not_lt fun hlt => h j _ hcj (.inl ⟨hj, hlt⟩)
  have hmask (j : ParamId) (hj : j = pMaskLo ∨ j = pMaskHi)
      (h : ∀ j z, structChanged s l p j z → ¬Given.mayOffer s p j z) : u.param p j = s.param p j :=
    (hcases j).resolve_right fun hcj => h j _ hcj (.inr hj)
  have hcleared := reconcile_clears (s := u) (old := s.params[p]) hsettled (by rw [hkept]; exact hwindow)
    (by rw [hframe]; exact hown) hclear (hoffer.imp (by rw [hframe]; exact id) fun h =>
      ⟨hbelow _ (.inl rfl) h, hbelow _ (.inr rfl) h, hmask _ (.inl rfl) h, hmask _ (.inr rfl) h⟩)
  obtain ⟨hserial, hglides, hdeferred, hvoice, hperf, hothers⟩ := partCleared_iff.mp hcleared
  have hwindows : (fun q => u.param q pReleaseWindow) = fun q => s.param q pReleaseWindow := funext hkept
  refine partCleared_iff.mpr ⟨hserial.trans ?_, hglides.trans ?_, hdeferred.trans ?_, fun v => (hvoice v).trans ?_,
    hperf.trans ?_, fun q hq => (hothers q hq).trans ?_⟩
  · rw [hframe]
  · rw [hframe]
  · rw [hframe]
  · rw [State.clearedVoice, hwindows, hframe]
    rfl
  · rw [hframe]
    rfl
  · rw [hframe]
    rfl

/-- What the structural entries of an APPLY do, read from a state that agrees with theirs on the voices and on the
structural values. -/
theorem structStage_of {t : State} (hready : s.ready l) (hvoices : Given.sameVoices (s.structApplied l p) t)
    (hparams : ∀ i, (descriptor i).cls = .struct → t.param p i = (s.structApplied l p).param p i) :
    Given.structStage s t l p := by
  refine ⟨fun i y hw => ?_, fun hsame => ?_, fun hs hstages => ?_, fun i y hc hsingle hrange => ?_, fun hs hwindow => ?_,
    fun i y hc hclears hs hwindow hown hoffer => ?_⟩
  · rw [hparams i hw.2, param_structApplied, if_pos ⟨rfl, hw.2⟩, hw.1]
    rfl
  · rw [structApplied_of_same fun i y hc => hc.2 (hsame i y hc.1)] at hvoices
    exact sameVoices_trans sameVoices_structSet hvoices
  · exact sameVoices_trans (structApplied_of_noStage hs hstages) hvoices
  · rw [structApplied_of_single hc hsingle] at hvoices
    obtain ⟨u, hexec, hsame⟩ := exec_paramSet_sameVoices hready p hrange
    exact ⟨u, hexec, sameVoices_trans hsame hvoices⟩
  · obtain ⟨hrun, hmeasurement, hcandidate, hfsel⟩ := sameTune_structApplied (l := l) hs hwindow
    obtain ⟨-, -, -, -, -, hrun', hmeasurement', hcandidate', hfsel'⟩ := hvoices
    exact ⟨hrun'.trans hrun, hmeasurement'.trans hmeasurement, hcandidate'.trans hcandidate, hfsel'.trans hfsel⟩
  · have hcleared := cleared_structApplied hc hclears hs hwindow hown hoffer
    obtain ⟨hserial, hglides, hdeferred, hvoice, hperf⟩ := hcleared
    obtain ⟨hvs, hserial', hdeferred', hperf', hglides', -⟩ := hvoices
    refine ⟨hserial'.trans hserial, hglides'.trans hglides, hdeferred'.trans hdeferred, fun v => ?_, fun q => ?_⟩
    · rw [State.voice, hvs]
      exact hvoice v
    · rw [State.perfOf, hperf']
      exact hperf q

end

end Sys2Proof.Machine
end

section
/-! PROOFS. The request APPLY, but for its CONT and STEP entries (R69, R70, R84, R85). -/

namespace Sys2Proof.Machine

/-! ### Links that hear notices alone -/

/-- An operation on a link that posts notices to it, and reads no more than its notice queue. -/
structure Tells (F : LinkUnit → LinkUnit) : Prop where
  frame : ∀ u, F u = { u with queue := (F u).queue }
  congr : ∀ u v, u.queue = v.queue → (F u).queue = (F v).queue

/-- Setting what stands beside the queue commutes with notices. -/
theorem Tells.setting {F : LinkUnit → LinkUnit} (h : Tells F) {u : LinkUnit} {x : Option Reply} (v : LinkUnit)
    (huv : v = { u with inProcess := x }) : { F u with inProcess := x } = F v := by
  rw [h.frame u, h.frame v, h.congr u v (by rw [huv]), huv]

theorem tells_id : Tells id := ⟨fun _ => rfl, fun _ _ h => h⟩

theorem Tells.comp {F G : LinkUnit → LinkUnit} (hF : Tells F) (hG : Tells G) : Tells fun u => F (G u) where
  frame u := by rw [hF.frame (G u), hG.frame u]
  congr u v h := hF.congr _ _ (hG.congr u v h)

/-- A notice to a link, which it may ask for by its subscription. -/
theorem tells_told (named : Bool) (bit : Nat) (n : Notice) :
    Tells fun u => u.told (named || u.queue.mask.getLsbD bit) n where
  frame u := by
    rw [LinkUnit.told_eq]
  congr u v h := by
    rw [LinkUnit.told_eq, LinkUnit.told_eq, h]

theorem tells_toldOnly (named : Bool) (n : Notice) : Tells fun u => u.told named n where
  frame u := by
    rw [LinkUnit.told_eq]
  congr u v h := by
    rw [LinkUnit.told_eq, LinkUnit.told_eq, h]

theorem tells_chainTold (p : PartId) (slot : Option Morph) (stamp : Stamp) (l : Link) : Tells (chainTold p slot stamp l) := by
  cases slot with
  | none => exact tells_id
  | some m =>
    refine ⟨fun u => ?_, fun u v h => ?_⟩
    · unfold chainTold
      dsimp only
      rw [LinkUnit.told_eq]
    · unfold chainTold
      dsimp only
      rw [LinkUnit.told_eq, LinkUnit.told_eq, h]

/-! ### What APPLY hands to its CONT and STEP entries (R70, R71) -/

/-- What an APPLY does with its CONT and STEP entries, and with the notice of its end (R70 to R73, R79). -/
def State.morphApplied (p : PartId) (origin : Link) (time : Nat) (curve : Curve) (es : List (ParamId × Nat)) (s : State) :
    State :=
  let morph := es.filter fun e => !isStruct e.1
  if morph = [] then s.postApplied p origin (es.filter fun e => isStruct e.1).length 0
  else if time = 0 then
    let taken := morph.any fun e => s.isMorphing p e.1
    let s := s.applyNow p morph
    let s := if taken then s.endEmptyChain p else s
    s.postApplied p origin es.length 0
  else s.applyMorph p origin time curve morph

theorem State.applyEntries_eq (p : PartId) (origin : Link) (time : Nat) (curve : Curve) (es : List (ParamId × Nat)) (s : State) :
    s.applyEntries p origin time curve es = State.tellAll p es
      (State.morphApplied p origin time curve es (s.applyStruct p (es.filter fun e => isStruct e.1))) := rfl

/-- The payload of APPLY. -/
def applyPayload (p : PartId) (time : Nat) (curve : Curve) : List Byte := [byte p] ++ field16 time ++ [byte curve.code]

/-- The state in which an APPLY acts: its frame was shifted out, and the link's staging buffer is empty. -/
def State.applying (s : State) (l : Link) (payload : List Byte) : State :=
  (s.framed l payload).setStaging l (Vector.replicate 40 none)

/-- The state after the structural entries of an APPLY. -/
def State.applyingMorph (s : State) (l : Link) (p : PartId) (payload : List Byte) : State :=
  (s.structApplied l p).within (s.applying l payload)

theorem curve?_byte (c : Curve) : curve? (byte c.code) = some c := by cases c <;> decide

theorem applyService_byte (l : Link) (p : PartId) {time : Nat} (htime : time < 65536) (curve : Curve) (s : State) :
    applyService l (applyPayload p time curve) (s.framed l (applyPayload p time curve)) =
      let es := presentEntries (s.link l).staging
      let u := ((s.applyingMorph l p (applyPayload p time curve)).morphApplied p l (min 20000 time) curve es).tellAll p es
      (u, { status := .ok, clamped := decide (20000 < time)
            data := [byte p] ++ field16 (min 20000 time) ++ [byte es.length, byte (entriesOf isStruct (s.link l).staging).length,
              byte (bit (u.slotOf p).isSome)] }) := by
  have hstaging : ((s.framed l (applyPayload p time curve)).link l).staging = (s.link l).staging := by cases l <;> rfl
  have hwithin : s.applying l (applyPayload p time curve) = s.within (s.applying l (applyPayload p time curve)) := by
    cases l <;> rfl
  have hstruct : (s.applying l (applyPayload p time curve)).applyStruct p (entriesOf isStruct (s.link l).staging) =
      s.applyingMorph l p (applyPayload p time curve) :=
    (congrArg (State.applyStruct p _) hwithin).trans (local_applyStruct p _ _ s)
  have hlt : min 20000 time < 65536 := by omega
  dsimp only
  rw [← hstruct]
  unfold State.applying
  rw [← hstaging]
  generalize s.framed l (applyPayload p time curve) = f
  unfold applyPayload
  simp only [applyService, field16, List.cons_append, List.nil_append, part?_byte, curve?_byte, u16_field16 htime,
    le16_eq_field16 hlt, State.applyEntries_eq]
  rfl

/-! ### What every accepted APPLY leaves (R70, R84) -/

/-- What an APPLY's CONT and STEP entries may do for part p, and what each link hears. -/
structure MorphApplied (p : PartId) (F : Link → LinkUnit → LinkUnit) (w v : State) : Prop where
  frame : v = { w with params := v.params, slots := v.slots, linkA := v.linkA, linkB := v.linkB }
  struct : ∀ i, (descriptor i).cls = .struct → v.param p i = w.param p i
  others : ∀ q, q ≠ p → v.slotOf q = w.slotOf q ∧ ∀ i, v.param q i = w.param q i
  tells : ∀ m, Tells (F m)
  link : ∀ m, v.link m = F m (w.link m)

section
variable {s : State} {l : Link} {p : PartId}

theorem length_entriesOf (keep : ParamId → Bool) (st : Vector (Option Nat) 40) :
    (entriesOf keep st).length = (List.finRange 40).countP fun i => st[i].isSome && keep i := by
  unfold entriesOf presentEntries
  generalize List.finRange 40 = is
  induction is with
  | nil => rfl
  | cons i is ih =>
    rw [List.filterMap_cons, List.countP_cons, ← ih]
    cases st[i] with
    | none => simp
    | some x => cases hkeep : keep i <;> simp [hkeep]

theorem stagedCounts_eq (s : State) (l : Link) : Given.stagedCounts s l =
    ((presentEntries (s.link l).staging).length, (entriesOf isStruct (s.link l).staging).length) := by
  rw [← entriesOf_true, length_entriesOf, length_entriesOf]
  simp only [Bool.and_true]
  rfl

theorem exec_apply (hready : s.ready l) {time : Nat} (htime : time < 65536) (curve : Curve) {F : Link → LinkUnit → LinkUnit}
    {w v : State} (hw : s.applyingMorph l p (applyPayload p time curve) = w)
    (hv : w.morphApplied p l (min 20000 time) curve (presentEntries (s.link l).staging) = v) (h : MorphApplied p F w v) :
    ∃ t, exec (.apply l (applyPayload p time curve)) s = .next t ∧ Given.applied s t l p
      ∧ t.params = v.params ∧ t.slots = v.slots
      ∧ t.link l = F l { (s.link l).took 6 (okReply 0x14 (decide (20000 < time)) false ([byte p] ++ field16 (min 20000 time)
          ++ [byte (Given.stagedCounts s l).1, byte (Given.stagedCounts s l).2, byte (bit (v.slotOf p).isSome)])) with
          staging := Vector.replicate 40 none }
      ∧ t.link l.other = F l.other (s.link l.other) := by
  have hwork : Request.apply.service l (applyPayload p time curve) (s.framed l (applyPayload p time curve)) = _ :=
    applyService_byte l p htime curve s
  dsimp only at hwork
  rw [hw, hv] at hwork
  have hcounts := stagedCounts_eq s l
  have hexec := exec_request_of_running hready (r := .apply) (by decide) (applyPayload p time curve)
  rw [hwork] at hexec
  have hknobs (k : ControlId) := knob_tellAll (nodup_presentEntries (s.link l).staging) p v k
  have hknobframe := sameButKnobs_tellAll p (presentEntries (s.link l).staging) v
  obtain ⟨u, hu⟩ : ∃ u, u = v.tellAll p (presentEntries (s.link l).staging) := ⟨_, rfl⟩
  rw [← hu] at hexec hknobs hknobframe
  obtain ⟨hframe, hstruct, hothers, htells, hlink⟩ := h
  have hwithin (k : ControlId) : w.knob k = s.knob k ∧ Given.reportedAt w k = Given.reportedAt s k := by
    rw [← hw]
    cases l <;> exact ⟨rfl, rfl⟩
  have hwslot (q : PartId) : w.slotOf q = s.slotOf q := by
    rw [← hw]
    cases l <;> rfl
  have hwlink : w.link l = { s.link l with
      shifted := fillers (2 + (applyPayload p time curve).length), staging := Vector.replicate 40 none }
      ∧ w.link l.other = s.link l.other := by
    rw [← hw]
    cases l <;> exact ⟨rfl, rfl⟩
  have hwparam (q : PartId) (i : ParamId) : w.param q i = (s.structApplied l p).param q i := by
    rw [← hw]
    rfl
  have hwvoices : Given.sameVoices (s.structApplied l p) w := by
    rw [← hw]
    exact ⟨rfl, rfl, rfl, rfl, rfl, rfl, rfl, rfl, rfl⟩
  have hwframe : w = { s with
      voices := w.voices, serial := w.serial, deferred := w.deferred, perf := w.perf, glides := w.glides
      run := w.run, measurement := w.measurement, candidate := w.candidate, fsel := w.fsel
      params := w.params, linkA := w.linkA, linkB := w.linkB } := by
    have hnotes := sameButNotes_applyStruct p (entriesOf isStruct (s.link l).staging) s
    have hset := sameButParams_setParams p (entriesOf isStruct (s.link l).staging) s
    have hglobals : (s.structApplied l p).globals = s.globals := by
      refine hnotes.globals.trans ?_
      unfold SameButParams at hset
      rw [hset]
    have hstamp : (s.structApplied l p).timestamp = s.timestamp := by
      refine hnotes.timestamp.trans ?_
      unfold SameButParams at hset
      rw [hset]
    rw [← hw]
    unfold State.applyingMorph State.within
    rw [hglobals, hstamp]
    cases l <;> rfl
  have huparams : u.params = v.params := by
    unfold SameButKnobs at hknobframe
    rw [hknobframe]
  have huslots : u.slots = v.slots := by
    unfold SameButKnobs at hknobframe
    rw [hknobframe]
  have huvoices : Given.sameVoices w u := by
    unfold SameButKnobs at hknobframe
    rw [hknobframe, hframe]
    exact ⟨rfl, rfl, rfl, rfl, rfl, rfl, rfl, rfl, rfl⟩
  have huslot (q : PartId) : u.slotOf q = v.slotOf q := by rw [State.slotOf, State.slotOf, huslots]
  have hulink (m : Link) : u.link m = F m (w.link m) := (hknobframe.link m).trans (hlink m)
  have huknob (k : ControlId) : u.knob k =
      (s.knob k).map (Given.told p (fun i => (s.link l).staging[i]) (Given.reportedAt s k)) := by
    have hvk : v.knob k = s.knob k ∧ Given.reportedAt v k = Given.reportedAt s k := by
      rw [hframe]
      exact hwithin k
    rw [hknobs, hvk.1, hvk.2, show valueIn (presentEntries (s.link l).staging) = _ from funext valueIn_presentEntries]
  have huframe : u = { s with
      voices := u.voices, serial := u.serial, deferred := u.deferred, perf := u.perf, glides := u.glides
      run := u.run, measurement := u.measurement, candidate := u.candidate, fsel := u.fsel
      params := u.params, slots := u.slots, knobs := u.knobs, linkA := u.linkA, linkB := u.linkB } := by
    unfold SameButKnobs at hknobframe
    rw [hknobframe, hframe, hwframe]
  refine ⟨_, hexec, ⟨?_, structStage_of hready (sameVoices_trans (sameVoices_trans hwvoices huvoices) ?_) fun i hi => ?_,
    fun q hq => ⟨?_, fun i => ?_⟩, fun k => ?_⟩, ?_, ?_, ?_, ?_⟩
  · rw [huframe]
    cases l <;> rfl
  · cases l <;> exact ⟨rfl, rfl, rfl, rfl, rfl, rfl, rfl, rfl, rfl⟩
  · rw [State.setLink_param, param_of_params huparams, hstruct i hi, hwparam]
  · rw [State.setLink_slotOf, huslot, (hothers q hq).1, hwslot]
  · rw [State.setLink_param, param_of_params huparams, (hothers q hq).2, hwparam, param_structApplied, if_neg fun h => hq h.1]
  · rw [State.setLink_knob, huknob]
  · rw [State.setLink_params, huparams]
  · rw [State.setLink_slots, huslots]
  · rw [State.link_setLink_self, hulink, hwlink.1, hcounts, ← huslot]
    exact (htells l).setting _ rfl
  · rw [State.link_other_setLink, hulink, hwlink.2]

end

end Sys2Proof.Machine
end

section
/-! PROOFS. The CONT and STEP entries of an APPLY: written at once, a new chain, or a retarget (R71 to R73, R79, R82). -/

namespace Sys2Proof.Machine

/-! ### The CONT and STEP entries of a buffer (R69) -/

/-- The CONT and STEP entries of a staging buffer. -/
def morphEntriesOf (st : Vector (Option Nat) 40) : List (ParamId × Nat) := entriesOf (fun i => !isStruct i) st

theorem nodup_morphEntriesOf (st : Vector (Option Nat) 40) : ((morphEntriesOf st).map Prod.fst).Nodup := nodup_entriesOf

section
variable {s : State} {l : Link}

theorem valueIn_morphEntriesOf (s : State) (l : Link) (i : ParamId) :
    valueIn (morphEntriesOf (s.link l).staging) i = Given.morphStaged s l i := by
  rw [morphEntriesOf, valueIn_entriesOf, Given.morphStaged]
  by_cases hi : (descriptor i).cls = .struct
  · rw [if_pos hi, isStruct_iff.mpr hi]
    rfl
  · rw [if_neg hi, isStruct_eq_false hi]
    rfl

theorem morphEntriesOf_eq_nil (h : ∀ i, Given.morphStaged s l i = none) : morphEntriesOf (s.link l).staging = [] := by
  refine List.eq_nil_iff_forall_not_mem.mpr fun e he => ?_
  have hvalue := valueIn_of_mem (nodup_morphEntriesOf _) he
  rw [valueIn_morphEntriesOf, h e.1] at hvalue
  cases hvalue

theorem morphEntriesOf_ne_nil (h : ∃ i, (Given.morphStaged s l i).isSome = true) : morphEntriesOf (s.link l).staging ≠ [] := by
  obtain ⟨i, hi⟩ := h
  intro hnil
  rw [← valueIn_morphEntriesOf, hnil] at hi
  cases hi

/-- The CONT and STEP entries, in index order. -/
theorem map_morphEntriesOf {α : Type} (f : ParamId → Nat → α) : (morphEntriesOf (s.link l).staging).map (fun e => f e.1 e.2) =
    (List.finRange 40).filterMap fun i => (Given.morphStaged s l i).map (f i) := by
  have hstaged (i : ParamId) : Given.morphStaged s l i = if isStruct i then none else (s.link l).staging[i] := by
    by_cases hi : (descriptor i).cls = .struct
    · rw [Given.morphStaged, if_pos hi, if_pos (isStruct_iff.mpr hi)]
    · rw [Given.morphStaged, if_neg hi, if_neg fun h => hi (isStruct_iff.mp h)]
  simp only [hstaged]
  unfold morphEntriesOf entriesOf presentEntries
  generalize List.finRange 40 = is
  induction is with
  | nil => rfl
  | cons i is ih =>
    rw [List.filterMap_cons, List.filterMap_cons, ← ih]
    cases (s.link l).staging[i] with
    | none => cases isStruct i <;> rfl
    | some x => cases hi : isStruct i <;> simp [hi]

theorem countP_morphEntriesOf (f : ParamId → Bool) : (morphEntriesOf (s.link l).staging).countP (fun e => f e.1) =
    (List.finRange 40).countP fun i => (Given.morphStaged s l i).isSome && f i := by
  have hmap : (morphEntriesOf (s.link l).staging).countP (fun e => f e.1) =
      ((morphEntriesOf (s.link l).staging).map fun e => e.1).countP f := by rw [List.countP_map]; rfl
  rw [hmap, map_morphEntriesOf fun i _ => i]
  generalize List.finRange 40 = is
  induction is with
  | nil => rfl
  | cons i is ih =>
    rw [List.filterMap_cons, List.countP_cons, ← ih]
    cases Given.morphStaged s l i with
    | none => simp
    | some x => simp [List.countP_cons]

end

/-! ### Without CONT and STEP entries (R70) -/

/-- APPLIED at a link (R85). -/
def appliedNotice (p : PartId) (origin : Link) (entries taken : Nat) (stamp : Stamp) : Notice :=
  { kind := .applied, subject := p, value1 := entries, value2 := 256 * linkCode origin + taken, stamp }

section
variable {w : State} {p : PartId} {l : Link} {time : Nat} {curve : Curve} {st : Vector (Option Nat) 40}

theorem link_postApplied (s : State) (entries taken : Nat) (m : Link) : (s.postApplied p l entries taken).link m =
    (s.link m).told (m == l || (s.link m).queue.mask.getLsbD 1) (appliedNotice p l entries taken s.timestamp) :=
  State.link_postAlso_told (· == l) .applied p entries (pair (linkCode l) taken) s m

theorem sameButLinks_postApplied (s : State) (entries taken : Nat) : SameButLinks s (s.postApplied p l entries taken) :=
  sameButLinks_postAlso _ _ _ _ _ _

theorem SameButLinks.params {s t : State} (h : SameButLinks s t) : t.params = s.params := by
  unfold SameButLinks at h
  rw [h]

theorem SameButLinks.slots {s t : State} (h : SameButLinks s t) : t.slots = s.slots := by
  unfold SameButLinks at h
  rw [h]

theorem morphApplied_of_struct (h : morphEntriesOf st = []) :
    w.morphApplied p l time curve (presentEntries st) = w.postApplied p l (entriesOf isStruct st).length 0 := if_pos h

theorem morphApplied_struct (n : Nat) : MorphApplied p
    (fun m u => u.told (m == l || u.queue.mask.getLsbD 1) (appliedNotice p l n 0 w.timestamp)) w (w.postApplied p l n 0) := by
  have hframe := sameButLinks_postApplied (p := p) (l := l) w n 0
  have hparam := param_of_params hframe.params
  refine ⟨?_, fun i _ => hparam p i, fun q _ => ⟨?_, hparam q⟩, fun m => tells_told _ _ _, link_postApplied w n 0⟩
  · generalize w.postApplied p l n 0 = v at *
    unfold SameButLinks at hframe
    rw [hframe]
  · rw [State.slotOf, hframe.slots]
    rfl

/-! ### A new chain, or a retarget (R72, R73, R79) -/

theorem morphApplied_of_chain (h : morphEntriesOf st ≠ []) (htime : time ≠ 0) :
    w.morphApplied p l time curve (presentEntries st) = w.applyMorph p l time curve (morphEntriesOf st) := by
  unfold State.morphApplied
  dsimp only
  rw [if_neg (by exact h), if_neg htime]
  rfl

theorem morphApplied_setSlot (w : State) (p : PartId) (m : Option Morph) :
    MorphApplied p (fun _ => id) w (w.setSlot p m) :=
  ⟨rfl, fun _ _ => rfl, fun _ hq => ⟨State.slotOf_setSlot_ne hq _ _, fun _ => rfl⟩, fun _ => tells_id,
    fun _ => State.setSlot_link ..⟩

theorem applyMorph_of_idle (h : w.slotOf p = none) (es : List (ParamId × Nat)) : w.applyMorph p l time curve es =
    w.setSlot p (some { origin := l, entries := es.map (w.newEntry p), total := time, elapsed := 0, curve, taken := 0 }) := by
  simp only [State.applyMorph, h]

/-- APPLY_SUPERSEDED (R79). -/
def supersededNotice (p : PartId) (l : Link) (entries : Nat) (stamp : Stamp) : Notice :=
  { kind := .applySuperseded, subject := p, value1 := entries, value2 := linkCode l, stamp }

theorem applyMorph_of_running {m : Morph} (h : w.slotOf p = some m) (es : List (ParamId × Nat)) :
    w.applyMorph p l time curve es =
      (w.postWhere (· == m.origin) .applySuperseded p (w.retargetEntries p es m.entries).length (linkCode l)).setSlot p
        (some { origin := l, entries := w.retargetEntries p es m.entries, total := time, elapsed := 0, curve
                taken := m.taken }) := by
  simp only [State.applyMorph, h]

theorem morphApplied_retarget (w : State) (p : PartId) (origin l : Link) (n : Nat) (m : Option Morph) :
    MorphApplied p (fun who u => u.told (who == origin) (supersededNotice p l n w.timestamp)) w
      ((w.postWhere (· == origin) .applySuperseded p n (linkCode l)).setSlot p m) := by
  have hframe := sameButLinks_postWhere (· == origin) .applySuperseded p n (linkCode l) w
  have hlink := State.link_postWhere (· == origin) .applySuperseded p n (linkCode l)
  have hlinkw (who : Link) := hlink who w
  generalize w.postWhere (· == origin) .applySuperseded p n (linkCode l) = v at *
  have hparam := param_of_params hframe.params
  refine ⟨?_, fun i _ => hparam p i, fun q hq => ⟨?_, hparam q⟩, fun who => tells_toldOnly _ _, fun who => ?_⟩
  · unfold SameButLinks at hframe
    rw [hframe]
    rfl
  · rw [State.slotOf_setSlot_ne hq, State.slotOf, hframe.slots]
    rfl
  · rw [State.setSlot_link]
    exact hlinkw who

end

/-! ### Time 0 (R71, R82) -/

/-- A slot after a parameter left its morph (R82). -/
def Morph.without (m : Morph) (i : ParamId) : Morph :=
  if m.entries.any fun e => e.index == i then
    { m with entries := m.entries.filter fun e => e.index != i, taken := min 255 (m.taken + 1) }
  else m

theorem slotWithout_eq (s : State) (p : PartId) (i : ParamId) :
    Given.slotWithout s p i = (s.slotOf p).map fun m => m.without i := by
  unfold Given.slotWithout Given.entryOf Morph.without
  cases s.slotOf p with
  | none => rfl
  | some m => simp only [Option.map_some, Option.bind_some, List.find?_isSome, List.any_eq_true]

/-- A slot after several parameters left its morph, each counted (R82). -/
theorem foldl_without {es : List (ParamId × Nat)} (hnodup : (es.map Prod.fst).Nodup) {m : Morph} (htaken : m.taken ≤ 255) :
    es.foldl (fun m e => m.without e.1) m = { m with
      entries := m.entries.filter fun e => (valueIn es e.index).isNone
      taken := min 255 (m.taken + es.countP fun e => m.entries.any fun x => x.index == e.1) } := by
  induction es generalizing m with
  | nil =>
    have hmin : min 255 m.taken = m.taken := by omega
    simp [valueIn, hmin]
  | cons e es ih =>
    obtain ⟨he, hes⟩ := List.nodup_cons.mp hnodup
    have hothers (x : ParamId × Nat) (hx : x ∈ es) : x.1 ≠ e.1 := fun h => he (List.mem_map.mpr ⟨x, hx, h⟩)
    have hentries : (m.without e.1).entries = m.entries.filter fun x => x.index != e.1 := by
      unfold Morph.without
      split
      · rfl
      · next hnone =>
        refine (List.filter_eq_self.mpr fun x hx => ?_).symm
        by_contra hne
        exact hnone (List.any_eq_true.mpr ⟨x, hx, by simpa using hne⟩)
    have hcount : es.countP (fun x => (m.without e.1).entries.any fun y => y.index == x.1) =
        es.countP fun x => m.entries.any fun y => y.index == x.1 := by
      refine List.countP_congr fun x hx => ?_
      rw [hentries, List.any_filter]
      have hsame : (m.entries.any fun y => y.index != e.1 && y.index == x.1) = m.entries.any fun y => y.index == x.1 := by
        refine List.any_congr rfl fun y => ?_
        by_cases hy : y.index = x.1
        · simp [hy, hothers x hx]
        · simp [hy]
      rw [hsame]
    have hfilter : (m.without e.1).entries.filter (fun x => (valueIn es x.index).isNone) =
        m.entries.filter fun x => (valueIn (e :: es) x.index).isNone := by
      rw [hentries, List.filter_filter]
      refine List.filter_congr fun x _ => ?_
      rw [valueIn_cons]
      by_cases hx : e.1 = x.index
      · simp [hx]
      · simp [hx, Ne.symm hx]
    have htaken' : (m.without e.1).taken ≤ 255 := by
      unfold Morph.without
      split
      · exact Nat.min_le_left _ _
      · exact htaken
    rw [List.foldl_cons, ih hes htaken', hcount, hfilter, List.countP_cons]
    unfold Morph.without
    split
    · next hany =>
      have hmin (n : Nat) : min 255 (min 255 (m.taken + 1) + n) = min 255 (m.taken + (n + 1)) := by omega
      simp only [hmin]
    · next hany => simp only [Nat.add_zero]

/-- What writing several values at once leaves: each is taken out of a running morph. -/
theorem applyNow_effect (p : PartId) {es : List (ParamId × Nat)} (hnodup : (es.map Prod.fst).Nodup) (w : State) :
    w.applyNow p es = { w with params := (w.setParams p es).params, slots := (w.applyNow p es).slots }
      ∧ (w.applyNow p es).slotOf p = (w.slotOf p).map (fun m => es.foldl (fun m e => m.without e.1) m)
      ∧ ∀ q, q ≠ p → (w.applyNow p es).slotOf q = w.slotOf q := by
  induction es generalizing w with
  | nil => exact ⟨rfl, Option.map_id'.symm, fun _ _ => rfl⟩
  | cons e es ih =>
    obtain ⟨x, hx⟩ : ∃ x, x = (w.setParam p e.1 e.2).takeAway p e.1 := ⟨_, rfl⟩
    have hframe : x = { w.setParam p e.1 e.2 with slots := x.slots } := hx ▸ sameButSlots_takeAway p e.1 _
    have hslot (q : PartId) : x.slotOf q = if q = p then Given.slotWithout w p e.1 else w.slotOf q :=
      hx ▸ slotOf_takeAway (w.setParam p e.1 e.2) p e.1 q
    obtain ⟨ihframe, ihself, ihothers⟩ := ih (List.nodup_cons.mp hnodup).2 x
    have hstep : w.applyNow p (e :: es) = x.applyNow p es := by rw [hx]; rfl
    have hparams : (x.setParams p es).params = (w.setParams p (e :: es)).params := by
      refine params_ext fun q i => ?_
      rw [param_setParams (List.nodup_cons.mp hnodup).2, hframe]
      exact (param_setParams (List.nodup_cons.mp hnodup).2 p (w.setParam p e.1 e.2) q i).symm
    rw [hstep]
    refine ⟨?_, ?_, fun q hq => ?_⟩
    · rw [hparams] at ihframe
      rw [ihframe, hframe]
      rfl
    · rw [ihself, hslot, if_pos rfl, slotWithout_eq, Option.map_map]
      rfl
    · rw [ihothers q hq, hslot, if_neg hq]

section
variable {w : State} {p : PartId} {l : Link} {curve : Curve} {es : List (ParamId × Nat)}

/-- The chain ends exactly when an entry of it was taken away and none is left. -/
theorem endEmptyChain_of_taken (hnodup : (es.map Prod.fst).Nodup)
    (hslot : ∀ m ∈ w.slotOf p, m.taken ≤ 255 ∧ m.entries ≠ []) {x : State}
    (hx : (if es.any fun e => w.isMorphing p e.1 then (w.applyNow p es).endEmptyChain p else w.applyNow p es) = x) :
    x = { w with params := (w.setParams p es).params, slots := x.slots, linkA := x.linkA, linkB := x.linkB }
      ∧ x.slotOf p = ((w.applyNow p es).slotOf p).filter (fun m => decide (m.entries ≠ []))
      ∧ (∀ q, q ≠ p → x.slotOf q = w.slotOf q)
      ∧ ∀ m, x.link m = chainTold p ((w.applyNow p es).slotOf p) w.timestamp m (w.link m) := by
  obtain ⟨hframe, hself, hothers⟩ := applyNow_effect p hnodup w
  have hlink (m : Link) : (w.applyNow p es).link m = w.link m := by
    rw [hframe]
    cases m <;> rfl
  have hstamp : (w.applyNow p es).timestamp = w.timestamp := by rw [hframe]
  by_cases htaken : (es.any fun e => w.isMorphing p e.1) = true
  · rw [if_pos htaken] at hx
    obtain ⟨hend, hendslot, hendlink⟩ := endEmptyChain_effect (w.applyNow p es) p
    rw [hx] at hend hendslot hendlink
    refine ⟨?_, ?_, fun q hq => ?_, fun m => ?_⟩
    · generalize w.applyNow p es = y at *
      rw [hend, hframe]
    · rw [hendslot, if_pos rfl]
    · rw [hendslot, if_neg hq, hothers q hq]
    · rw [hendlink, hstamp, hlink]
  · rw [if_neg htaken] at hx
    have hkept : (w.applyNow p es).slotOf p = w.slotOf p := by
      rw [hself]
      cases hm : w.slotOf p with
      | none => rfl
      | some m =>
        have hnone (e : ParamId × Nat) (he : e ∈ es) : (m.entries.any fun x => x.index == e.1) = false := by
          have hnot : w.isMorphing p e.1 ≠ true := fun h => htaken (List.any_eq_true.mpr ⟨e, he, h⟩)
          unfold State.isMorphing at hnot
          rw [hm] at hnot
          simpa using hnot
        have hfold (fs : List (ParamId × Nat)) (hfs : ∀ e ∈ fs, e ∈ es) : fs.foldl (fun m e => m.without e.1) m = m := by
          induction fs with
          | nil => rfl
          | cons f fs ih =>
            have hstay : m.without f.1 = m := by
              rw [Morph.without, hnone f (hfs f List.mem_cons_self), if_neg Bool.false_ne_true]
            rw [List.foldl_cons, hstay]
            exact ih fun e he => hfs e (List.mem_cons_of_mem f he)
        rw [Option.map_some, hfold es fun _ h => h]
    rw [← hx, hkept]
    refine ⟨?_, ?_, hothers, fun m => ?_⟩
    · generalize w.applyNow p es = y at *
      rw [hframe]
    · cases hm : w.slotOf p with
      | none => rfl
      | some m => rw [Option.filter_some, if_pos (by simpa using (hslot m hm).2)]
    · rw [hlink]
      cases hm : w.slotOf p with
      | none => rfl
      | some m =>
        have hfull : m.entries.isEmpty = false := by simpa using (hslot m hm).2
        rw [chainTold, hfull, Bool.false_and]
        rfl

/-- An APPLY with time 0. -/
theorem morphApplied_now {st : Vector (Option Nat) 40} (h : morphEntriesOf st ≠ [])
    (hslot : ∀ m ∈ w.slotOf p, m.taken ≤ 255 ∧ m.entries ≠ []) (n : Nat) (hn : (presentEntries st).length = n) :
    ∃ v, w.morphApplied p l 0 curve (presentEntries st) = v
      ∧ MorphApplied p (fun m u => (chainTold p ((w.applyNow p (morphEntriesOf st)).slotOf p) w.timestamp m u).told
          (m == l || (chainTold p ((w.applyNow p (morphEntriesOf st)).slotOf p) w.timestamp m u).queue.mask.getLsbD 1)
          (appliedNotice p l n 0 w.timestamp)) w v
      ∧ v.params = (w.setParams p (morphEntriesOf st)).params
      ∧ v.slotOf p = ((w.applyNow p (morphEntriesOf st)).slotOf p).filter (fun m => decide (m.entries ≠ [])) := by
  obtain ⟨x, hx⟩ : ∃ x, (if (morphEntriesOf st).any fun e => w.isMorphing p e.1 then
    (w.applyNow p (morphEntriesOf st)).endEmptyChain p else w.applyNow p (morphEntriesOf st)) = x := ⟨_, rfl⟩
  obtain ⟨hframe, hself, hothers, hlink⟩ := endEmptyChain_of_taken (nodup_morphEntriesOf st) hslot hx
  have happlied : w.morphApplied p l 0 curve (presentEntries st) = x.postApplied p l n 0 := by
    rw [← hx, ← hn]
    unfold State.morphApplied
    dsimp only
    rw [if_neg (by exact h), if_pos rfl]
    rfl
  have hpost := sameButLinks_postApplied (p := p) (l := l) x n 0
  have hpostlink := link_postApplied (p := p) (l := l) x n 0
  have hstamp : x.timestamp = w.timestamp := by rw [hframe]
  have hparams : x.params = (w.setParams p (morphEntriesOf st)).params := by rw [hframe]
  rw [happlied]
  generalize x.postApplied p l n 0 = v at *
  have hvparam := param_of_params (hpost.params.trans hparams)
  have hvslot (q : PartId) : v.slotOf q = x.slotOf q := by rw [State.slotOf, State.slotOf, hpost.slots]
  refine ⟨v, rfl, ⟨?_, fun i hi => ?_, fun q hq => ⟨(hvslot q).trans (hothers q hq), fun i => ?_⟩,
    fun m => Tells.comp (tells_told _ _ _) (tells_chainTold _ _ _ _), fun m => ?_⟩, hpost.params.trans hparams,
    (hvslot p).trans hself⟩
  · unfold SameButLinks at hpost
    rw [hpost, hframe]
  · rw [hvparam, param_setParams (nodup_morphEntriesOf st), if_pos rfl]
    have hnone : valueIn (morphEntriesOf st) i = none := by
      rw [morphEntriesOf, valueIn_entriesOf, isStruct_iff.mpr hi]
      rfl
    rw [hnone]
    rfl
  · rw [hvparam, param_setParams (nodup_morphEntriesOf st), if_neg hq]
  · rw [hpostlink, hlink, hstamp]

end

end Sys2Proof.Machine
end

section
/-! PROOFS. APPLY on an IDLE slot and on a running morph, and PARAM_SET under one (R69 to R73, R79, R82, R85). -/

namespace Sys2Proof.Machine

/-! ### The state that the CONT and STEP entries act on -/

section
variable (s : State) (l : Link) (p : PartId) (payload : List Byte)

theorem param_applyingMorph (q : PartId) (i : ParamId) : (s.applyingMorph l p payload).param q i =
    if q = p ∧ (descriptor i).cls = .struct then ((s.link l).staging[i]).getD (s.param q i) else s.param q i :=
  param_structApplied q i

theorem slots_applyingMorph : (s.applyingMorph l p payload).slots = s.slots := by cases l <;> rfl

theorem slotOf_applyingMorph (q : PartId) : (s.applyingMorph l p payload).slotOf q = s.slotOf q := by cases l <;> rfl

theorem timestamp_applyingMorph : (s.applyingMorph l p payload).timestamp = s.timestamp := by
  have hset := sameButParams_setParams p (entriesOf isStruct (s.link l).staging) s
  refine (sameButNotes_applyStruct p (entriesOf isStruct (s.link l).staging) s).timestamp.trans ?_
  unfold SameButParams at hset
  rw [hset]

end

theorem param_applyingMorph_of_kept {s : State} {l : Link} {p : PartId} {i : ParamId} {payload : List Byte}
    (h : (descriptor i).cls ≠ .struct ∨ (s.link l).staging[i] = none) :
    (s.applyingMorph l p payload).param p i = s.param p i := by
  rw [param_applyingMorph]
  split
  · next hi =>
    rw [h.resolve_left fun hn => hn hi.2]
    rfl
  · rfl

theorem cls_of_morphStaged {s : State} {l : Link} {i : ParamId} {x : Nat} (h : Given.morphStaged s l i = some x) :
    (descriptor i).cls ≠ .struct := fun hi => by
  rw [Given.morphStaged, if_pos hi] at h
  cases h

theorem time_ne_zero {time : Nat} (h : 1 ≤ time) : min 20000 time ≠ 0 := by omega

/-- Settles O29. -/
theorem applyStartsMorphChain : Obligations.ApplyStartsMorphChain := by
  unfold Obligations.ApplyStartsMorphChain
  rintro s l p time curve ⟨⟨hready, hstaged⟩, hslot, hpos, htime⟩ entries counts
  obtain ⟨w, hw⟩ : ∃ w, s.applyingMorph l p (applyPayload p time curve) = w := ⟨_, rfl⟩
  have hmorph : w.morphApplied p l (min 20000 time) curve (presentEntries (s.link l).staging) = _ :=
    (morphApplied_of_chain (morphEntriesOf_ne_nil hstaged) (time_ne_zero hpos)).trans
      (applyMorph_of_idle (by rw [← hw, slotOf_applyingMorph]; exact hslot) _)
  obtain ⟨t, hexec, happlied, hparams, hslots, hown, hother⟩ := exec_apply hready htime curve hw hmorph
    (morphApplied_setSlot w p _)
  have hentries : (morphEntriesOf (s.link l).staging).map (w.newEntry p) = entries := by
    refine (map_morphEntriesOf fun i x => w.newEntry p (i, x)).trans (List.filterMap_congr fun i _ => ?_)
    refine Option.map_congr fun x hx => ?_
    have hkept : w.param p i = s.param p i := hw ▸ param_applyingMorph_of_kept (.inl (cls_of_morphStaged hx))
    simp only [State.newEntry, hkept]
  refine ⟨t, hexec, happlied, fun i hi => ?_, ?_, ?_, hother⟩
  · rw [param_of_params hparams, State.setSlot_param, ← hw]
    exact param_applyingMorph_of_kept hi
  · rw [State.slotOf, hslots, hentries]
    exact State.slotOf_setSlot_self ..
  · rw [State.slotOf_setSlot_self] at hown
    exact hown

/-! ### PARAM_SET under a running morph (R82) -/

theorem chainTold_some (p : PartId) (m : Morph) (stamp : Stamp) (l : Link) (u : LinkUnit) :
    chainTold p (some m) stamp l u = if m.entries = [] then
      u.told (l == m.origin || u.queue.mask.getLsbD 1) (appliedNotice p m.origin 0 m.taken stamp) else u := by
  have hmatch : chainTold p (some m) stamp l u = u.told (m.entries.isEmpty && (l == m.origin || u.queue.mask.getLsbD 1))
    (appliedNotice p m.origin 0 m.taken stamp) := rfl
  rw [hmatch]
  by_cases h : m.entries = []
  · rw [if_pos h, h, List.isEmpty_nil, Bool.true_and]
  · rw [if_neg h, show m.entries.isEmpty = false by simpa using h, Bool.false_and]
    rfl

theorem filter_slot (m : Morph) : (some m).filter (fun m => decide (m.entries ≠ [])) =
    if m.entries = [] then none else some m := by
  rw [Option.filter_some]
  by_cases h : m.entries = [] <;> simp [h]

/-- A PARAM_SET of a parameter under a running morph takes its entry out, counts it, and ends the chain with it. -/
theorem exec_paramSet_morphing {s : State} {l : Link} {p : PartId} {i : ParamId} {m : Morph}
    (h : Given.morphingParam s l p i m) {x : Nat} (hx : x < 65536) {left : Morph}
    (hleft : left = { m with entries := m.entries.filter fun e => e.index != i, taken := min 255 (m.taken + 1) }) :
    ∃ t, exec (.paramSet l ([byte p, byte i] ++ field16 x)) s = .next t
      ∧ t = { s with params := t.params, slots := t.slots, knobs := t.knobs, linkA := t.linkA, linkB := t.linkB }
      ∧ t.param p i = Given.clamped i x ∧ (∀ q j, ¬(q = p ∧ j = i) → t.param q j = s.param q j)
      ∧ t.slotOf p = (if left.entries = [] then none else some left)
      ∧ (∀ q, q ≠ p → t.slotOf q = s.slotOf q)
      ∧ (∀ k, t.knob k = (s.knob k).map (Given.told p (Given.only i (Given.clamped i x)) (Given.reportedAt s k)))
      ∧ t.link l = chainTold p (some left) s.timestamp l ((s.link l).took 6 (okReply 0x10 (Given.clamped i x != x) false
          ([byte p, byte i] ++ field16 (Given.clamped i x))))
      ∧ t.link l.other = (chainTold p (some left) s.timestamp l.other (s.link l.other)).told
          ((s.link l.other).queue.mask.getLsbD 1)
          { kind := .paramChanged, subject := p, value1 := 256 * linkCode l + i, value2 := Given.clamped i x
            stamp := s.timestamp } := by
  obtain ⟨hready, hcls, hslot, e, he, hindex⟩ := h
  have hclamp : clampParam i x = Given.clamped i x := rfl
  have hwork : Request.paramSet.service l ([byte p, byte i] ++ field16 x) (s.framed l ([byte p, byte i] ++ field16 x)) = _ :=
    paramSetService_byte l p i hx _
  rw [hclamp, le16_eq_field16 (by rw [← hclamp]; exact clampParam_lt x)] at hwork
  generalize Given.clamped i x = y at *
  have hexec := exec_request_of_running hready (r := .paramSet) (by decide) ([byte p, byte i] ++ field16 x)
  rw [hwork] at hexec
  obtain ⟨f, hf⟩ : ∃ f, f = s.framed l ([byte p, byte i] ++ field16 x) := ⟨_, rfl⟩
  have hwritten := written_writeParam (.link l) p i y f
  rw [← hf] at hexec
  obtain ⟨u, hu⟩ : ∃ u, u = f.writeParam (.link l) p i y := ⟨_, rfl⟩
  rw [← hu] at hexec hwritten
  obtain ⟨hframe, huslot, huothers, huknob, hulink⟩ := hwritten
  have hset : f.imageWritten p i y = f.setParam p i y := if_neg (by rw [isStruct_eq_false hcls]; exact Bool.false_ne_true)
  have hfslot (q : PartId) : f.slotOf q = s.slotOf q := hf ▸ State.slotOf_framed s l _ q
  have hfknob (k : ControlId) : f.knob k = s.knob k ∧ Given.reportedAt f k = Given.reportedAt s k := by
    rw [hf]
    cases l <;> exact ⟨rfl, rfl⟩
  have hfimage : SameButImage s f := hf ▸ sameButImage_framed s l _
  have hany : (m.entries.any fun e => e.index == i) = true := List.any_eq_true.mpr ⟨e, he, by simpa using hindex⟩
  have hentry : (Given.entryOf f p i).isSome = true := by
    rw [← isMorphing_eq]
    unfold State.isMorphing
    rw [hfslot, hslot]
    exact hany
  have hwithout : Given.slotWithout f p i = some left := by
    rw [slotWithout_eq, hfslot, hslot, Option.map_some, Morph.without, if_pos hany, hleft]
  have hparams : u.params = (f.setParam p i y).params := by rw [hframe, hset]
  have hfparam (q : PartId) (j : ParamId) : f.param q j = s.param q j := hf ▸ State.param_framed s l _ q j
  rw [hwithout, if_pos hentry, filter_slot] at huslot
  simp only [hwithout, if_pos hentry, hfimage.timestamp] at hulink
  have hflink : f.link l = { s.link l with shifted := fillers 6 } ∧ f.link l.other = s.link l.other := by
    rw [hf]
    cases l <;> exact ⟨rfl, rfl⟩
  refine ⟨_, hexec, ?_, ?_, fun q j hne => ?_, ?_, fun q hq => ?_, fun k => ?_, ?_, ?_⟩
  · have himage : SameButImage f u := by
      rw [hset] at hframe
      exact hframe.trans (by rw [hparams]; rfl)
    exact (hfimage.trans himage).trans (sameButLinks_setLink l _ u).image
  · rw [State.setLink_param, param_of_params hparams, State.param_setParam_self]
  · rw [State.setLink_param, param_of_params hparams, State.param_setParam_ne hne, hfparam]
  · rw [State.setLink_slotOf, huslot]
  · rw [State.setLink_slotOf, huothers q hq, hfslot]
  · rw [State.setLink_knob, huknob, (hfknob k).1, (hfknob k).2]
  · rw [State.link_setLink_self, hulink, (told_other l).1, Bool.and_false, hflink.1]
    exact (tells_chainTold p (some left) s.timestamp l).setting _ rfl
  · rw [State.link_other_setLink, hulink, (told_other l).2, Bool.and_true, hflink.2]
    rfl

/-! ### The other cases of APPLY (R70, R71, R79) -/

/-- A link that hears APPLIED (R85). -/
def LinkUnit.hearsApplied (p : PartId) (origin : Link) (entries taken : Nat) (stamp : Stamp) (who : Link) (u : LinkUnit) :
    LinkUnit :=
  u.told (who == origin || u.queue.mask.getLsbD 1) (appliedNotice p origin entries taken stamp)

/-- A link that took an APPLY. -/
def LinkUnit.tookApply (p : PartId) (time : Nat) (counts : List Byte) (u : LinkUnit) : LinkUnit :=
  { u.took 6 (okReply 0x14 (decide (20000 < time)) false ([byte p] ++ field16 (min 20000 time) ++ counts)) with
    staging := Vector.replicate 40 none }

section
variable {s : State} {l : Link} {p : PartId} {time : Nat}

/-- An APPLY without CONT and STEP entries. -/
theorem exec_apply_struct (hready : s.ready l) (hnone : ∀ i, Given.morphStaged s l i = none) (htime : time < 65536)
    (curve : Curve) : ∃ t, exec (.apply l (applyPayload p time curve)) s = .next t ∧ Given.applied s t l p
      ∧ (∀ i, (s.link l).staging[i] = none → t.param p i = s.param p i) ∧ t.slots = s.slots
      ∧ t.link l = (LinkUnit.tookApply p time [byte (Given.stagedCounts s l).1, byte (Given.stagedCounts s l).2,
          byte (bit (s.slotOf p).isSome)] (s.link l)).hearsApplied p l (Given.stagedCounts s l).2 0 s.timestamp l
      ∧ t.link l.other = (s.link l.other).hearsApplied p l (Given.stagedCounts s l).2 0 s.timestamp l.other := by
  obtain ⟨w, hw⟩ : ∃ w, s.applyingMorph l p (applyPayload p time curve) = w := ⟨_, rfl⟩
  have hcount : (entriesOf isStruct (s.link l).staging).length = (Given.stagedCounts s l).2 := by rw [stagedCounts_eq]
  have hmorph := morphApplied_of_struct (w := w) (p := p) (l := l) (time := min 20000 time) (curve := curve)
    (morphEntriesOf_eq_nil hnone)
  rw [hcount] at hmorph
  obtain ⟨t, hexec, happlied, hparams, hslots, hown, hother⟩ := exec_apply hready htime curve hw hmorph
    (morphApplied_struct (Given.stagedCounts s l).2)
  have hlinks := sameButLinks_postApplied (p := p) (l := l) w (Given.stagedCounts s l).2 0
  have hwslots : w.slots = s.slots := hw ▸ slots_applyingMorph s l p _
  have hstamp : w.timestamp = s.timestamp := hw ▸ timestamp_applyingMorph s l p _
  have hslot : (w.postApplied p l (Given.stagedCounts s l).2 0).slotOf p = s.slotOf p := by
    rw [State.slotOf, hlinks.slots, hwslots]
    rfl
  rw [hstamp, hslot] at hown
  rw [hstamp] at hother
  refine ⟨t, hexec, happlied, fun i hi => ?_, hslots.trans (hlinks.slots.trans hwslots), hown, hother⟩
  rw [param_of_params (hparams.trans hlinks.params), ← hw]
  exact param_applyingMorph_of_kept (.inr hi)

theorem told_none (p : PartId) (pos : Nat) : Given.told p (fun _ => none) pos = id := rfl

theorem knobs_ext {s t : State} (h : ∀ k, t.knob k = s.knob k) : t.knobs = s.knobs :=
  Vector.ext fun k hk => h ⟨k, hk⟩

/-- An APPLY of nothing. -/
theorem exec_apply_nothing (h : Given.stagesNothing s l) (htime : time < 65536) (curve : Curve) :
    ∃ t, exec (.apply l (applyPayload p time curve)) s = .next t ∧ SameButLinks s t
      ∧ t.link l = (LinkUnit.tookApply p time [0x00#8, 0x00#8, byte (bit (s.slotOf p).isSome)] (s.link l)).hearsApplied p l 0 0
          s.timestamp l
      ∧ t.link l.other = (s.link l.other).hearsApplied p l 0 0 s.timestamp l.other := by
  obtain ⟨hready, hnone⟩ := h
  have hmorph (i : ParamId) : Given.morphStaged s l i = none := by
    unfold Given.morphStaged
    split
    · rfl
    · exact hnone i
  have hcounts : Given.stagedCounts s l = (0, 0) := by
    unfold Given.stagedCounts
    simp only [hnone, Option.isSome_none, Bool.false_and, List.countP_false, Function.const_apply]
  obtain ⟨t, hexec, ⟨hframe, ⟨-, hsame, -⟩, hothers, hknob⟩, hparam, hslots, hown, hother⟩ :=
    exec_apply_struct (p := p) hready hmorph htime curve
  rw [hcounts] at hown hother
  obtain ⟨hvoices, hserial, hdeferred, hperf, hglides, hrun, hmeasurement, hcandidate, hfsel⟩ :=
    hsame fun i y hi => absurd hi.1 (by rw [hnone]; nofun)
  have hparams : t.params = s.params := params_ext fun q i => by
    by_cases hq : q = p
    · rw [hq]
      exact hparam i (hnone i)
    · exact (hothers q hq).2 i
  have hknobs : t.knobs = s.knobs := knobs_ext fun k => by
    rw [hknob, show (fun i : ParamId => (s.link l).staging[i]) = fun _ => none from funext hnone, told_none,
      Option.map_id]
    rfl
  refine ⟨t, hexec, ?_, hown, hother⟩
  rw [hvoices, hserial, hdeferred, hperf, hglides, hrun, hmeasurement, hcandidate, hfsel, hparams, hslots, hknobs] at hframe
  exact hframe

/-- The slot of part p after an APPLY with time 0 took its entries out. -/
def State.slotNow (s : State) (l : Link) (p : PartId) : Option Morph :=
  (s.slotOf p).map fun m => { m with
    entries := m.entries.filter fun e => (Given.morphStaged s l e.index).isNone
    taken := min 255 (m.taken + (List.finRange 40).countP fun i =>
      (Given.morphStaged s l i).isSome && m.entries.any fun e => e.index == i) }

/-- An APPLY with time 0. -/
theorem exec_apply_now (h : Given.stagesMorph s l) (hslot : ∀ m ∈ s.slotOf p, m.taken ≤ 255 ∧ m.entries ≠ []) (curve : Curve) :
    ∃ t, exec (.apply l (applyPayload p 0 curve)) s = .next t ∧ Given.applied s t l p
      ∧ (∀ i, t.param p i = ((s.link l).staging[i]).getD (s.param p i))
      ∧ t.slotOf p = (s.slotNow l p).filter (fun m => decide (m.entries ≠ []))
      ∧ t.link l = (chainTold p (s.slotNow l p) s.timestamp l (LinkUnit.tookApply p 0
          [byte (Given.stagedCounts s l).1, byte (Given.stagedCounts s l).2,
            byte (bit ((s.slotNow l p).filter (fun m => decide (m.entries ≠ []))).isSome)] (s.link l))).hearsApplied
          p l (Given.stagedCounts s l).1 0 s.timestamp l
      ∧ t.link l.other = (chainTold p (s.slotNow l p) s.timestamp l.other (s.link l.other)).hearsApplied p l
          (Given.stagedCounts s l).1 0 s.timestamp l.other := by
  obtain ⟨hready, hstaged⟩ := h
  obtain ⟨w, hw⟩ : ∃ w, s.applyingMorph l p (applyPayload p 0 curve) = w := ⟨_, rfl⟩
  have hwslot : w.slotOf p = s.slotOf p := hw ▸ slotOf_applyingMorph s l p _ p
  have hstamp : w.timestamp = s.timestamp := hw ▸ timestamp_applyingMorph s l p _
  obtain ⟨v, hmorph, happ, hvparams, hvslot⟩ := morphApplied_now (w := w) (p := p) (l := l) (curve := curve)
    (morphEntriesOf_ne_nil hstaged) (by rw [hwslot]; exact hslot) (Given.stagedCounts s l).1 (by rw [stagedCounts_eq])
  obtain ⟨t, hexec, happlied, hparams, hslots, hown, hother⟩ := exec_apply hready (by decide) curve hw hmorph happ
  have hnow : (w.applyNow p (morphEntriesOf (s.link l).staging)).slotOf p = s.slotNow l p := by
    obtain ⟨-, hself, -⟩ := applyNow_effect p (nodup_morphEntriesOf (s.link l).staging) w
    rw [hself, hwslot, State.slotNow]
    refine Option.map_congr fun m hm => ?_
    rw [foldl_without (nodup_morphEntriesOf _) (hslot m hm).1, countP_morphEntriesOf fun i => m.entries.any fun x => x.index == i]
    simp only [valueIn_morphEntriesOf]
  rw [hnow] at hvslot
  rw [hnow, hstamp, hvslot] at hown
  rw [hnow, hstamp] at hother
  refine ⟨t, hexec, happlied, fun i => ?_, ?_, hown, hother⟩
  · rw [param_of_params (hparams.trans hvparams), param_setParams (nodup_morphEntriesOf _), if_pos rfl, valueIn_morphEntriesOf,
      ← hw, param_applyingMorph, Given.morphStaged]
    by_cases hi : (descriptor i).cls = .struct
    · rw [if_pos hi, if_pos ⟨rfl, hi⟩]
      rfl
    · rw [if_neg hi, if_neg fun h => hi h.2]
  · rw [State.slotOf, hslots]
    exact hvslot

/-- The entry of parameter i after a retarget of a running morph (R79). -/
def State.retargeted (s : State) (l : Link) (p : PartId) (m : Morph) (i : ParamId) : Option MorphEntry :=
  (m.entries.find? fun e => e.index == i).elim
    ((Given.morphStaged s l i).map fun x =>
      { index := i, start := s.param p i, target := x, prior := s.param p i, switched := false })
    fun e => some { e with start := s.param p i, target := (Given.morphStaged s l i).getD e.target, switched := false }

theorem retargetEntries_eq {m : Morph} (hcls : ∀ e ∈ m.entries, (descriptor e.index).cls ≠ .struct) {w : State}
    (hw : ∀ i, (descriptor i).cls ≠ .struct → w.param p i = s.param p i) :
    w.retargetEntries p (morphEntriesOf (s.link l).staging) m.entries = (List.finRange 40).filterMap (s.retargeted l p m) := by
  unfold State.retargetEntries
  refine List.filterMap_congr fun i _ => ?_
  unfold State.retargeted
  cases hfind : m.entries.find? fun e => e.index == i with
  | some e =>
    have hindex : e.index = i := by simpa using List.find?_some hfind
    have hstart : w.param p e.index = s.param p i := by rw [hw e.index (hcls e (List.mem_of_find?_eq_some hfind)), hindex]
    have htarget : (((morphEntriesOf (s.link l).staging).find? fun x => x.1 == e.index).map Prod.snd) =
        Given.morphStaged s l i := hindex ▸ valueIn_morphEntriesOf s l e.index
    dsimp only [Option.elim_some]
    rw [State.rebase, hstart, htarget]
  | none =>
    have hvalue := valueIn_morphEntriesOf s l i
    unfold valueIn at hvalue
    dsimp only [Option.elim_none]
    cases hstaged : (morphEntriesOf (s.link l).staging).find? fun x => x.1 == i with
    | none =>
      rw [hstaged] at hvalue
      rw [← hvalue]
      rfl
    | some x =>
      rw [hstaged] at hvalue
      have hindex : x.1 = i := by simpa using List.find?_some hstaged
      have hkept := hw i (cls_of_morphStaged hvalue.symm)
      rw [← hvalue, Option.map_some, State.newEntry, hindex, hkept]
      rfl

/-- An APPLY with a time over a running morph. -/
theorem exec_apply_retarget {m : Morph} (h : Given.retargets s l p time m) (curve : Curve) {entries : List MorphEntry}
    (hentries : entries = (List.finRange 40).filterMap (s.retargeted l p m)) :
    ∃ t, exec (.apply l (applyPayload p time curve)) s = .next t ∧ Given.applied s t l p
      ∧ (∀ i, (descriptor i).cls ≠ .struct ∨ (s.link l).staging[i] = none → t.param p i = s.param p i)
      ∧ t.slotOf p = some { origin := l, entries, total := min 20000 time, elapsed := 0, curve, taken := m.taken }
      ∧ t.link l = (LinkUnit.tookApply p time [byte (Given.stagedCounts s l).1, byte (Given.stagedCounts s l).2, 0x01#8]
          (s.link l)).told (l == m.origin) (supersededNotice p l entries.length s.timestamp)
      ∧ t.link l.other = (s.link l.other).told (l.other == m.origin) (supersededNotice p l entries.length s.timestamp) := by
  obtain ⟨⟨hready, hstaged⟩, hslot, hcls, hpos, htime⟩ := h
  obtain ⟨w, hw⟩ : ∃ w, s.applyingMorph l p (applyPayload p time curve) = w := ⟨_, rfl⟩
  have hkept (i : ParamId) (hi : (descriptor i).cls ≠ .struct ∨ (s.link l).staging[i] = none) :
      w.param p i = s.param p i := hw ▸ param_applyingMorph_of_kept hi
  have hmorph : w.morphApplied p l (min 20000 time) curve (presentEntries (s.link l).staging) = _ :=
    (morphApplied_of_chain (morphEntriesOf_ne_nil hstaged) (time_ne_zero hpos)).trans
      (applyMorph_of_running (by rw [← hw, slotOf_applyingMorph]; exact hslot) _)
  rw [retargetEntries_eq hcls fun i hi => hkept i (.inl hi), ← hentries] at hmorph
  have hstamp : w.timestamp = s.timestamp := hw ▸ timestamp_applyingMorph s l p _
  obtain ⟨t, hexec, happlied, hparams, hslots, hown, hother⟩ := exec_apply hready htime curve hw hmorph
    (morphApplied_retarget w p m.origin l entries.length _)
  rw [State.slotOf_setSlot_self, hstamp] at hown
  rw [hstamp] at hother
  refine ⟨t, hexec, happlied, fun i hi => ?_, ?_, hown, hother⟩
  · rw [param_of_params hparams, State.setSlot_param, State.postWhere_param]
    exact hkept i hi
  · rw [State.slotOf, hslots]
    exact State.slotOf_setSlot_self ..

end

/-- Settles O32: PARAM_SET under a morph, and APPLY of nothing, of structural entries alone, with time 0, and over a
running morph. -/
theorem appliesActOnRunningMorphs : Obligations.AppliesActOnRunningMorphs := by
  unfold Obligations.AppliesActOnRunningMorphs
  intro s l p
  dsimp only
  refine ⟨fun i x m h hx => ?_, fun time curve h htime => exec_apply_nothing h htime curve, fun time curve h htime => ?_,
    fun curve h hslot => ?_, fun time curve m h => ?_⟩
  · obtain ⟨t, hexec, hframe, hself, hothers, hslot, hslots, hknob, hown, hother⟩ := exec_paramSet_morphing h hx rfl
    rw [chainTold_some] at hown hother
    exact ⟨t, hexec, hframe, hself, hothers, hslot, hslots, hknob, hown, hother⟩
  · obtain ⟨hready, -, hnone⟩ := h
    obtain ⟨t, hexec, happlied, hparam, hslots, hown, hother⟩ := exec_apply_struct (p := p) hready hnone htime curve
    exact ⟨t, hexec, happlied, hparam, by rw [State.slotOf, hslots]; rfl, hown, hother⟩
  · obtain ⟨t, hexec, happlied, hparam, hafter, hown, hother⟩ := exec_apply_now h hslot curve
    refine ⟨t, hexec, happlied, hparam, hafter, ?_, ?_⟩
    · rw [hown]
      unfold State.slotNow
      cases s.slotOf p with
      | none => rfl
      | some m => rw [Option.map_some, chainTold_some]; rfl
    · rw [hother]
      unfold State.slotNow
      cases s.slotOf p with
      | none => rfl
      | some m => rw [Option.map_some, chainTold_some]; rfl
  · refine exec_apply_retarget h curve (List.filterMap_congr fun i _ => ?_)
    unfold State.retargeted
    cases m.entries.find? fun e => e.index == i <;> rfl

end Sys2Proof.Machine
end
